-- ==== Sys2Proof/Word.lean ====
section
/-! DEFINITION. The word types of the WL48: a word of work memory, a word address, a tick count. -/

namespace Sys2Proof

/-- A word is 16 bits, bit 15 the most significant (00, Conventions, Numbers). -/
abbrev Word := BitVec 16

/-- A word address into work memory, 0x0000 to 0x7FFF (00, Conventions; R151). -/
abbrev Addr := BitVec 15

/-- A value of the 32-bit wrapping tick counter (R158). -/
abbrev Ticks := BitVec 32

/-- Port numbers 0 to 47 (00, Principal quantities). -/
abbrev PortNo := Fin 48

/-- Quad numbers 0 to 11. -/
abbrev QuadNo := Fin 12

/-- Echo engine numbers 0 to 3. -/
abbrev EngineNo := Fin 4

/-- Job cell indices 0 to 127. -/
abbrev CellNo := Fin 128

/-- Trace slab numbers 0 to 39. -/
abbrev SlabNo := Fin 40

/-- Page numbers 0 to 3 of the offer exchange. -/
abbrev PageNo := Fin 4

end Sys2Proof
end

