-- ==== Sys2Proof/Syntax.lean ====
section
/-! DEFINITION. The commands of the WL48: one constructor per row of spec/opcode_table.json, in the table's order,
with what the event carries from outside as its operands. -/

namespace Sys2Proof

/-- The four echo bitstreams of a capture, one per pair (R93). Bit t of a number is the bit the front end delivers in
capture period t (log entry 11). -/
structure EchoBits where
  a : Nat
  b : Nat
  c : Nat
  d : Nat
deriving DecidableEq, Repr

inductive Instr where
  /-- PIN_RESET (R159): the reset pin is released; bit q of `levels` is the front-end-ready level of quad q (R3). -/
  | pinReset (levels : BitVec 12)
  /-- FILL_DONE (R159): the start-up fill completes. -/
  | fillDone
  /-- RUN (R160): RUN is written to RUN CONTROL. -/
  | run
  /-- STOP (R161): STOP is written to RUN CONTROL. -/
  | stop
  /-- STOP_DONE (R161): the four shares of STOPPING are complete. -/
  | stopDone
  /-- TIMEBASE_WRITE (R157). -/
  | timebaseWrite (value : Word)
  /-- HAND_IN (R137). -/
  | handIn (value : Word)
  /-- INTAKE_STATUS_CLEAR (R138). -/
  | intakeStatusClear (value : Word)
  /-- NEWS_ENABLE_WRITE (R165). -/
  | newsEnableWrite (value : Word)
  /-- NEWS_CLEAR (R163): a write to the news word of a port, or to the global news word (`none`). -/
  | newsClear (target : Option PortNo) (value : Word)
  /-- HOST_WRITE (R151): a write to any other word of work memory. -/
  | hostWrite (addr : Addr) (value : Word)
  /-- TICK (R158): a tick at every block but intake, or the entry that intake owes of the tick before (log entry 5). -/
  | tick
  /-- OFFER_TIMEOUT (R9). -/
  | offerTimeout (port : PortNo)
  /-- BACKOFF_EXPIRY (R11). -/
  | backoffExpiry (port : PortNo)
  /-- ROLE_HOLD_EXPIRY (R14). -/
  | roleHoldExpiry (port : PortNo)
  /-- BURST_DUE (R29). -/
  | burstDue (port : PortNo)
  /-- BURST_SENT (R28). -/
  | burstSent (port : PortNo)
  /-- RECEIVE_TRANSITION (R37): the transitions of one decoder sample, in the order they arrive (true rises);
  `sample` numbers the decoder samples (log entry 15). -/
  | receiveTransition (port : PortNo) (sample : Nat) (rises : List Bool)
  /-- BURST_END (R38). -/
  | burstEnd (port : PortNo)
  /-- EXCHANGE_BREAK (R55). -/
  | exchangeBreak (port : PortNo)
  /-- LOCK_RISE (R67, R78): the front end reports lock up. -/
  | lockRise (port : PortNo)
  /-- LOCK_FALL (R70, R78): the front end reports lock down. -/
  | lockFall (port : PortNo)
  /-- ERROR_EVENT (R65). -/
  | errorEvent (port : PortNo)
  /-- LOCK_TIMEOUT (R68). -/
  | lockTimeout (port : PortNo)
  /-- VERIFY_WINDOW_END (R71). -/
  | verifyWindowEnd (port : PortNo)
  /-- MONITOR_WINDOW_END (R77). -/
  | monitorWindowEnd (port : PortNo)
  /-- DROP_HOLD_EXPIRY (R78). -/
  | dropHoldExpiry (port : PortNo)
  /-- READINESS_FALL (R4). -/
  | readinessFall (quad : QuadNo)
  /-- READINESS_RISE (R3). -/
  | readinessRise (quad : QuadNo)
  /-- POST_REQUEST (R108): the arbiter takes the request this port has posted. -/
  | postRequest (port : PortNo)
  /-- WITHDRAWAL (R114): the arbiter takes the withdrawal this port has made. -/
  | withdrawal (port : PortNo)
  /-- WATCH_REQUEST_RAISE (R109): the waiting WATCH request of this port is raised. -/
  | watchRequestRaise (port : PortNo)
  /-- GRANT_TAKEN (R112): the grant of this engine reaches its port. -/
  | grantTaken (engine : EngineNo)
  /-- QUIET_TRY_START (R90): a further quiet try begins. -/
  | quietTryStart (engine : EngineNo)
  /-- QUIET_TRY (R90): the capture of a quiet try ends, having received these bitstreams. -/
  | quietTry (engine : EngineNo) (bits : EchoBits)
  /-- SHOT (R92): a shot ends, its capture having received these bitstreams. -/
  | shot (engine : EngineNo) (bits : EchoBits)
  /-- PAIR_COMPLETION (R100). -/
  | pairCompletion (engine : EngineNo)
  /-- WATCH_EXPIRY (R128). -/
  | watchExpiry
  /-- RESET_PIN_ASSERTED (R159). -/
  | resetPinAsserted
deriving DecidableEq, Repr

end Sys2Proof
end

