-- ==== Sys2Proof/Decode.lean ====
section
/-! DEFINITION. The command a word spells by the bits of spec/opcode_table.json. No row of the table gives bits
("fields": [] in every row, no "fixed"), so no word spells a command. -/

namespace Sys2Proof

/-- The command that the `nbits` low bits of `w` spell by the table: none, as the table gives no row any bits. -/
def decodeTableWord (_nbits _w : Nat) : Option Instr := none

end Sys2Proof
end

