-- ==== Sys2Proof/Config.lean ====
section
/-! DEFINITION. What is fixed for the WL48 (figures of the manual) and the one free value. -/

namespace Sys2Proof.Config

/-- The part code of IDENT (R156). -/
def partCode : Word := 0x57A1

/-- The identity words: revision, port count, engine count (R156). -/
def revision : Word := 1
def portCount : Word := 48
def engineCount : Word := 4

/-- The divisor after pin reset, a tick of 1 ms (R157). -/
def resetDivisor : Word := 25000

/-- Entries of the intake queue (R137) and of a port job list (R142). -/
def queueDepth : Nat := 16
def listDepth : Nat := 4

/-- Ticks between due bursts (R29), of the break timer (R55), and the unit of a backoff (R8, R10). -/
def burstInterval : Nat := 12
def breakTicks : Nat := 36
def backoffUnit : Nat := 24

/-- Taken transitions in a calibration window (R42), and the longest interval inside a burst (R38). -/
def windowLength : Nat := 256
def longestInterval : Nat := 16

/-- Positions of a quiet try (R90) and tries made for a pair (R90). -/
def tryPositions : Nat := 32
def tryLimit : Nat := 3

/-- The longest pattern in chips (R86). -/
def longestPattern : Nat := 2032

/-- The restart that ends an attempt (R54) and the clash that is a role fault (R59). -/
def restartLimit : Nat := 5
def clashLimit : Nat := 7

/-- FREE VALUE (DESIGN CHOICE, safe, log entry 12). R91 records the third try's largest output as the peak of a
NOISY pair "as it stands", and the report's peak is a signed 16-bit word; an output outside that range has no
stated peak. The n-th such peak is `freePeak n`: no body, so nothing can be proved of it. -/
opaque freePeak : Nat → Word

end Sys2Proof.Config
end

