-- ==== Sys2Proof/Machine/State.lean ====
section
/-! DEFINITION. The state of the WL48 as plain data, the reasons a step can stop, and the state right after pin reset.
What work memory shows of an on-chip field is computed from that field (Machine/Layout.lean), so each field has one
home (log entry 2). -/

namespace Sys2Proof.Machine

/-! ## Rates, roles, pairs -/

/-- The line rates; the code of 11 (100M 0, 1G 1, 2.5G 2, 5G 3) is `Rate.code`. -/
inductive Rate where
  | r100M | r1G | r2G5 | r5G
deriving DecidableEq, Repr

/-- A set of rates in four bits, lowest bit 100M, highest 5G (11, opening paragraph). -/
abbrev RateSet := BitVec 4

inductive Role where
  | lead | follow
deriving DecidableEq, Repr

/-- Role claims, coded 0 to 3 in this order (11.3). -/
inductive RoleClaim where
  | forceLead | forceFollow | preferLead | preferFollow
deriving DecidableEq, Repr

inductive Pair where
  | a | b | c | d
deriving DecidableEq, Repr

/-- One thing for each of the four pairs. -/
structure Pairs (α : Type) where
  a : α
  b : α
  c : α
  d : α
deriving DecidableEq, Repr

/-! ## Profile, recipe, job -/

/-- The active profile (R5), with the values of the TRAIN parameters (11.3). -/
structure Profile where
  allowed : RateSet
  claim : RoleClaim
  precheck : Bool
  autoRetrain : Bool
  downshift : Bool
  watch : Bool
  attemptLimit : Nat
  offerTimeout : Nat
  lockTimeout : Nat
  verifyWindow : Nat
  verifyThreshold : Nat
  monitorWindow : Nat
  monitorThreshold : Nat
  badLimit : Nat
  dropHold : Nat
  roleHold : Nat
  extraCount : Nat
  extra1 : Word
  extra2 : Word
deriving DecidableEq, Repr

/-- The recipe of a measurement (R121). The pattern index has three bits and no value out of range. -/
structure Recipe where
  pairSet : BitVec 4
  crossCheck : Bool
  pattern : Fin 8
  chipDivider : Nat
  order : Nat
  decimation : Nat
  window : Nat
  blanking : Nat
  shift : Nat
  mild : Nat
  strong : Nat
  cross : Nat
  shots : Nat
  trace : Bool
deriving DecidableEq, Repr

/-- The work of a job that reaches a port job list; a CANCEL never does (R143). -/
inductive Work where
  | train (profile : Profile)
  | diagnose (recipe : Recipe) (intrusive : Bool)
  | hold
deriving DecidableEq, Repr

/-- An entry of a port job list: the cell and the copy intake took of it (R134), with the start tick written at the
job's start. -/
structure Job where
  cell : CellNo
  tag : Word
  work : Work
  start : Ticks
deriving DecidableEq, Repr

/-- Custody of a job cell (R136). -/
inductive Custody where
  | outside | intake | listed | running
deriving DecidableEq, Repr

/-- Cell states (R135), coded 0 to 6 in this order (11.3). -/
inductive CellState where
  | free | ready | queued | running | done | refused | cancelled
deriving DecidableEq, Repr

/-- Outcomes of a cell (11.3), coded 0 to 11 in this order. -/
inductive JobOutcome where
  | none | linked | noPartner | gaveUp | noCommonRate | cableFault | roleFault | reported | linkUp | held
  | cancelDone | tooLate
deriving DecidableEq, Repr

/-- Reasons of a cell (11.3), coded 0 to 7 in this order. -/
inductive Reason where
  | none | badKind | badPort | badParam | listFull | badTarget | byCancel | stopped
deriving DecidableEq, Repr

/-! ## Ports -/

/-- The eleven port states (R2), coded 0 to 10 in this order (11.4). -/
inductive PortState where
  | disabled | check | offer | exchange | verify | linked | backoff | roleHold | cableHold | idle | probe
deriving DecidableEq, Repr

/-- Sub-phase of VERIFY (R66, R67), coded 0 to 2. -/
inductive SubPhase where
  | none | lockWait | window
deriving DecidableEq, Repr

/-- Line modes (R1). -/
inductive LineMode where
  | quiet
  | burst
  | data (rate : Rate) (role : Role)
  | pulse
deriving DecidableEq, Repr

/-- Last attempt results (R25), coded 0 to 10 in this order (11.4). -/
inductive AttemptResult where
  | none | linked | aborted | roleFault | noPartner | exchangeUnstable | noCommonRate | lockTimeout
  | lockLostInVerify | verifyErrors | frontEnd
deriving DecidableEq, Repr

/-- Down reasons (R24), coded 1 to 7 in this order (11.4). -/
inductive DownReason where
  | lockLost | errors | retrainRequested | diagnose | hold | stopped | frontEnd
deriving DecidableEq, Repr

/-- A link history record (R24); an UP record has no down reason. -/
structure HistoryRecord where
  sequence : Word
  down : Option DownReason
  tick : Ticks
  rate : Rate
  role : Role
  attempts : Nat
  downshifts : Nat
deriving DecidableEq, Repr

/-- The resolved rate and role (R25). -/
structure Link where
  rate : Rate
  role : Role
deriving DecidableEq, Repr

/-- The thirteen counters of R26, in the order of its table. -/
inductive Counter where
  | attempts | badBursts | suppressedBursts | pageRestarts | exchangeBreaks | seedClashes | roleFaults | downshifts
  | linkUps | linkDowns | lockBlips | watchPasses | watchLate
deriving DecidableEq, Repr

/-- What a port publishes in its status area from fields of its own (R25). The job-list indices and whether a profile
is present are read from the job list and the profile. -/
structure Status where
  state : PortState
  sub : SubPhase
  offerSet : RateSet
  qualSet : RateSet
  resolved : Option Link
  running : Option CellNo
  failCounts : Vector (BitVec 8) 4
  attempts : Nat
  downshifts : Nat
  seed : BitVec 5
  page : PageNo
  ours : Vector (Option Word) 4
  partner : Vector (Option Word) 4
  lastResult : AttemptResult
  pubMap : BitVec 16
  split : Nat
  lastFailed : Bool
  failedSince : Bool
  counters : Vector Word 13
  errPub : BitVec 32
  unlockPub : BitVec 32
deriving DecidableEq, Repr

/-- The timers of a port (R2); `some n` has n ticks left, `some 0` is due to expire, `none` is stopped. -/
structure Timers where
  offer : Option Nat
  brk : Option Nat
  lock : Option Nat
  verify : Option Nat
  monitor : Option Nat
  drop : Option Nat
  backoff : Option Nat
  roleHold : Option Nat
deriving DecidableEq, Repr

/-- The burst sender: ticks since a burst last fell due (`none`: the schedule is stopped), whether a burst is due, and
the word of the burst on the line (R28, R29, R32). -/
structure Sender where
  phase : Option Nat
  due : Bool
  onLine : Option Word
deriving DecidableEq, Repr

/-- The burst a decoder has in progress (R37): the cells decoded so far, newest first; whether a boundary half-interval
is pending; the sample of the last taken transition; the split in force; whether it has been found bad. -/
structure BurstIn where
  cells : List Bool
  halfPending : Bool
  last : Nat
  split : Nat
  bad : Bool
deriving DecidableEq, Repr

/-- The internal state of a decoder (R37); the published map, split and flags are in `Status`. -/
structure Decoder where
  burst : Option BurstIn
  windowCount : Nat
  working : BitVec 16
deriving DecidableEq, Repr

/-- The unpublished state of the exchange (R46); the break timer is in `Timers`. -/
structure Exchange where
  runWord : Option Word
  runCount : Nat
  isMatched : Bool
  ack : Bool
  ackSent : Nat
  seen : Bool
  restarts : Nat
  clashes : Nat
deriving DecidableEq, Repr

/-- Verify count, monitor count and bad-window run (R69, R77). -/
structure Monitor where
  verifyCount : Word
  count : Word
  badRun : Nat
deriving DecidableEq, Repr

/-- Sources of a measurement (R83). -/
inductive Source where
  | job | precheck | watch
deriving DecidableEq, Repr

/-- Statuses of a pair (R101), coded 0 to 7 in this order (11.4). -/
inductive PairStatus where
  | notTested | normal | openEnd | short | impedanceHigh | impedanceLow | crossShort | noisy
deriving DecidableEq, Repr

/-- A pair result (R100). -/
structure PairResult where
  status : PairStatus
  distance : Option Word
  peak : Word
  crossPair : Option Pair
  tries : Nat
  slab : Option SlabNo
deriving DecidableEq, Repr

/-- A cable report (R101); `flags` in the order of 11.4. `source` is absent while the sequence number is 0. -/
structure Report where
  sequence : Word
  source : Option Source
  tag : Option Word
  startTick : Ticks
  endTick : Ticks
  velocity : Word
  flags : BitVec 5
  pairs : Pairs PairResult
deriving DecidableEq, Repr

/-- Kinds of engine request (R107); a JOB request carries the job's recipe and tag (R108, R124). -/
inductive ReqKind where
  | job (recipe : Recipe) (tag : Word)
  | precheck
  | watch
deriving DecidableEq, Repr

/-- What a port sends the arbiter; messages of one port arrive in the order made (R108). -/
inductive PortMsg where
  | request (kind : ReqKind)
  | withdraw
deriving DecidableEq, Repr

/-- A port controller and its port page. -/
structure Port where
  editCount : Word
  news : BitVec 8
  status : Status
  profile : Option Profile
  jobs : List Job
  history : List HistoryRecord
  report : Report
  recordCount : Word
  reportCount : Word
  seedGen : Word
  errTotal : BitVec 32
  unlockTotal : BitVec 32
  timers : Timers
  backoffLen : Nat
  sender : Sender
  decoder : Decoder
  exch : Exchange
  capRemoved : Bool
  lockUp : Bool
  monitor : Monitor
  request : Option ReqKind
  outbox : List PortMsg
deriving DecidableEq, Repr

/-! ## Engines and arbiter -/

/-- Where a quiet try stands (R90): capturing, waiting for the next tick, or due to begin since that tick. -/
inductive TryState where
  | capturing | waiting | due
deriving DecidableEq, Repr

/-- One accumulator per position (R94). -/
abbrev Accumulators := List (BitVec 32)

/-- The state of a held engine (R83), with what it has done on the current pair: quiet tries made, shots made,
accumulators. -/
inductive Phase where
  | quietCheck (tries : Nat) (at_ : TryState)
  | shooting (tries : Nat) (done : Nat) (acc : Pairs Accumulators)
  | finishing (tries : Nat) (acc : Pairs Accumulators)
deriving DecidableEq, Repr

/-- What an engine holds while it is held (R83); `pattern` is its pattern generator (R86). -/
structure Measurement where
  holder : PortNo
  source : Source
  tag : Option Word
  recipe : Recipe
  velocity : Word
  sequence : Word
  startTick : Ticks
  pattern : List Bool
  pair : Option Pair
  phase : Phase
  filling : Option SlabNo
  results : Pairs (Option PairResult)
  flags : BitVec 5
deriving DecidableEq, Repr

/-- An echo engine: FREE when it has no measurement (R83). -/
structure Engine where
  meas : Option Measurement
  unused : Word
deriving DecidableEq, Repr

/-- Priority classes (R107). -/
inductive ReqClass where
  | first | second
deriving DecidableEq, Repr

/-- A waiting request (R107). `place` numbers the requests in the order the arbiter took them (log entry 10). -/
structure Request where
  port : PortNo
  kind : ReqKind
  cls : ReqClass
  arrival : Ticks
  place : Nat
deriving DecidableEq, Repr

/-- An entry of the grant table (R111, R112): the request granted, and whether the grant has been accepted. -/
structure Grant where
  request : Request
  accepted : Bool
deriving DecidableEq, Repr

/-! ## The part -/

/-- Run states (R159 to R161), coded 0 to 3 in this order (11.2). -/
inductive RunState where
  | filling | stopped | running | stopping
deriving DecidableEq, Repr

/-- Work memory held as words: address and word, rising addresses, no entry 0 (log entry 1). -/
abbrev Memory := List (Nat × Word)

/-- A command never stops the part with a fault (INVENTORY.md, Faults): no constructor. -/
inductive Fault where
deriving DecidableEq, Repr

/-- Reasons to refuse a command. -/
inductive Refusal where
  /-- Raised by `exec` for a command with no meaning yet; safe, as it stops where the part goes on. No arm does. -/
  | notModelled (mnemonic : String)
deriving DecidableEq, Repr

/-- The whole part. `intakeDue`: the tick has been taken at every other block, and intake owes its entry (log entry 5).
-/
structure State where
  pending : List Instr
  resetPin : Bool
  runState : RunState
  divisor : Word
  lock : Bool
  divider : Word
  tick : Ticks
  mem : Memory
  globalNews : BitVec 4
  newsEnable : BitVec 12
  intakeQueue : List CellNo
  intakeDue : Bool
  intakeFlags : BitVec 4
  intakeErrors : Word
  custody : Vector Custody 128
  ports : Vector Port 48
  ready : Vector Bool 12
  engines : Vector Engine 4
  requests : List Request
  nextPlace : Nat
  grants : Vector (Option Grant) 4
  claims : Vector Bool 12
  watchInterval : Word
  watchElapsed : Word
  freeCount : Nat
deriving DecidableEq, Repr

/-! ## Reset -/

def Pairs.all {α : Type} (x : α) : Pairs α := ⟨x, x, x, x⟩

/-- All four rates. -/
def RateSet.all : RateSet := 15

def Timers.stopped : Timers := ⟨none, none, none, none, none, none, none, none⟩

def Sender.stopped : Sender := ⟨none, false, none⟩

def Decoder.clear : Decoder := ⟨none, 0, 0⟩

/-- The unpublished items at the start of an attempt and at pin reset (R46). -/
def Exchange.start : Exchange := ⟨none, 0, false, false, 0, false, 0, 0⟩

def Monitor.zero : Monitor := ⟨0, 0, 0⟩

/-- The result of a pair that was not measured (R101). -/
def PairResult.notTested : PairResult := ⟨.notTested, none, 0, none, 0, none⟩

/-- The report area after the zero fill (R101). -/
def Report.zero : Report := ⟨0, none, none, 0, 0, 0, 0, Pairs.all PairResult.notTested⟩

/-- The reset values of the status area (R25). -/
def Status.reset : Status :=
  { state := .disabled, sub := .none, offerSet := 0, qualSet := RateSet.all, resolved := none, running := none,
    failCounts := Vector.replicate 4 0, attempts := 0, downshifts := 0, seed := 0, page := 0,
    ours := Vector.replicate 4 none, partner := Vector.replicate 4 none, lastResult := .none, pubMap := 0, split := 0,
    lastFailed := false, failedSince := false, counters := Vector.replicate 13 0, errPub := 0, unlockPub := 0 }

/-- Port p at pin reset; its seed generator is p + 1 (R20). -/
def Port.reset (p : PortNo) : Port :=
  { editCount := 0, news := 0, status := Status.reset, profile := none, jobs := [], history := [],
    report := Report.zero, recordCount := 0, reportCount := 0, seedGen := BitVec.ofNat 16 (p.val + 1), errTotal := 0,
    unlockTotal := 0, timers := Timers.stopped, backoffLen := 0, sender := Sender.stopped, decoder := Decoder.clear,
    exch := Exchange.start, capRemoved := false, lockUp := false, monitor := Monitor.zero, request := none,
    outbox := [] }

def Engine.reset : Engine := ⟨none, 0⟩

/-- The part right after the reset pin is released (R159): FILLING, every block in its pin-reset state. The ready flags
take the levels the front ends present, here not ready (log entry 7). -/
def State.reset : State :=
  { pending := [], resetPin := false, runState := .filling, divisor := Config.resetDivisor, lock := false,
    divider := 0, tick := 0, mem := [], globalNews := 0, newsEnable := 0, intakeQueue := [], intakeDue := false,
    intakeFlags := 0, intakeErrors := 0, custody := Vector.replicate 128 .outside, ports := Vector.ofFn Port.reset,
    ready := Vector.replicate 12 false, engines := Vector.replicate 4 Engine.reset, requests := [], nextPlace := 0,
    grants := Vector.replicate 4 none, claims := Vector.replicate 12 false, watchInterval := 0, watchElapsed := 0,
    freeCount := 0 }

end Sys2Proof.Machine
end

