-- ==== Sys2Proof/Machine/Ops.lean ====
section
/-! DEFINITION. The named operations over work memory, port pages, job cells and the link history, and the shape every
command shares. -/

namespace Sys2Proof.Machine

/-! ## Bits and codes -/

/-- One more, stopping at the largest value (00, Conventions, Counters). -/
def satInc {w : Nat} (x : BitVec w) : BitVec w :=
  if x = BitVec.allOnes w then x else x + 1

/-- A word holding the fields given as (lowest bit, value). -/
def packWord (fields : List (Nat × Nat)) : Word :=
  BitVec.ofNat 16 (fields.foldr (fun f acc => f.2 * 2 ^ f.1 + acc) 0)

def flagBit (b : Bool) : Nat := if b then 1 else 0

/-- The high and low words of a 32-bit value (11, opening paragraph). -/
def highWord (t : BitVec 32) : Word := t.extractLsb' 16 16
def lowWord (t : BitVec 32) : Word := t.extractLsb' 0 16

def Rate.code : Rate → Fin 4
  | .r100M => 0 | .r1G => 1 | .r2G5 => 2 | .r5G => 3

def RateSet.has (s : RateSet) (r : Rate) : Bool := s.getLsbD r.code.val

def RateSet.single (r : Rate) : RateSet := (1 : BitVec 4) <<< r.code.val

def RateSet.remove (s : RateSet) (r : Rate) : RateSet := s &&& ~~~RateSet.single r

/-- The highest rate of a set, in the order 5G, 2.5G, 1G, 100M (R61). -/
def RateSet.highest (s : RateSet) : Option Rate :=
  if RateSet.has s .r5G then some .r5G
  else if RateSet.has s .r2G5 then some .r2G5
  else if RateSet.has s .r1G then some .r1G
  else if RateSet.has s .r100M then some .r100M
  else none

def Role.code : Role → Nat
  | .lead => 0 | .follow => 1

def RoleClaim.code : RoleClaim → Nat
  | .forceLead => 0 | .forceFollow => 1 | .preferLead => 2 | .preferFollow => 3

/-- The claim of a two-bit code (11.3). -/
def RoleClaim.ofCode (c : BitVec 2) : RoleClaim :=
  if c = 0 then .forceLead else if c = 1 then .forceFollow else if c = 2 then .preferLead else .preferFollow

def Pair.code : Pair → Nat
  | .a => 0 | .b => 1 | .c => 2 | .d => 3

def Pair.list : List Pair := [.a, .b, .c, .d]

def Pairs.get {α : Type} (x : Pairs α) : Pair → α
  | .a => x.a | .b => x.b | .c => x.c | .d => x.d

def Pairs.set {α : Type} (x : Pairs α) (p : Pair) (v : α) : Pairs α :=
  match p with
  | .a => { x with a := v } | .b => { x with b := v } | .c => { x with c := v } | .d => { x with d := v }

def Pairs.map {α β : Type} (f : α → β) (x : Pairs α) : Pairs β := ⟨f x.a, f x.b, f x.c, f x.d⟩

def Pairs.zipWith {α β γ : Type} (f : α → β → γ) (x : Pairs α) (y : Pairs β) : Pairs γ :=
  ⟨f x.a y.a, f x.b y.b, f x.c y.c, f x.d y.d⟩

def CellState.code : CellState → Word
  | .free => 0 | .ready => 1 | .queued => 2 | .running => 3 | .done => 4 | .refused => 5 | .cancelled => 6

def JobOutcome.code : JobOutcome → Nat
  | .none => 0 | .linked => 1 | .noPartner => 2 | .gaveUp => 3 | .noCommonRate => 4 | .cableFault => 5
  | .roleFault => 6 | .reported => 7 | .linkUp => 8 | .held => 9 | .cancelDone => 10 | .tooLate => 11

def Reason.code : Reason → Nat
  | .none => 0 | .badKind => 1 | .badPort => 2 | .badParam => 3 | .listFull => 4 | .badTarget => 5
  | .byCancel => 6 | .stopped => 7

/-- Quad q holds ports 4q to 4q+3 (01, opening paragraph). -/
def quadOf (p : PortNo) : QuadNo := ⟨p.val / 4, by omega⟩

/-- The four ports of a quad, in port order. -/
def quadPorts (q : QuadNo) : List PortNo :=
  [⟨4 * q.val, by omega⟩, ⟨4 * q.val + 1, by omega⟩, ⟨4 * q.val + 2, by omega⟩, ⟨4 * q.val + 3, by omega⟩]

/-! ## Work memory (R151) -/

/-- What an address that is not listed reads as: the zero fill (R159). -/
def Memory.unlisted : Word := 0

def Memory.read : Memory → Nat → Word
  | [], _ => Memory.unlisted
  | (k, v) :: rest, a => if k = a then v else Memory.read rest a

/-- A write keeps the form: rising addresses, no entry equal to what an unlisted address reads as. -/
def Memory.write : Memory → Nat → Word → Memory
  | [], a, v => if v = Memory.unlisted then [] else [(a, v)]
  | (k, w) :: rest, a, v =>
    if a < k then (if v = Memory.unlisted then (k, w) :: rest else (a, v) :: (k, w) :: rest)
    else if a = k then (if v = Memory.unlisted then rest else (a, v) :: rest)
    else (k, w) :: Memory.write rest a v

/-- Every address listed is at least `low`, they rise, all lie in the 32,768 words, and no word is the unlisted one. -/
def Memory.wfFrom : Nat → Memory → Bool
  | _, [] => true
  | low, (k, v) :: rest =>
    decide (low ≤ k) && decide (k < 32768) && decide (v ≠ Memory.unlisted) && Memory.wfFrom (k + 1) rest

/-- The canonical form of work memory. -/
def Memory.wf (m : Memory) : Bool := Memory.wfFrom 0 m

/-! ## Addresses (11.1) -/

def cellBase (c : CellNo) : Nat := 0x0400 + 32 * c.val
def pageBase (p : PortNo) : Nat := 0x1400 + 128 * p.val
def slabBase (s : SlabNo) : Nat := 0x2C00 + 512 * s.val
def patternBase (k : Fin 8) : Nat := 0x7C00 + 128 * k.val
def ownerAddr (s : SlabNo) : Nat := 0x0080 + s.val
def slabEntryBase (s : SlabNo) : Nat := 0x0100 + 4 * s.val
def watchIntervalAddr : Nat := 0x0030
def velocityAddr : Nat := 0x0031
def quickRecipeBase : Nat := 0x0040

/-- Slab owner codes (11.1). -/
def ownerFree : Word := 0
def ownerFilling : Word := 1
def ownerHeld : Word := 2

/-! ## Single fields of State -/

def State.port (s : State) (p : PortNo) : Port := s.ports[p]

def State.engine (s : State) (e : EngineNo) : Engine := s.engines[e]

def State.isReady (s : State) (q : QuadNo) : Bool := s.ready[q]

def State.claimed (s : State) (q : QuadNo) : Bool := s.claims[q]

def State.grant (s : State) (e : EngineNo) : Option Grant := s.grants[e]

def State.custodyOf (s : State) (c : CellNo) : Custody := s.custody[c]

def State.setPort (s : State) (p : PortNo) (x : Port) : State := { s with ports := s.ports.set p x }

def State.setEngine (s : State) (e : EngineNo) (x : Engine) : State := { s with engines := s.engines.set e x }

def State.setReady (s : State) (q : QuadNo) (b : Bool) : State := { s with ready := s.ready.set q b }

def State.setClaim (s : State) (q : QuadNo) (b : Bool) : State := { s with claims := s.claims.set q b }

def State.setGrant (s : State) (e : EngineNo) (g : Option Grant) : State := { s with grants := s.grants.set e g }

def State.setCustody (s : State) (c : CellNo) (k : Custody) : State := { s with custody := s.custody.set c k }

def State.readMem (s : State) (a : Nat) : Word := s.mem.read a

def State.writeMem (s : State) (a : Nat) (v : Word) : State := { s with mem := s.mem.write a v }

/-! ## Publication (R153) -/

/-- The edit count goes to an odd value, once in an event (R153 steps 1 and 2). -/
def Port.openEdit (x : Port) : Port :=
  if x.editCount.getLsbD 0 then x else { x with editCount := x.editCount + 1 }

/-- The edit count goes to an even value at the end of the event that opened it (R153 step 3). -/
def Port.closeEdit (x : Port) : Port :=
  if x.editCount.getLsbD 0 then { x with editCount := x.editCount + 1 } else x

/-- The page shows the same: status area (with the job-list indices and whether a profile is present), history and
report (R25, R153). -/
def Port.samePage (x y : Port) : Bool :=
  decide (x.status = y.status) && decide (x.profile.isSome = y.profile.isSome) &&
    decide (x.jobs.map Job.cell = y.jobs.map Job.cell) && decide (x.history = y.history) &&
    decide (x.report = y.report)

/-- A change of a port. A change of its page opens the event's one edit (R25, R153; log entry 13). -/
def State.updPort (s : State) (p : PortNo) (f : Port → Port) : State :=
  let y := f (s.port p)
  s.setPort p (if Port.samePage (s.port p) y then y else y.openEdit)

/-- Every edit the event opened is closed at its end (R153). -/
def State.closeEdits (s : State) : State := { s with ports := Vector.ofFn fun p => (s.port p).closeEdit }

/-! ## The shape every command shares -/

/-- A command is taken unless the reset pin is asserted (R159), and its edits close at its end (R153). -/
def State.take (s : State) (f : State → State) : Host.Outcome State Fault Refusal :=
  .next (if s.resetPin then s else (f s).closeEdits)

/-- Work done only in the RUNNING run state (09, Run states). -/
def State.ifRunning (s : State) (f : State → State) : State := if s.runState = .running then f s else s

/-- Host writes are ignored while FILLING (R155). -/
def State.ifFilled (s : State) (f : State → State) : State := if s.runState = .filling then s else f s

/-- Do `f` for each of a list in order. -/
def State.forEach {α : Type} (s : State) (xs : List α) (f : State → α → State) : State := xs.foldl f s

/-! ## Job cells (R134, R135) -/

def State.cellWord (s : State) (c : CellNo) (i : Nat) : Word := s.readMem (cellBase c + i)

/-- A 32-bit tick value takes two words, the high word first (11). -/
def State.writeTicks (s : State) (a : Nat) (t : Ticks) : State :=
  (s.writeMem a (highWord t)).writeMem (a + 1) (lowWord t)

def State.writeCellState (s : State) (c : CellNo) (st : CellState) : State := s.writeMem (cellBase c) st.code

/-- A terminal state (R135): outcome and reason, start tick, end tick (the tick counter), and the state word last; and
the custody returns to OUTSIDE on the same event (R136). -/
def State.endCell (s : State) (c : CellNo) (st : CellState) (out : JobOutcome) (why : Reason) (start : Ticks) : State :=
  let s1 := s.writeMem (cellBase c + 3) (packWord [(8, out.code), (0, why.code)])
  let s2 := (s1.writeTicks (cellBase c + 4) start).writeTicks (cellBase c + 6) s.tick
  (s2.writeCellState c st).setCustody c .outside

/-! ## Link history (R24) -/

/-- Rate and role of the link; a port is LINKED only with both resolved (log entry 26 for the others). -/
def Port.link (x : Port) : Link := x.status.resolved.getD ⟨.r100M, .lead⟩

/-- A record is numbered, appended as the newest, and the oldest of four is pushed out (R24). -/
def Port.writeRecord (x : Port) (tick : Ticks) (down : Option DownReason) : Port :=
  let r : HistoryRecord :=
    { sequence := x.recordCount + 1, down := down, tick := tick, rate := x.link.rate, role := x.link.role,
      attempts := x.status.attempts, downshifts := x.status.downshifts }
  { x with recordCount := x.recordCount + 1, history := x.history.drop (x.history.length - 3) ++ [r] }

end Sys2Proof.Machine
end

