-- ==== Sys2Proof/Machine/Flags.lean ====
section
/-! DEFINITION. News flags, the news map, the interrupt line, refusal flags, counters and totals. -/

namespace Sys2Proof.Machine

/-- Flags of a port news word, by bit position (11.2). -/
inductive PortFlag where
  | jobDone | linkUp | linkDown | roleFault | calFail | reportNew | watchChange | counterWrap
deriving DecidableEq, Repr

def PortFlag.bit : PortFlag → Nat
  | .jobDone => 0 | .linkUp => 1 | .linkDown => 2 | .roleFault => 3 | .calFail => 4 | .reportNew => 5
  | .watchChange => 6 | .counterWrap => 7

/-- Flags of the global news word, by bit position (11.2). -/
inductive GlobalFlag where
  | intakeFault | slabExhausted | stopDone | recipeFault
deriving DecidableEq, Repr

def GlobalFlag.bit : GlobalFlag → Nat
  | .intakeFault => 0 | .slabExhausted => 1 | .stopDone => 2 | .recipeFault => 3

/-- Refusal flags of INTAKE STATUS, in the order of its bits 8 to 11 (11.2). -/
inductive RefusalFlag where
  | overrun | closed | badIndex | duplicate
deriving DecidableEq, Repr

def RefusalFlag.bit : RefusalFlag → Nat
  | .overrun => 0 | .closed => 1 | .badIndex => 2 | .duplicate => 3

/-- Set bit i, leaving the others as they stand. -/
def setBit {w : Nat} (x : BitVec w) (i : Nat) : BitVec w := x ||| ((1 : BitVec w) <<< i)

/-- A flag is set and stays set (R162). News words stand outside the edit (R153). -/
def Port.raise (x : Port) (f : PortFlag) : Port := { x with news := setBit x.news f.bit }

def State.raisePort (s : State) (p : PortNo) (f : PortFlag) : State := s.setPort p ((s.port p).raise f)

def State.raiseGlobal (s : State) (f : GlobalFlag) : State :=
  { s with globalNews := setBit s.globalNews f.bit }

/-- A refused hand-in sets its flag and raises INTAKE_FAULT (R137). -/
def State.refuseHandIn (s : State) (f : RefusalFlag) : State :=
  { s with intakeFlags := setBit s.intakeFlags f.bit }.raiseGlobal .intakeFault

/-- Bit p of the news map: port p's news word holds a set flag (R164). -/
def State.newsMapBit (s : State) (p : PortNo) : Bool := decide ((s.port p).news ≠ 0)

/-- The interrupt line: some set flag has its kind enabled (R165). Not asserted from the pin's assertion through the
fill. -/
def State.interruptLine (s : State) : Bool :=
  !s.resetPin && decide (s.runState ≠ .filling) &&
    ((List.finRange 48).any (fun p => decide ((s.port p).news &&& s.newsEnable.extractLsb' 0 8 ≠ 0)) ||
      decide (s.globalNews &&& s.newsEnable.extractLsb' 8 4 ≠ 0))

def Counter.index : Counter → Fin 13
  | .attempts => 0 | .badBursts => 1 | .suppressedBursts => 2 | .pageRestarts => 3 | .exchangeBreaks => 4
  | .seedClashes => 5 | .roleFaults => 6 | .downshifts => 7 | .linkUps => 8 | .linkDowns => 9 | .lockBlips => 10
  | .watchPasses => 11 | .watchLate => 12

def Status.counter (x : Status) (c : Counter) : Word := x.counters[c.index]

/-- A counter goes up by one and stays at 65,535 (R26). -/
def Port.bump (x : Port) (c : Counter) : Port :=
  { x with status := { x.status with counters := x.status.counters.set c.index (satInc (x.status.counter c)) } }

/-- One error event on the error event total; the wrap raises COUNTER_WRAP (R79). -/
def Port.addError (x : Port) : Port :=
  let y := { x with errTotal := x.errTotal + 1 }
  if y.errTotal = 0 then y.raise .counterWrap else y

/-- One tick on the unlock tick total; the wrap raises COUNTER_WRAP (R79). -/
def Port.addUnlockTick (x : Port) : Port :=
  let y := { x with unlockTotal := x.unlockTotal + 1 }
  if y.unlockTotal = 0 then y.raise .counterWrap else y

/-- The on-chip totals are published (R79). -/
def Port.publishTotals (x : Port) : Port :=
  { x with status := { x.status with errPub := x.errTotal, unlockPub := x.unlockTotal } }

end Sys2Proof.Machine
end

