-- ==== Sys2Proof/Machine/Operands.lean ====
section
/-! DEFINITION. The records a command reads: job cells and their parameter blocks, recipes, offer words; and the line
mode and decoder state that a port's other fields decide. -/

namespace Sys2Proof.Machine

/-! ## Job parameters (11.3, R5, R121, R141) -/

/-- A TRAIN profile from parameters 0 to 12 (11.3). -/
def Profile.ofWords (w : Nat → Word) : Profile :=
  { allowed := (w 0).extractLsb' 0 4, claim := RoleClaim.ofCode ((w 0).extractLsb' 4 2),
    precheck := (w 0).getLsbD 6, autoRetrain := (w 0).getLsbD 7, downshift := (w 0).getLsbD 8,
    watch := (w 0).getLsbD 9, attemptLimit := (w 1).toNat, offerTimeout := (w 2).toNat, lockTimeout := (w 3).toNat,
    verifyWindow := (w 4).toNat, verifyThreshold := (w 5).toNat, monitorWindow := (w 6).toNat,
    monitorThreshold := (w 7).toNat, badLimit := (w 8).toNat, dropHold := (w 9).toNat, roleHold := (w 10).toNat,
    extraCount := ((w 0).extractLsb' 12 2).toNat, extra1 := w 11, extra2 := w 12 }

def inRange (n lo hi : Nat) : Bool := decide (lo ≤ n) && decide (n ≤ hi)

/-- The ranges of R5 and R141. Extra payloads are read only where the count covers them (11.3). -/
def Profile.valid (p : Profile) : Bool :=
  decide (p.allowed ≠ 0) && inRange p.attemptLimit 1 15 && inRange p.offerTimeout 0 65535 &&
    inRange p.lockTimeout 1 1000 && inRange p.verifyWindow 1 1000 && inRange p.verifyThreshold 0 65535 &&
    inRange p.monitorWindow 1 65535 && inRange p.monitorThreshold 1 65535 && inRange p.badLimit 1 15 &&
    inRange p.dropHold 1 1000 && inRange p.roleHold 0 65535 && inRange p.extraCount 0 2 &&
    (decide (p.extraCount = 0) || decide (p.extra1.toNat ≤ 0x7FF)) &&
    (decide (p.extraCount ≤ 1) || decide (p.extra2.toNat ≤ 0x7FF))

/-- The pair set a precheck or a watch measures (R84). -/
def allPairs : BitVec 4 := 15

/-- A recipe from a DIAGNOSE parameter block (11.3): parameter 0 and parameters 1 to 10. -/
def Recipe.ofWords (w : Nat → Word) : Recipe :=
  { pairSet := (w 0).extractLsb' 0 4, crossCheck := (w 0).getLsbD 4, pattern := ((w 0).extractLsb' 8 3).toFin,
    chipDivider := (w 1).toNat, order := (w 2).toNat, decimation := (w 3).toNat, window := (w 4).toNat,
    blanking := (w 5).toNat, shift := (w 6).toNat, mild := (w 7).toNat, strong := (w 8).toNat, cross := (w 9).toNat,
    shots := (w 10).toNat, trace := (w 0).getLsbD 5 }

/-- The ranges of R121. -/
def Recipe.valid (r : Recipe) : Bool :=
  decide (r.pairSet ≠ 0) && inRange r.chipDivider 1 16 && inRange r.order 1 3 && inRange r.decimation 1 64 &&
    inRange r.window 16 512 && decide (r.blanking < r.window) && inRange r.shift 0 16 && inRange r.mild 1 32767 &&
    decide (r.mild ≤ r.strong) && decide (r.strong ≤ 32767) && inRange r.cross 1 32767 && inRange r.shots 1 256

/-- The quick recipe (11.5) as a precheck or a watch takes it: all four pairs, no trace (R84). -/
def State.quickRecipe (s : State) : Recipe :=
  { Recipe.ofWords (fun i => s.readMem (quickRecipeBase + i)) with pairSet := allPairs, trace := false }

def State.velocity (s : State) : Word := s.readMem velocityAddr

/-- Parameter i of a job cell (11.3). -/
def State.cellParam (s : State) (c : CellNo) (i : Nat) : Word := s.cellWord c (8 + i)

def State.cellKind (s : State) (c : CellNo) : Nat := ((s.cellWord c 1).extractLsb' 8 8).toNat

def State.cellPort (s : State) (c : CellNo) : Nat := ((s.cellWord c 1).extractLsb' 0 8).toNat

def State.cellTag (s : State) (c : CellNo) : Word := s.cellWord c 2

/-- A value 0 to 47 names a port. -/
def portOf (n : Nat) : Option PortNo := if h : n < 48 then some ⟨n, h⟩ else none

/-! ## Offer words (11.6) -/

def OfferWord.page (w : Word) : PageNo := (w.extractLsb' 14 2).toFin
def OfferWord.more (w : Word) : Bool := w.getLsbD 13
def OfferWord.ack (w : Word) : Bool := w.getLsbD 12
def OfferWord.parityFlag (w : Word) : Bool := w.getLsbD 11

/-- Page number, more-pages flag and payload, which make the content (R48). -/
def OfferWord.content (w : Word) : Word := w &&& 0xE7FF

/-- An odd number of 1 bits. -/
def OfferWord.odd (w : Word) : Bool := (List.range 16).foldl (fun acc i => acc != w.getLsbD i) false

/-- A word on the line: the content with the acknowledge flag, and the parity flag last, for an even number of 1 bits
(R32, R33). -/
def OfferWord.onLine (content : Word) (ack : Bool) : Word :=
  let w := OfferWord.content content ||| (if ack then 0x1000 else 0)
  if OfferWord.odd w then w ||| 0x0800 else w

/-- Page 0 (11.6): rate set in bits 10-7, role claim in bits 6-5, seed in bits 4-0. -/
def OfferWord.rates (w : Word) : RateSet := w.extractLsb' 7 4
def OfferWord.claim (w : Word) : RoleClaim := RoleClaim.ofCode (w.extractLsb' 5 2)
def OfferWord.seed (w : Word) : BitVec 5 := w.extractLsb' 0 5

/-- Page 1 (11.6): pairs C and D usable in bits 9 and 10. -/
def OfferWord.usableC (w : Word) : Bool := w.getLsbD 9
def OfferWord.usableD (w : Word) : Bool := w.getLsbD 10

/-- The line levels of a burst, two half-cells a cell, 17 cells: the start cell 1, then the word, most significant bit
first (R27, R28); a cell of value 1 is low then high, a cell of value 0 high then low. -/
def OfferWord.halfCells (w : Word) : List Bool :=
  (true :: (List.range 16).map fun i => w.getLsbD (15 - i)).flatMap fun b => [!b, b]

/-! ## Port states -/

/-- States in which the burst sender runs (R2). -/
def PortState.sends : PortState → Bool
  | .offer => true | .exchange => true
  | .disabled => false | .check => false | .verify => false | .linked => false | .backoff => false
  | .roleHold => false | .cableHold => false | .idle => false | .probe => false

/-- States in which the decoder takes transitions, but while the line is PULSE (R2, R37). -/
def PortState.listens : PortState → Bool
  | .offer => true | .exchange => true | .idle => true
  | .disabled => false | .check => false | .verify => false | .linked => false | .backoff => false
  | .roleHold => false | .cableHold => false | .probe => false

/-- States whose line mode is DATA (R2). -/
def PortState.isData : PortState → Bool
  | .verify => true | .linked => true
  | .disabled => false | .check => false | .offer => false | .exchange => false | .backoff => false
  | .roleHold => false | .cableHold => false | .idle => false | .probe => false

/-- The engine that holds a port (R83: at most one). -/
def State.engineOf (s : State) (p : PortNo) : Option EngineNo :=
  (List.finRange 4).find? fun e =>
    match (s.engine e).meas with
    | some m => decide (m.holder = p)
    | none => false

/-- The line mode of a port (R1, R2): PULSE while an engine holds it, else the mode of its state. The spec
does not say what the line does while the reset pin is asserted; here it goes on as it stood (log entry 42). -/
def State.lineMode (s : State) (p : PortNo) : LineMode :=
  if (s.engineOf p).isSome then .pulse
  else if (s.port p).status.state.sends then .burst
  else if (s.port p).status.state.isData then .data (s.port p).link.rate (s.port p).link.role
  else .quiet

/-- The decoder runs in OFFER, EXCHANGE and IDLE while the line is not PULSE (R37). -/
def State.decoderRuns (s : State) (p : PortNo) : Bool :=
  (s.port p).status.state.listens && (s.engineOf p).isNone

/-- Lock changes and error events are taken only while the line mode is DATA (R1). -/
def State.lineIsData (s : State) (p : PortNo) : Bool :=
  (s.port p).status.state.isData && (s.engineOf p).isNone

/-- The profile in force; a port uses one only while it has one (R5; log entry 26 for the others). -/
def Profile.none : Profile := Profile.ofWords fun _ => 0

def Port.prof (x : Port) : Profile := x.profile.getD Profile.none

/-- The running job is the TRAIN job that began the sequence: a running TRAIN job ends where its sequence does (R15). -/
def Port.runsTrain (x : Port) : Bool :=
  x.status.running.isSome &&
    match x.jobs with
    | { work := .train _, .. } :: _ => true
    | _ => false

end Sys2Proof.Machine
end

