-- ==== Sys2Proof/Machine/Layout.lean ====
section
/-! DEFINITION. What the host reads at each address of work memory (chapter 11; R151, R155, R156). Words that both sides
write are words of `mem`; a word that publishes an on-chip field is computed from it (log entry 2). -/

namespace Sys2Proof.Machine

def RunState.code : RunState → Nat
  | .filling => 0 | .stopped => 1 | .running => 2 | .stopping => 3

def PortState.code : PortState → Nat
  | .disabled => 0 | .check => 1 | .offer => 2 | .exchange => 3 | .verify => 4 | .linked => 5 | .backoff => 6
  | .roleHold => 7 | .cableHold => 8 | .idle => 9 | .probe => 10

def SubPhase.code : SubPhase → Nat
  | .none => 0 | .lockWait => 1 | .window => 2

def AttemptResult.code : AttemptResult → Nat
  | .none => 0 | .linked => 1 | .aborted => 2 | .roleFault => 3 | .noPartner => 4 | .exchangeUnstable => 5
  | .noCommonRate => 6 | .lockTimeout => 7 | .lockLostInVerify => 8 | .verifyErrors => 9 | .frontEnd => 10

def DownReason.code : DownReason → Nat
  | .lockLost => 1 | .errors => 2 | .retrainRequested => 3 | .diagnose => 4 | .hold => 5 | .stopped => 6
  | .frontEnd => 7

def PairStatus.code : PairStatus → Nat
  | .notTested => 0 | .normal => 1 | .openEnd => 2 | .short => 3 | .impedanceHigh => 4 | .impedanceLow => 5
  | .crossShort => 6 | .noisy => 7

def Source.code : Source → Nat
  | .job => 1 | .precheck => 2 | .watch => 3

/-- Presence bit at `at_`, value from `low`; absent is all zeros (R166). -/
def optField (v : Option Nat) (at_ low : Nat) : List (Nat × Nat) :=
  match v with
  | some n => [(at_, 1), (low, n)]
  | none => []

/-- A history record's five words (11.4). -/
def HistoryRecord.words (r : HistoryRecord) : List Word :=
  [r.sequence, highWord r.tick, lowWord r.tick,
    packWord ([(0, flagBit r.down.isSome), (1, r.rate.code.val), (3, r.role.code)] ++
      optField (r.down.map DownReason.code) 8 4),
    packWord [(0, r.attempts % 16), (4, r.downshifts % 16)]]

/-- A pair result's four words (11.4). -/
def PairResult.words (r : PairResult) : List Word :=
  [packWord ([(0, r.status.code), (8, r.tries % 4), (10, flagBit r.distance.isSome), (11, flagBit r.slab.isSome)] ++
      optField (r.crossPair.map Pair.code) 6 4),
    r.distance.getD 0, r.peak, packWord [(0, (r.slab.map Fin.val).getD 0)]]

/-- The cable report's 25 words (11.4). -/
def Report.words (r : Report) : List Word :=
  [r.sequence, packWord [(0, (r.source.map Source.code).getD 0), (8, flagBit r.tag.isSome)], r.tag.getD 0,
    highWord r.startTick, lowWord r.startTick, highWord r.endTick, lowWord r.endTick, r.velocity,
    packWord [(0, r.flags.toNat)]] ++
    r.pairs.a.words ++ r.pairs.b.words ++ r.pairs.c.words ++ r.pairs.d.words

/-- A list of words cut or filled with 0 to n words (R166: slots beyond the count are 0). -/
def slots (n : Nat) (ws : List Word) : List Word := (List.range n).map fun i => ws.getD i 0

/-- The presence mask of the partner words (11.4). -/
def Status.presence (x : Status) : Nat :=
  flagBit x.partner[0].isSome + 2 * flagBit x.partner[1].isSome + 4 * flagBit x.partner[2].isSome +
    8 * flagBit x.partner[3].isSome

/-- Words 2 to 41 of a port page: the status area (11.4). -/
def Port.statusWords (x : Port) : List Word :=
  let st := x.status
  [packWord [(0, st.state.code), (4, st.sub.code), (7, flagBit x.profile.isSome)],
    packWord ([(0, st.offerSet.toNat), (4, st.qualSet.toNat)] ++
      match st.resolved with
      | some l => [(8, 1), (9, l.rate.code.val), (11, l.role.code)]
      | none => []),
    packWord (optField (st.running.map Fin.val) 15 0),
    packWord [(0, x.jobs.length % 8)]] ++
    slots 4 (x.jobs.map fun j => BitVec.ofNat 16 j.cell.val) ++
    [packWord [(0, st.failCounts[0].toNat), (8, st.failCounts[1].toNat)],
      packWord [(0, st.failCounts[2].toNat), (8, st.failCounts[3].toNat)],
      packWord [(0, st.attempts % 16), (4, st.downshifts % 16), (8, st.seed.toNat)],
      packWord [(0, st.page.val), (4, st.presence)],
      packWord [(0, st.lastResult.code)]] ++
    (st.ours.toList.map fun w => w.getD 0) ++ (st.partner.toList.map fun w => w.getD 0) ++
    [st.pubMap, packWord [(0, st.split % 32), (8, flagBit st.lastFailed), (9, flagBit st.failedSince)]] ++
    st.counters.toList ++
    [highWord st.errPub, lowWord st.errPub, highWord st.unlockPub, lowWord st.unlockPub]

/-- The 128 words of a port page (11.4). -/
def Port.pageWords (x : Port) : List Word :=
  [x.editCount, x.news.setWidth 16] ++ x.statusWords ++ [0, 0, packWord [(0, x.history.length % 8)]] ++
    slots 20 (x.history.flatMap HistoryRecord.words) ++ slots 7 [] ++ x.report.words ++ slots 31 []

def State.newsMapWord (s : State) (i : Nat) : Word :=
  packWord ((List.range 16).map fun b =>
    (b, flagBit (match portOf (16 * i + b) with | some p => s.newsMapBit p | none => false)))

/-- The engine states of R83 as coded in 11.1: FREE 0, QUIET_CHECK 1, SHOOTING 2, FINISHING 3. -/
def Engine.stateCode (e : Engine) : Nat :=
  match e.meas with
  | none => 0
  | some m => match m.phase with | .quietCheck _ _ => 1 | .shooting _ _ _ => 2 | .finishing _ _ => 3

/-- Word 0 of an engine status record (11.1). -/
def Engine.statusWord (e : Engine) : Word :=
  packWord ([(0, e.stateCode)] ++ optField ((e.meas.bind Measurement.pair).map Pair.code) 7 4 ++
    optField (e.meas.map fun m => m.holder.val) 15 8)

def State.intakeStatusWord (s : State) : Word :=
  packWord [(0, s.intakeQueue.length % 32), (8, s.intakeFlags.toNat)]

def State.runControlWord (s : State) : Word := packWord [(0, s.runState.code), (8, flagBit s.lock)]

/-- Words of the global page kept in work memory (11.1): watch interval, velocity factor, quick recipe, slab owner words
and the slab table. -/
def globalStored (a : Nat) : Bool :=
  decide (a = watchIntervalAddr) || decide (a = velocityAddr) || inRange a 0x0040 0x004A || inRange a 0x0080 0x00A7 ||
    inRange a 0x0100 0x019F

/-- The global page (11.1, 11.2): every other address reads 0. -/
def State.globalWord (s : State) (a : Nat) : Word :=
  match a with
  | 0x0000 => Config.partCode
  | 0x0001 => s.divisor
  | 0x0002 => s.runControlWord
  | 0x0003 => BitVec.ofNat 16 s.intakeQueue.length
  | 0x0004 => s.intakeStatusWord
  | 0x0005 => s.newsEnable.setWidth 16
  | 0x0008 => Config.revision
  | 0x0009 => Config.portCount
  | 0x000A => Config.engineCount
  | 0x0010 => highWord s.tick
  | 0x0011 => lowWord s.tick
  | 0x0012 => s.intakeErrors
  | 0x0020 => s.globalNews.setWidth 16
  | 0x0021 => s.newsMapWord 0
  | 0x0022 => s.newsMapWord 1
  | 0x0023 => s.newsMapWord 2
  | 0x0060 => (s.engine 0).statusWord
  | 0x0061 => (s.engine 0).unused
  | 0x0062 => (s.engine 1).statusWord
  | 0x0063 => (s.engine 1).unused
  | 0x0064 => (s.engine 2).statusWord
  | 0x0065 => (s.engine 2).unused
  | 0x0066 => (s.engine 3).statusWord
  | 0x0067 => (s.engine 3).unused
  | a => if globalStored a then s.readMem a else 0

/-- What a host read returns (R155): 0 while the pin is asserted or the fill runs; reads have no side effect. -/
def State.hostRead (s : State) (addr : Addr) : Word :=
  if s.resetPin || decide (s.runState = .filling) then 0
  else if addr.toNat < 0x0400 then s.globalWord addr.toNat
  else
    match (if 0x1400 ≤ addr.toNat then portOf ((addr.toNat - 0x1400) / 128) else none) with
    | some p => (s.port p).pageWords.getD ((addr.toNat - 0x1400) % 128) 0
    | none => s.readMem addr.toNat

end Sys2Proof.Machine
end

