-- ==== Sys2Proof/Machine/Arbiter.lean ====
section
/-! DEFINITION. The engine arbiter (chapter 6): the request list, grants, quiet claims, withdrawals and releases; and the
messages by which a port asks (R108) and withdraws (R114). -/

namespace Sys2Proof.Machine

/-! ## The port's side -/

/-- The port posts a request; it reaches the arbiter after what the port sent before (R108). -/
def State.post (s : State) (p : PortNo) (k : ReqKind) : State :=
  s.updPort p fun x => { x with request := some k, outbox := x.outbox ++ [.request k] }

/-- A port with a request waiting withdraws it (R114); a port with none does nothing. -/
def State.withdraw (s : State) (p : PortNo) : State :=
  s.updPort p fun x =>
    match x.request with
    | some _ => { x with request := none, outbox := x.outbox ++ [.withdraw] }
    | none => x

/-! ## The grant rule -/

/-- R110. -/
def State.eligible (s : State) (r : Request) : Bool :=
  !s.claimed (quadOf r.port) && s.isReady (quadOf r.port)

/-- The first eligible FIRST request in list order, else the first eligible SECOND request (R111). -/
def State.pickRequest (s : State) : Option Request :=
  match s.requests.find? fun r => decide (r.cls = .first) && s.eligible r with
  | some r => some r
  | none => s.requests.find? fun r => s.eligible r

/-- The lowest-numbered engine that is FREE and has no grant decided for it (R111). -/
def State.freeEngine (s : State) : Option EngineNo :=
  (List.finRange 4).find? fun e => (s.engine e).meas.isNone && (s.grant e).isNone

/-- Steps 3 to 5 of R111: the request leaves the list, the grant is recorded, the quad is claimed; GRANT_TAKEN is the
grant's arrival at the port. -/
def State.makeGrant (s : State) (e : EngineNo) (r : Request) : State :=
  ({ s with requests := s.requests.filter fun q => decide (q.port ≠ r.port) }.setGrant e
    (some ⟨r, false⟩)).setClaim (quadOf r.port) true

/-- Grants are made while an engine is free and a request eligible (R111); each takes an engine, so `n` engines bound
them. -/
def State.grantUpTo : Nat → State → State
  | 0, s => s
  | n + 1, s =>
    match s.freeEngine, s.pickRequest with
    | some e, some r => State.grantUpTo n (s.makeGrant e r)
    | _, _ => s

def State.applyGrantRule (s : State) : State := State.grantUpTo 4 s

/-! ## Ends of a grant (R113) -/

/-- The grant is removed and the claim on its port's quad ends. -/
def State.endGrant (s : State) (e : EngineNo) : State :=
  match s.grant e with
  | some g => (s.setGrant e none).setClaim (quadOf g.request.port) false
  | none => s

/-- A grant turned back: grant and claim end, the engine's unused-grant count goes up, the engine is free (R112, R114). -/
def State.turnBack (s : State) (e : EngineNo) : State :=
  let s1 := s.endGrant e
  s1.setEngine e { s1.engine e with unused := satInc (s1.engine e).unused }

/-- Put back a request at its old place: before the first request taken after it (R112; log entry 10). -/
def insertByPlace (r : Request) : List Request → List Request
  | [] => [r]
  | q :: rest => if r.place < q.place then r :: q :: rest else q :: insertByPlace r rest

/-- A release (R104, R115): the engine is FREE, its grant and the quad's claim end, and the grant rule is applied. -/
def State.release (s : State) (e : EngineNo) : State :=
  ((s.setEngine e { s.engine e with meas := none }).endGrant e).applyGrantRule

/-- The engine with an unaccepted grant for port p. -/
def State.unacceptedGrantOf (s : State) (p : PortNo) : Option EngineNo :=
  (List.finRange 4).find? fun e =>
    match s.grant e with
    | some g => decide (g.request.port = p) && !g.accepted
    | none => false

/-! ## The arbiter takes a message -/

/-- R108: the request goes to the tail with the tick of its taking; JOB and PRECHECK are FIRST, WATCH is SECOND. -/
def State.appendRequest (s : State) (p : PortNo) (k : ReqKind) : State :=
  let cls := match k with | .job _ _ => ReqClass.first | .precheck => .first | .watch => .second
  { s with requests := s.requests ++ [⟨p, k, cls, s.tick, s.nextPlace⟩], nextPlace := s.nextPlace + 1 }

def State.takeRequest (s : State) (p : PortNo) : State :=
  match (s.port p).outbox with
  | .request k :: rest =>
    ((s.setPort p { s.port p with outbox := rest }).appendRequest p k).applyGrantRule
  | _ => s

/-- R114: a waiting request leaves the list, or an unaccepted grant is turned back; else the withdrawal is ignored. -/
def State.takeWithdrawal (s : State) (p : PortNo) : State :=
  match (s.port p).outbox with
  | .withdraw :: rest =>
    let s1 := s.setPort p { s.port p with outbox := rest }
    if s1.requests.any fun r => decide (r.port = p) then
      { s1 with requests := s1.requests.filter fun r => decide (r.port ≠ p) }.applyGrantRule
    else
      match s1.unacceptedGrantOf p with
      | some e => (s1.turnBack e).applyGrantRule
      | none => s1
  | _ => s

/-- R109: a WATCH request that has waited longer than the interval in force, if that is not 0, is raised to FIRST; its
place and its arrival tick stay. -/
def State.raiseWatch (s : State) (p : PortNo) : State :=
  if s.watchInterval = 0 then s
  else
    { s with
      requests := s.requests.map fun r =>
        if decide (r.port = p) && decide (r.kind = .watch) && decide (s.watchInterval.toNat < (s.tick - r.arrival).toNat)
        then { r with cls := .first } else r }

/-! ## The arbiter's rows of the table -/

/-- POST_REQUEST (R108). -/
def execPostRequest (p : PortNo) (s : State) : Host.Outcome State Fault Refusal :=
  s.take fun s => s.ifRunning fun s => s.takeRequest p

/-- WITHDRAWAL (R114). -/
def execWithdrawal (p : PortNo) (s : State) : Host.Outcome State Fault Refusal :=
  s.take fun s => s.ifRunning fun s => s.takeWithdrawal p

/-- WATCH_REQUEST_RAISE (R109). -/
def execWatchRequestRaise (p : PortNo) (s : State) : Host.Outcome State Fault Refusal :=
  s.take fun s => s.ifRunning fun s => s.raiseWatch p

end Sys2Proof.Machine
end

