-- ==== Sys2Proof/Machine/Measure.lean ====
section
/-! DEFINITION. What an engine computes (chapter 5): chips, filter, busy test, scaling, classification, distance,
reports. Functions of data only. -/

namespace Sys2Proof.Machine

/-! ## Launch (R86) -/

/-- The chips of a pattern: sixteen to a word, the first in bit 15 of the word after the length word (R86, 11.1). -/
def chipsOf (w : Nat → Word) (length : Nat) : List Bool :=
  (List.range length).map fun i => (w (1 + i / 16)).getLsbD (15 - i % 16)

/-- The drive of the pair under test in capture period t of a launch: the chip held for `divider` periods; none once the
pattern has ended (R86). -/
def driveAt (chips : List Bool) (divider t : Nat) : Option Bool := chips[t / divider]?

/-- What an engine sends on pair q in capture period t of the shot under way (R86): the chips of its pattern on the pair
under test, and nothing on another pair, after the launch, in the quiet check, or in FINISHING. -/
def Measurement.driveOn (m : Measurement) (q : Pair) (t : Nat) : Option Bool :=
  match m.phase with
  | .shooting _ _ _ => if m.pair = some q then driveAt m.pattern m.recipe.chipDivider t else none
  | .quietCheck _ _ => none
  | .finishing _ _ => none

/-- Capture periods of a launch and of a shot (R86, R92). -/
def launchLength (chips : List Bool) (r : Recipe) : Nat := chips.length * r.chipDivider
def shotLength (chips : List Bool) (r : Recipe) : Nat := max (r.window * r.decimation) (launchLength chips r)

/-! ## Capture (R93) -/

def EchoBits.get (e : EchoBits) : Pair → Nat
  | .a => e.a | .b => e.b | .c => e.c | .d => e.d

def sumUpTo : Nat → (Nat → Int) → Int
  | 0, _ => 0
  | n + 1, f => sumUpTo n f + f n

/-- A bit counts +1 for a 1 and -1 for a 0 (R93). -/
def bitValue (x t : Nat) : Int := if x.testBit t then 1 else -1

/-- The sinc filter of order k over stream x at capture period t: each order sums the one before over D successive
offsets; periods before period 0 count as 0 (R93). -/
def sinc (x decimation : Nat) : Nat → Nat → Int
  | 0, t => bitValue x t
  | k + 1, t => sumUpTo decimation fun i => if i ≤ t then sinc x decimation k (t - i) else 0

/-- The output of each of `n` positions: position j is taken at capture period (j + 1) D - 1 (R93). -/
def outputs (x decimation order n : Nat) : List Int :=
  (List.range n).map fun j => sinc x decimation order ((j + 1) * decimation - 1)

/-- Full scale (R93). -/
def fullScale (r : Recipe) : Nat := r.decimation ^ r.order

def captureOf (bits : EchoBits) (r : Recipe) (n : Nat) : Pairs (List Int) :=
  ⟨outputs bits.a r.decimation r.order n, outputs bits.b r.decimation r.order n,
    outputs bits.c r.decimation r.order n, outputs bits.d r.decimation r.order n⟩

/-! ## The quiet check (R90, R91) -/

/-- An output reaches half of full scale (R90). -/
def reachesHalf (r : Recipe) (v : Int) : Bool := decide (fullScale r ≤ 2 * v.natAbs)

def isBusy (r : Recipe) (cap : Pairs (List Int)) : Bool :=
  cap.a.any (reachesHalf r) || cap.b.any (reachesHalf r) || cap.c.any (reachesHalf r) || cap.d.any (reachesHalf r)

/-- The value of largest magnitude, the earliest on a tie (R91, R96). -/
def largest (vs : List Int) : Int := vs.foldl (fun best v => if best.natAbs < v.natAbs then v else best) 0

/-- The outputs in the order of R91's tie: earliest position first, and within one the lowest channel. -/
def byPosition (n : Nat) (cap : Pairs (List Int)) : List Int :=
  (List.range n).flatMap fun j => [cap.a.getD j 0, cap.b.getD j 0, cap.c.getD j 0, cap.d.getD j 0]

def noisyPeak (cap : Pairs (List Int)) : Int := largest (byPosition Config.tryPositions cap)

/-- The range of a signed 16-bit word. -/
def fitsWord (v : Int) : Bool := decide (-32768 ≤ v) && decide (v ≤ 32767)

/-! ## Accumulation and scaling (R94, R95) -/

def zeroAcc (r : Recipe) : Pairs Accumulators := Pairs.all (List.replicate r.window 0)

def addOutputs (acc : Accumulators) (vs : List Int) : Accumulators :=
  List.zipWith (fun a v => a + BitVec.ofInt 32 v) acc vs

/-- Shifted arithmetically right, rounding toward minus infinity (R95 step 1). -/
def shifted (r : Recipe) (a : BitVec 32) : Int := a.toInt >>> r.shift

/-- Saturated to the signed 16-bit range (R95 step 2). -/
def saturate (v : Int) : Int := max (-32768) (min v 32767)

def scaled (r : Recipe) (acc : Accumulators) : List Int := acc.map fun a => saturate (shifted r a)

def anySaturated (r : Recipe) (acc : Accumulators) : Bool := acc.any fun a => !fitsWord (shifted r a)

/-! ## Classification (R96, R97) -/

/-- The first position from `start` on whose magnitude reaches the threshold. -/
def firstReaching (threshold start : Nat) (vs : List Int) : Option Nat :=
  (List.range vs.length).find? fun i => decide (start ≤ i) && decide (threshold ≤ (vs.getD i 0).natAbs)

/-- The value of largest magnitude in positions i to i + 7, cut off at the end of the window. -/
def peakAt (i : Nat) (vs : List Int) : Int := largest ((vs.drop i).take 8)

/-- A finding: status, fault position (none for NORMAL), peak, cross pair. -/
structure Finding where
  status : PairStatus
  position : Option Nat
  peak : Int
  crossPair : Option Pair
deriving DecidableEq, Repr

/-- The self result (R96). -/
def selfFinding (r : Recipe) (vs : List Int) : Finding :=
  match firstReaching r.mild r.blanking vs with
  | none => ⟨.normal, none, largest (vs.drop r.blanking), none⟩
  | some i =>
    let peak := peakAt i vs
    let st := if (r.strong : Int) ≤ peak then PairStatus.openEnd
      else if peak ≤ -(r.strong : Int) then .short
      else if 0 < peak then .impedanceHigh
      else .impedanceLow
    ⟨st, some i, peak, none⟩

/-- The cross channel with the earliest crossing, the lower letter on a tie (R97). -/
def crossWinner (r : Recipe) (self : Pair) (vs : Pairs (List Int)) : Option (Pair × Nat) :=
  Pair.list.foldl (fun best q =>
    if q = self then best
    else
      match firstReaching r.cross r.blanking (vs.get q), best with
      | none, _ => best
      | some i, none => some (q, i)
      | some i, some (q0, j) => if i < j then some (q, i) else some (q0, j)) none

/-- The finding on a pair: CROSS_SHORT replaces the self result (R97). -/
def classify (r : Recipe) (self : Pair) (vs : Pairs (List Int)) : Finding :=
  match (if r.crossCheck then crossWinner r self vs else none) with
  | some (q, i) => ⟨.crossShort, some i, peakAt i (vs.get q), some q⟩
  | none => selfFinding r (vs.get self)

/-- The distance in decimetres (R98). -/
def distanceOf (r : Recipe) (velocity : Word) (position : Nat) : Word :=
  let delay := r.order * r.decimation / 2
  let echo := position * r.decimation - delay
  BitVec.ofNat 16 (min (echo * velocity.toNat * 3 / 80) 65535)

/-- The pair result a completion records (R100). -/
def pairResult (r : Recipe) (velocity : Word) (self : Pair) (tries : Nat) (slab : Option SlabNo)
    (vs : Pairs (List Int)) : PairResult :=
  let f := classify r self vs
  { status := f.status, distance := f.position.map (distanceOf r velocity), peak := BitVec.ofInt 16 f.peak,
    crossPair := f.crossPair, tries := tries, slab := slab }

/-- The result of a pair whose tries were all busy (R91). -/
def noisyResult (peak : Word) : PairResult :=
  { status := .noisy, distance := none, peak := peak, crossPair := none, tries := Config.tryLimit, slab := none }

/-! ## Pair sets and reports -/

def inPairSet (set : BitVec 4) (p : Pair) : Bool := set.getLsbD p.code

def firstPair (r : Recipe) : Option Pair := Pair.list.find? fun p => inPairSet r.pairSet p

/-- The next pair of the set in the order A, B, C, D (R87). -/
def nextPair (r : Recipe) (p : Pair) : Option Pair :=
  Pair.list.find? fun q => inPairSet r.pairSet q && decide (p.code < q.code)

/-- Report flags, in the order of 11.4. -/
def flagTraceShort : BitVec 5 := 1
def flagSaturated : BitVec 5 := 2
def flagCancelled : BitVec 5 := 4
def flagLoadFault : BitVec 5 := 8
def flagFrontEnd : BitVec 5 := 16

/-- The report of a measurement (R101, R106): a pair with no finished result is NOT_TESTED. -/
def Measurement.reportAt (m : Measurement) (endTick : Ticks) : Report :=
  { sequence := m.sequence, source := some m.source, tag := m.tag, startTick := m.startTick, endTick := endTick,
    velocity := m.velocity, flags := m.flags, pairs := m.results.map fun r => r.getD PairResult.notTested }

/-! ## The qualified set (R119) and usable pairs (R35) -/

/-- NORMAL, NOISY and NOT_TESTED are fit; the five faults are not (R119; R35 splits them the same way). -/
def PairStatus.fit : PairStatus → Bool
  | .normal => true | .noisy => true | .notTested => true
  | .openEnd => false | .short => false | .impedanceHigh => false | .impedanceLow => false | .crossShort => false

def qualifiedFrom (x : Pairs PairResult) : RateSet :=
  if x.a.status.fit && x.b.status.fit then
    if x.c.status.fit && x.d.status.fit then RateSet.all else RateSet.single .r100M
  else 0

/-- The usable-pairs flags of the line page, pair A lowest; all usable while the port has had no report (R35). -/
def Report.usable (r : Report) : Nat :=
  if r.sequence = 0 then 15
  else
    flagBit r.pairs.a.status.fit + 2 * flagBit r.pairs.b.status.fit + 4 * flagBit r.pairs.c.status.fit +
      8 * flagBit r.pairs.d.status.fit

/-- Two results differ when any pair's status does (R130). -/
def statusesDiffer (x y : Pairs PairResult) : Bool :=
  decide (x.a.status ≠ y.a.status) || decide (x.b.status ≠ y.b.status) || decide (x.c.status ≠ y.c.status) ||
    decide (x.d.status ≠ y.d.status)

def anyNoisy (x : Pairs PairResult) : Bool :=
  decide (x.a.status = .noisy) || decide (x.b.status = .noisy) || decide (x.c.status = .noisy) ||
    decide (x.d.status = .noisy)

end Sys2Proof.Machine
end

