-- ==== Sys2Proof/Machine/Engine.lean ====
section
/-! DEFINITION. The operations of an echo engine on State (chapter 5): slabs, pair starts, reports, aborts. -/

namespace Sys2Proof.Machine

/-- A change of what a held engine holds; a FREE engine holds nothing. -/
def State.updMeas (s : State) (e : EngineNo) (f : Measurement → Measurement) : State :=
  match (s.engine e).meas with
  | some m => s.setEngine e { s.engine e with meas := some (f m) }
  | none => s

/-- The chip stream on port p's line (R1, R86): that of the engine that holds the port, none while no engine does. While
the reset pin is asserted it goes on as it stood (log entry 42). -/
def State.pulseOn (s : State) (p : PortNo) (q : Pair) (t : Nat) : Option Bool :=
  match s.engineOf p with
  | some e => (s.engine e).meas.bind fun m => m.driveOn q t
  | none => none

/-! ## Slabs (R88, R89, R152) -/

/-- The slab is in some engine's filling set. -/
def State.slabFilling (s : State) (k : SlabNo) : Bool :=
  (List.finRange 4).any fun e =>
    match (s.engine e).meas with
    | some m => decide (m.filling = some k)
    | none => false

/-- The lowest slab whose owner word reads FREE and that is in no filling set (R88). -/
def State.lowestFreeSlab (s : State) : Option SlabNo :=
  (List.finRange 40).find? fun k => decide (s.readMem (ownerAddr k) = ownerFree) && !s.slabFilling k

/-- R88: FILLING is written and the slab joins the filling set; with no slab, TRACE_SHORT and SLAB_EXHAUSTED. -/
def State.allocateSlab (s : State) (e : EngineNo) : State :=
  match s.lowestFreeSlab with
  | some k => (s.writeMem (ownerAddr k) ownerFilling).updMeas e fun m => { m with filling := some k }
  | none => (s.updMeas e fun m => { m with flags := m.flags ||| flagTraceShort }).raiseGlobal .slabExhausted

/-- FREE is written into the owner word of a slab that was filling (R89). -/
def State.freeSlab (s : State) (k : Option SlabNo) : State :=
  match k with
  | some k => s.writeMem (ownerAddr k) ownerFree
  | none => s

/-! ## Pairs (R87) -/

/-- A pair starts: current pair, QUIET_CHECK with its first try capturing (R90), a slab first if a trace is wanted. -/
def State.startPair (s : State) (e : EngineNo) (p : Pair) : State :=
  let s1 := s.updMeas e fun m => { m with pair := some p, phase := .quietCheck 0 .capturing }
  match (s1.engine e).meas with
  | some m => if m.recipe.trace then s1.allocateSlab e else s1
  | none => s1

/-! ## Reports and aborts (R102, R105) -/

/-- A report replaces the port's report whole, in the event's edit, and REPORT_NEW is raised (R101, R102). -/
def State.writeReport (s : State) (p : PortNo) (r : Report) : State :=
  (s.updPort p fun x => { x with report := r }.openEdit).raisePort p .reportNew

/-- An abort (R105): what is under way on the current pair is discarded, a filling slab goes back to FREE, a partial
report with the cause's flag is written if the cause calls for one, and the engine is released. -/
def State.abortEngine (s : State) (e : EngineNo) (flag : Option (BitVec 5)) : State :=
  match (s.engine e).meas with
  | some m =>
    let s1 := s.freeSlab m.filling
    let s2 := match flag with
      | some f => s1.writeReport m.holder ({ m with flags := m.flags ||| f }.reportAt s1.tick)
      | none => s1
    s2.release e
  | none => s

end Sys2Proof.Machine
end

