-- ==== Sys2Proof/Machine/PortControl.lean ====
section
/-! DEFINITION. The port controller (chapters 1, 4 and 8): entering a state, aborting, link drops, charging a rate,
attempt sequences, attempts, their failures, and the start and end of jobs. -/

namespace Sys2Proof.Machine

/-! ## Entering a state (R2) -/

/-- Entering a state: the timers of the state that is left stop, the sender stops and a burst on the line is cut off
outside OFFER and EXCHANGE (R29), a decoder that pauses discards its burst (R37), the lock copy is down but in LINKED
(R65), the monitor state is kept only in VERIFY and LINKED, an abort, a failure or a role fault discards the unpublished
exchange items (R46), and the totals are published (R79). That those items are kept where the attempt succeeds, in VERIFY
and LINKED, and are discarded where a link drop leaves LINKED, is the model's choice (log entry 44). -/
def Port.enter (x : Port) (st : PortState) : Port :=
  { x with
    status := { x.status with state := st, sub := .none, errPub := x.errTotal, unlockPub := x.unlockTotal }
    timers := Timers.stopped
    sender := if st.sends then x.sender else Sender.stopped
    decoder := if st.listens then x.decoder else { x.decoder with burst := none }
    lockUp := decide (st = .linked) && x.lockUp
    monitor := if st.isData then x.monitor else Monitor.zero
    exch := if st.sends || st.isData then x.exch else Exchange.start }

def State.enterState (s : State) (p : PortNo) (st : PortState) : State := s.updPort p fun x => x.enter st

/-- R45: the calibration is cleared; failed-since-cleared is kept. -/
def Port.clearCalibration (x : Port) : Port :=
  { x with
    decoder := Decoder.clear
    status := { x.status with pubMap := 0, split := 0, lastFailed := false } }

/-- Entry to DISABLED (R21). -/
def Port.disable (x : Port) : Port :=
  let y := (x.enter .disabled).clearCalibration
  { y with status := { y.status with resolved := none, page := 0, ours := Vector.replicate 4 none,
                                     partner := Vector.replicate 4 none, running := none } }

def State.enterDisabled (s : State) (p : PortNo) : State := s.updPort p Port.disable

/-- Step 3 of R18, R19, R23: the active profile is removed. -/
def State.removeProfile (s : State) (p : PortNo) : State := s.updPort p fun x => { x with profile := none }

/-! ## Aborting (R15) -/

/-- States with an attempt in progress (R9). -/
def PortState.inAttempt : PortState → Bool
  | .offer => true | .exchange => true | .verify => true
  | .disabled => false | .check => false | .linked => false | .backoff => false | .roleHold => false
  | .cableHold => false | .idle => false | .probe => false

/-- The port's own part of an abort: timers stop, an attempt in progress ends ABORTED and its exchange state is
discarded, the line goes QUIET. The decoder keeps its burst: it pauses only where the port leaves the three states in
which it listens (R37), which `Port.enter` sees to. -/
def Port.stopActivity (x : Port) : Port :=
  { x with
    status := { x.status with lastResult := if x.status.state.inAttempt then .aborted else x.status.lastResult }
    timers := Timers.stopped
    sender := Sender.stopped
    exch := Exchange.start }

/-- Aborting port activity (R15): a measuring engine aborts, with the report the occasion's flag calls for, and a
waiting request is withdrawn. -/
def State.abortPort (s : State) (p : PortNo) (flag : Option (BitVec 5)) : State :=
  let s1 := s.updPort p Port.stopActivity
  match s1.engineOf p with
  | some e => s1.abortEngine e flag
  | none => s1.withdraw p

/-! ## Link drops, charges, downshift -/

/-- The common steps of a link drop (R22, R80 steps 1 and 2, R81): the monitor's timers stop and its state is discarded,
a DOWN record is written, link downs is counted, the totals are published, LINK_DOWN is raised. The caller takes the
port to its next state. -/
def State.dropLink (s : State) (p : PortNo) (why : DownReason) : State :=
  (s.updPort p fun x =>
    (({ x with timers := Timers.stopped, monitor := Monitor.zero }.writeRecord s.tick (some why)).bump
      .linkDowns).publishTotals).raisePort p .linkDown

/-- The downshift test of R74 for rate r, whose failure count has just gone up. -/
def Port.downshiftDue (x : Port) (r : Rate) : Bool :=
  decide (2 ≤ (x.status.failCounts[r.code]).toNat) && x.prof.downshift &&
    decide (RateSet.remove x.status.offerSet r ≠ 0) && !x.capRemoved

/-- A failure is charged to rate r (R73) and the downshift test is applied (R74). -/
def Port.charge (x : Port) (r : Rate) : Port :=
  let y := { x with status := { x.status with
    failCounts := x.status.failCounts.set r.code (satInc x.status.failCounts[r.code]) } }
  if y.downshiftDue r then
    { y with status := { y.status with offerSet := RateSet.remove y.status.offerSet r,
                                       downshifts := y.status.downshifts + 1 } }.bump .downshifts
  else y

/-- The charge is to the resolved rate (R73). -/
def State.chargeRate (s : State) (p : PortNo) : State := s.updPort p fun x => x.charge x.link.rate

/-! ## Words to send (R33 to R36) -/

/-- The payload of page k (R34, R35, R36); 0 on a null page (R33). -/
def Port.payload (x : Port) (k : PageNo) : Word :=
  if k = 0 then
    packWord [(7, (x.status.offerSet &&& x.status.qualSet).toNat), (5, x.prof.claim.code), (0, x.status.seed.toNat)]
  else if k = 1 then
    packWord [(7, x.report.usable), (3, min x.status.downshifts 15), (0, min x.status.attempts 7)]
  else if k = 2 then
    if 1 ≤ x.prof.extraCount then x.prof.extra1 &&& 0x07FF else 0
  else
    if 2 ≤ x.prof.extraCount then x.prof.extra2 &&& 0x07FF else 0

/-- The content built for page k: page number, more-pages below the port's last page (R33), payload. -/
def Port.content (x : Port) (k : PageNo) : Word :=
  packWord [(14, k.val), (13, flagBit (decide (k.val < 1 + x.prof.extraCount)))] ||| x.payload k

/-- The built word becomes our word for page k; the acknowledge and parity flags shown are those of the most recent
burst sent for that page (R36; log entry 14). -/
def Port.buildPage (x : Port) (k : PageNo) : Port :=
  let shown : Word := (x.status.ours[k].getD 0) &&& 0x1800
  { x with status := { x.status with ours := x.status.ours.set k (some (x.content k ||| shown)) } }

/-! ## Ends of jobs (R144) -/

/-- Steps 1 to 4 of R144: the cell is written DONE, the entry leaves the head of the list, the custody returns to
OUTSIDE, the running cell index is cleared, JOB_DONE is raised. The next entry starts later in the event
(`startJobs`). -/
def State.endJob (s : State) (p : PortNo) (out : JobOutcome) : State :=
  match (s.port p).jobs with
  | j :: rest =>
    ((s.endCell j.cell .done out .none j.start).updPort p fun x =>
      { x with jobs := rest, status := { x.status with running := none } }).raisePort p .jobDone
  | [] => s

/-- The running TRAIN job, if that is what began the sequence, ends with its outcome (R8, R10, R14, R76). -/
def State.endTrain (s : State) (p : PortNo) (out : JobOutcome) : State :=
  if (s.port p).runsTrain then s.endJob p out else s

/-! ## Attempt sequences and attempts (R7 to R10) -/

/-- A fresh seed: bits 15-11 of the seed generator (R20). -/
def Port.freshSeed (x : Port) : BitVec 5 := x.seedGen.extractLsb' 11 5

/-- An attempt begins (R9): it is counted, takes a fresh seed, clears the exchange, builds page 0, and starts the burst
schedule, whose first burst is due (R29), and the offer timer. -/
def Port.beginAttempt (x : Port) : Port :=
  let y := x.enter .offer
  let z := { y with
    status := { y.status with attempts := y.status.attempts + 1, seed := y.freshSeed, page := 0,
                              ours := Vector.replicate 4 none, partner := Vector.replicate 4 none }
    exch := Exchange.start
    sender := ⟨some 0, true, none⟩
    timers := { Timers.stopped with offer := if y.prof.offerTimeout = 0 then none else some y.prof.offerTimeout } }
  (z.bump .attempts).buildPage 0

/-- BACKOFF for n ticks (R10, R11). -/
def Port.beginBackoff (x : Port) (n : Nat) : Port :=
  { x.enter .backoff with timers := { Timers.stopped with backoff := some n }, backoffLen := n }

/-- The start of an attempt (R8, last paragraph). -/
def State.startAttempt (s : State) (p : PortNo) : State :=
  let st := (s.port p).status
  if st.qualSet &&& st.offerSet = 0 then (s.enterState p .cableHold).endTrain p .cableFault
  else if s.isReady (quadOf p) then s.updPort p Port.beginAttempt
  else s.updPort p fun x => x.beginBackoff (Config.backoffUnit * max st.attempts 1)

/-- An attempt sequence begins (R7): a WATCH request still waiting is withdrawn (R114), and the port enters CHECK and
posts a PRECHECK request (R8), or goes to the start of an attempt. -/
def State.beginSequence (s : State) (p : PortNo) (byWatch : Bool) : State :=
  let s1 := (s.withdraw p).updPort p fun x =>
    { x with status := { x.status with attempts := 0, lastResult := .none } }
  if (s1.port p).prof.precheck && !byWatch then (s1.enterState p .check).post p .precheck
  else s1.startAttempt p

/-- With auto-retrain on a new sequence, else IDLE (R22, R80, R17). -/
def State.retrainOrIdle (s : State) (p : PortNo) : State :=
  if (s.port p).prof.autoRetrain then s.beginSequence p false else s.enterState p .idle

/-- Failures charged to the resolved rate (R10, R73). -/
def AttemptResult.charged : AttemptResult → Bool
  | .lockTimeout => true | .lockLostInVerify => true | .verifyErrors => true
  | .none => false | .linked => false | .aborted => false | .roleFault => false | .noPartner => false
  | .exchangeUnstable => false | .noCommonRate => false | .frontEnd => false

/-- The sequence ends in IDLE with its result (R10). -/
def State.endSequence (s : State) (p : PortNo) (out : JobOutcome) : State :=
  (s.enterState p .idle).endTrain p out

/-- An attempt fails (R10). -/
def State.failAttempt (s : State) (p : PortNo) (why : AttemptResult) : State :=
  let s1 := s.updPort p fun x => { x with status := { x.status with lastResult := why } }
  let s2 := if why.charged then s1.chargeRate p else s1
  let x := s2.port p
  if why = .noCommonRate then s2.endSequence p .noCommonRate
  else if why = .noPartner && !x.prof.autoRetrain then s2.endSequence p .noPartner
  else if x.prof.attemptLimit ≤ x.status.attempts then
    s2.endSequence p (if why = .noPartner then .noPartner else .gaveUp)
  else s2.updPort p fun y => y.beginBackoff (Config.backoffUnit * x.status.attempts)

/-- A role fault (R14, R60). -/
def State.roleFault (s : State) (p : PortNo) : State :=
  let s1 := (s.updPort p fun x =>
    let y := { x.enter .roleHold with status := { (x.enter .roleHold).status with lastResult := .roleFault } }
    { y with timers := { Timers.stopped with
        roleHold := if y.prof.roleHold = 0 then none else some y.prof.roleHold } }.bump .roleFaults).raisePort p .roleFault
  s1.endTrain p .roleFault

/-! ## Starts of jobs (R143) -/

/-- TRAIN start (R15). -/
def State.startTrain (s : State) (p : PortNo) (prof : Profile) : State :=
  let s1 := if (s.port p).status.state = .linked then s.dropLink p .retrainRequested else s
  let s2 := (s1.abortPort p none).updPort p fun x =>
    { x with
      profile := some prof
      status := { x.status with offerSet := prof.allowed, qualSet := RateSet.all,
                                failCounts := Vector.replicate 4 0, attempts := 0, downshifts := 0 } }
  s2.beginSequence p false

/-- DIAGNOSE start (R16, R125). -/
def State.startDiagnose (s : State) (p : PortNo) (r : Recipe) (tag : Word) (intrusive : Bool) : State :=
  if (s.port p).status.state = .linked && !intrusive then s.endJob p .linkUp
  else
    let s1 := if (s.port p).status.state = .linked then s.dropLink p .diagnose else s.abortPort p none
    (s1.enterState p .probe).post p (.job r tag)

/-- HOLD start (R18), which ends the job. -/
def State.startHold (s : State) (p : PortNo) : State :=
  let s1 := if (s.port p).status.state = .linked then s.dropLink p .hold else s
  (((s1.abortPort p none).removeProfile p).enterDisabled p).endJob p .held

/-- The head entry starts (R143): start tick, then RUNNING, are written; custody, running cell index; then the kind's
port-side effects. -/
def State.startHead (s : State) (p : PortNo) : State :=
  match (s.port p).jobs with
  | j :: rest =>
    let s1 := ((s.writeTicks (cellBase j.cell + 4) s.tick).writeCellState j.cell .running).setCustody j.cell .running
    let s2 := s1.updPort p fun x =>
      { x with jobs := { j with start := s.tick } :: rest, status := { x.status with running := some j.cell } }
    match j.work with
    | .train prof => s2.startTrain p prof
    | .diagnose r intrusive => s2.startDiagnose p r j.tag intrusive
    | .hold => s2.startHold p
  | [] => s

/-- Jobs start while the port runs none and its list holds one; a job that ends on its start lets the next start on the
same event (R143). Each start that goes on takes an entry from the list, so its length bounds them. -/
def State.startJobsUpTo : Nat → State → PortNo → State
  | 0, s, _ => s
  | n + 1, s, p =>
    if (s.port p).status.running.isNone && !(s.port p).jobs.isEmpty then State.startJobsUpTo n (s.startHead p) p
    else s

def State.startJobs (s : State) (p : PortNo) : State := State.startJobsUpTo (s.port p).jobs.length s p

/-- The resumption rule (R17). -/
def State.resume (s : State) (p : PortNo) : State :=
  if (s.port p).profile.isSome then s.retrainOrIdle p else s.enterDisabled p

end Sys2Proof.Machine
end

