-- ==== Sys2Proof/Machine/Exchange.lean ====
section
/-! DEFINITION. The page exchange and resolution (chapter 3), and the burst sender's rows of the table (chapter 2). -/

namespace Sys2Proof.Machine

/-! ## Restarts (R50, R53, R54, R59) -/

/-- The match run is emptied; matched, partner seen, the acknowledge flag and the count of acknowledge bursts go back
(R50 step 2, R53 step 2). The per-attempt counts stay. -/
def Exchange.unmatched (x : Exchange) : Exchange :=
  { x with runWord := none, runCount := 0, isMatched := false, ack := false, ackSent := 0, seen := false }

/-- Steps 2 and 3 of an exchange restart (R53) and of an exchange break (R55 steps 3 and 4): page 0, no partner words, our
words for pages 1 to 3 cleared. At a break, where R55 does not name it, the count of acknowledge bursts sent returns to 0
too: the model's choice (log entry 39). -/
def Port.toPageZero (x : Port) : Port :=
  { x with
    exch := x.exch.unmatched
    status := { x.status with page := 0, partner := Vector.replicate 4 none,
                              ours := (Vector.replicate 4 none).set 0 x.status.ours[0] } }

/-- A restart is counted (R54); the fifth of an attempt fails it instead of being carried out. -/
def State.restart (s : State) (p : PortNo) (carryOut : Port → Port) : State :=
  let s1 := s.updPort p fun x =>
    { x with exch := { x.exch with restarts := x.exch.restarts + 1 } }.bump .pageRestarts
  if Config.restartLimit ≤ (s1.port p).exch.restarts then s1.failAttempt p .exchangeUnstable
  else s1.updPort p carryOut

/-- A page restart (R50). -/
def State.pageRestart (s : State) (p : PortNo) : State :=
  s.restart p fun x =>
    let k := x.status.page
    { x with
      exch := x.exch.unmatched
      status := { x.status with partner := x.status.partner.set k none } }.buildPage k

/-- An exchange restart from page 0 (R53). -/
def State.exchangeRestart (s : State) (p : PortNo) : State :=
  s.restart p fun x => x.toPageZero.buildPage 0

/-! ## Resolution (R57 to R63) -/

/-- What the two role claims and seeds give (R58). -/
inductive RoleResult where
  | settled (role : Role)
  | fault
  | clash
deriving DecidableEq, Repr

def bySeed (ours theirs : BitVec 5) : RoleResult :=
  if theirs < ours then .settled .lead else if ours < theirs then .settled .follow else .clash

/-- The table of R58. -/
def resolveRole (ours theirs : RoleClaim) (ourSeed theirSeed : BitVec 5) : RoleResult :=
  match ours, theirs with
  | .forceLead, .forceLead => .fault
  | .forceFollow, .forceFollow => .fault
  | .forceLead, .forceFollow => .settled .lead
  | .forceLead, .preferLead => .settled .lead
  | .forceLead, .preferFollow => .settled .lead
  | .forceFollow, .forceLead => .settled .follow
  | .forceFollow, .preferLead => .settled .follow
  | .forceFollow, .preferFollow => .settled .follow
  | .preferLead, .forceLead => .settled .follow
  | .preferFollow, .forceLead => .settled .follow
  | .preferLead, .forceFollow => .settled .lead
  | .preferFollow, .forceFollow => .settled .lead
  | .preferLead, .preferFollow => .settled .lead
  | .preferFollow, .preferLead => .settled .follow
  | .preferLead, .preferLead => bySeed ourSeed theirSeed
  | .preferFollow, .preferFollow => bySeed ourSeed theirSeed

/-- The cap of R61: with pair C or D marked unusable in the partner's page 1, only 100M stays. -/
def capRates (common : RateSet) (page1 : Word) : RateSet :=
  if OfferWord.usableC page1 && OfferWord.usableD page1 then common else common &&& RateSet.single .r100M

/-- A successful resolution enters VERIFY in LOCK_WAIT (R63, R66): rate and role are published, the bursts stop, the lock
copy is down, the lock timer starts; and whether the cap removed a rate is recorded (R61). -/
def Port.enterVerify (x : Port) (rate : Rate) (role : Role) (capped : Bool) : Port :=
  let y := x.enter .verify
  { y with
    status := { y.status with sub := .lockWait, resolved := some ⟨rate, role⟩ }
    timers := { Timers.stopped with lock := some y.prof.lockTimeout }
    lockUp := false
    monitor := Monitor.zero
    capRemoved := capped }

/-- A seed clash (R59). -/
def State.seedClash (s : State) (p : PortNo) : State :=
  let s1 := s.updPort p fun x =>
    { x with exch := { x.exch with clashes := x.exch.clashes + 1 } }.bump .seedClashes
  if Config.clashLimit ≤ (s1.port p).exch.clashes then s1.roleFault p
  else s1.updPort p fun x =>
    { x.toPageZero with status := { x.toPageZero.status with seed := x.freshSeed } }.buildPage 0

/-- Resolution at the end of the exchange (R57): roles first (R58), then the rate (R61); no common rate fails the attempt
(R62). -/
def State.resolveLink (s : State) (p : PortNo) : State :=
  let x := s.port p
  let our0 := x.status.ours[0].getD 0
  let their0 := x.status.partner[0].getD 0
  let their1 := x.status.partner[1].getD 0
  match resolveRole (OfferWord.claim our0) (OfferWord.claim their0) (OfferWord.seed our0) (OfferWord.seed their0) with
  | .fault => s.roleFault p
  | .clash => s.seedClash p
  | .settled role =>
    let common := OfferWord.rates our0 &&& OfferWord.rates their0
    let kept := capRates common their1
    match RateSet.highest kept with
    | some rate => s.updPort p fun x => x.enterVerify rate role (decide (kept ≠ common))
    | none => s.failAttempt p .noCommonRate

/-! ## Pages (R49, R51 to R53) -/

/-- The move to the next page (R53). -/
def Port.nextPage (x : Port) : Port :=
  let k : PageNo := x.status.page + 1
  { x with exch := x.exch.unmatched, status := { x.status with page := k } }.buildPage k

/-- A completed page moves on or ends the exchange (R53). -/
def State.completePage (s : State) (p : PortNo) : State :=
  let x := s.port p
  let k := x.status.page
  let anyMore := OfferWord.more (x.status.ours[k].getD 0) || OfferWord.more (x.status.partner[k].getD 0)
  if k = 3 || !anyMore then s.resolveLink p else s.updPort p Port.nextPage

/-- The page is complete once three acknowledge bursts are sent and the partner is seen (R52). -/
def State.completeIfDone (s : State) (p : PortNo) : State :=
  if 3 ≤ (s.port p).exch.ackSent && (s.port p).exch.seen then s.completePage p else s

/-- Partner seen becomes yes (R52). -/
def State.partnerSeen (s : State) (p : PortNo) : State :=
  (s.updPort p fun x => { x with exch := { x.exch with seen := true } }).completeIfDone p

/-- The match run takes a word for the current page: run count n with this word (R49). That the latest word of the same
content is the run word from then on, its acknowledge and parity flags with it, is the model's choice (log entry 43). -/
def Port.extendRun (x : Port) (w : Word) (n : Nat) : Port :=
  if 3 ≤ n then
    { x with
      exch := { x.exch with runWord := some w, runCount := 3, isMatched := true, ack := true, ackSent := 0,
                            seen := OfferWord.ack w }
      status := { x.status with partner := x.status.partner.set x.status.page (some w) } }
  else { x with exch := { x.exch with runWord := some w, runCount := n } }

/-- A word for page k before the page is matched (R49). -/
def State.matchWord (s : State) (p : PortNo) (w : Word) : State :=
  match (s.port p).exch.runWord with
  | none => s.updPort p fun x => x.extendRun w 1
  | some r =>
    if OfferWord.content r = OfferWord.content w then s.updPort p fun x => x.extendRun w (x.exch.runCount + 1)
    else s.pageRestart p

/-- A word for page k after the page is matched (R48). -/
def State.matchedWord (s : State) (p : PortNo) (w : Word) : State :=
  let stored := (s.port p).status.partner[(s.port p).status.page].getD 0
  if OfferWord.content stored = OfferWord.content w then
    if OfferWord.ack w then s.partnerSeen p else s
  else s.pageRestart p

/-- Sorting a valid word in EXCHANGE (R48). -/
def State.sortWord (s : State) (p : PortNo) (w : Word) : State :=
  let s1 := s.updPort p fun x => { x with timers := { x.timers with brk := some Config.breakTicks } }
  let k := (s1.port p).status.page.val
  let n := (OfferWord.page w).val
  let isMatched := (s1.port p).exch.isMatched
  if n = k then (if isMatched then s1.matchedWord p w else s1.matchWord p w)
  else if n = k + 1 then (if isMatched then s1.partnerSeen p else s1.exchangeRestart p)
  else if n + 1 = k then s1
  else s1.exchangeRestart p

/-- The first valid word in OFFER (R47). -/
def State.enterExchange (s : State) (p : PortNo) (w : Word) : State :=
  s.updPort p fun x =>
    let y := x.enter .exchange
    let z := { y with
      status := { y.status with page := 0 }
      timers := { Timers.stopped with brk := some Config.breakTicks } }
    if OfferWord.page w = 0 then z.extendRun w 1 else z

/-- A bad burst handed on in EXCHANGE empties the match run before the match (R48, R49). -/
def Port.badBurst (x : Port) : Port :=
  if x.exch.isMatched then x else { x with exch := { x.exch with runWord := none, runCount := 0 } }

/-! ## The burst sender (R28 to R32) -/

/-- The word a burst due now carries (R32, R33): our word for the current page, with the acknowledge flag in force. -/
def Port.wordDue (x : Port) : Word :=
  OfferWord.onLine (x.status.ours[x.status.page].getD 0) x.exch.ack

/-- A burst falls due (R29): not sent while the previous one is on the line (R31), skipped and counted under the quad's
claim (R30), else sent. The model's choices: a burst that meets both is not counted (log entry 17), and the claim is read
whichever port of the quad it stands for, the port's own withdrawn grant included (log entry 40). -/
def State.sendBurst (s : State) (p : PortNo) : State :=
  if (s.port p).status.state.sends && (s.port p).sender.due then
    s.updPort p fun x =>
      let y := { x with sender := { x.sender with due := false } }
      if y.sender.onLine.isSome then y
      else if s.claimed (quadOf p) then y.bump .suppressedBursts
      else { y with sender := { y.sender with onLine := some y.wordDue } }
  else s

/-- Our word for a page shows the acknowledge and parity flags of the burst just sent for it (R36). -/
def Port.showSent (x : Port) (w : Word) : Port :=
  match x.status.ours[OfferWord.page w] with
  | some c =>
    { x with status := { x.status with
      ours := x.status.ours.set (OfferWord.page w) (some (OfferWord.content c ||| (w &&& 0x1800))) } }
  | none => x

/-- R51: a burst of page k with acknowledge 1, sent while page k is matched, counts. -/
def Port.countAck (x : Port) (w : Word) : Port :=
  if decide (x.status.state = .exchange) && x.exch.isMatched && OfferWord.ack w &&
      decide (OfferWord.page w = x.status.page) && decide (x.exch.ackSent < 3) then
    { x with exch := { x.exch with ackSent := x.exch.ackSent + 1 } }
  else x

/-- The last cell of a burst ends (R28): the line goes to rest and the exchange takes the event (R51, R52). -/
def State.burstSent (s : State) (p : PortNo) : State :=
  match (s.port p).sender.onLine with
  | some w =>
    let s1 := s.updPort p fun x =>
      ({ x with sender := { x.sender with onLine := none } }.showSent w).countAck w
    if (s.port p).exch.ackSent < (s1.port p).exch.ackSent then (s1.completeIfDone p).startJobs p else s1
  | none => s

/-- The break timer expires in EXCHANGE (R55). -/
def State.exchangeBreak (s : State) (p : PortNo) : State :=
  if (s.port p).status.state = .exchange && (s.port p).timers.brk = some 0 then
    s.updPort p fun x =>
      let y := x.toPageZero.enter .offer
      { y with timers := { Timers.stopped with
          offer := if y.prof.offerTimeout = 0 then none else some y.prof.offerTimeout } }.bump .exchangeBreaks
  else s

/-! ## Rows of the table -/

/-- BURST_DUE (R29). -/
def execBurstDue (p : PortNo) (s : State) : Host.Outcome State Fault Refusal :=
  s.take fun s => s.ifRunning fun s => s.sendBurst p

/-- BURST_SENT (R28). -/
def execBurstSent (p : PortNo) (s : State) : Host.Outcome State Fault Refusal :=
  s.take fun s => s.ifRunning fun s => s.burstSent p

/-- EXCHANGE_BREAK (R55). -/
def execExchangeBreak (p : PortNo) (s : State) : Host.Outcome State Fault Refusal :=
  s.take fun s => s.ifRunning fun s => s.exchangeBreak p

end Sys2Proof.Machine
end

