-- ==== Sys2Proof/Machine/OfferDecoder.lean ====
section
/-! DEFINITION. The offer decoder of a port (2.4, 2.5): transitions, intervals, bursts, calibration windows. -/

namespace Sys2Proof.Machine

/-! ## Calibration (R42 to R44) -/

/-- Interval length i is bin i, at bit i - 1 of a map (R42, 11.4). -/
def binOccupied (m : BitVec 16) (i : Nat) : Bool := decide (1 ≤ i) && m.getLsbD (i - 1)

/-- Interval lengths 1 to 16, lowest first. -/
def binLengths : List Nat := (List.range Config.longestInterval).map (· + 1)

/-- The search of R43: the lowest occupied bin a, the lowest empty bin g above it, an occupied bin above g; then g. -/
def findSplit (m : BitVec 16) : Option Nat :=
  match binLengths.find? fun i => binOccupied m i with
  | none => none
  | some a =>
    match binLengths.find? fun i => decide (a < i) && !binOccupied m i with
    | none => none
    | some g => if binLengths.any fun i => decide (g < i) && binOccupied m i then some g else none

/-- The end of a calibration window (R42 to R44): the split decision, then the working map is published and emptied.
The map, split and flags are published together in the event's edit. -/
def Port.endWindow (x : Port) : Port :=
  let m := x.decoder.working
  let y := match findSplit m with
    | some g => { x with status := { x.status with split := g, lastFailed := false } }
    | none =>
      let z := { x with status := { x.status with lastFailed := true, failedSince := true } }
      if x.status.lastFailed then z else z.raise .calFail
  { y with
    status := { y.status with pubMap := m }
    decoder := { y.decoder with working := 0, windowCount := 0 } }.openEdit

/-- A taken transition counts one toward the window; the 256th ends it (R42). -/
def Port.countTransition (x : Port) : Port :=
  let y := { x with decoder := { x.decoder with windowCount := x.decoder.windowCount + 1 } }
  if Config.windowLength ≤ y.decoder.windowCount then y.endWindow else y

/-- The interval's bin is marked occupied (R42). -/
def Port.markBin (x : Port) (i : Nat) : Port :=
  { x with decoder := { x.decoder with working := setBit x.decoder.working (i - 1) } }

/-! ## Reading a burst (R38, R39) -/

/-- A transition begins a burst: the mid-cell of its first cell, whose value is its direction (R39). The split in force
is the split at this transition. -/
def beginBurst (rising : Bool) (sample split : Nat) : BurstIn := ⟨[rising], false, sample, split, false⟩

/-- An interval is read against the split in force (R39); nothing is read with split 0 or once the burst is bad. -/
def BurstIn.readInterval (b : BurstIn) (i : Nat) : BurstIn :=
  if b.split = 0 || b.bad then b
  else if i < b.split then
    if b.halfPending then { b with halfPending := false, cells := (b.cells.headD false) :: b.cells }
    else { b with halfPending := true }
  else if i < 2 * b.split then
    if b.halfPending then { b with bad := true }
    else { b with cells := (!b.cells.headD false) :: b.cells }
  else { b with bad := true }

/-- The transitions delivered in one decoder sample: two cancel, of three the last is taken (R37). Of four or more R37
does not speak; the model's choice is the same by parity, an even number cancel, of an odd number the last is taken
(log entry 41). -/
def takenTransition (rises : List Bool) : Option Bool :=
  if rises.length % 2 = 1 then rises.getLast? else none

/-! ## The end of a burst (R40, R41) -/

/-- The 16-bit word of cells 2 to 17, cell 2 its most significant bit. -/
def wordOfCells (cells : List Bool) : Word := cells.foldl (fun w b => (w <<< 1) ||| (if b then 1 else 0)) 0

/-- The verdict on an ended burst (R40): not evaluated with split 0, else a valid word or bad. -/
inductive Verdict where
  | notEvaluated
  | valid (w : Word)
  | bad
deriving DecidableEq, Repr

def BurstIn.verdict (b : BurstIn) : Verdict :=
  if b.split = 0 then .notEvaluated
  else
    match b.cells.reverse with
    | first :: rest =>
      if !b.bad && decide (rest.length = 16) && first && !OfferWord.odd (wordOfCells rest) then
        .valid (wordOfCells rest)
      else .bad
    | [] => .bad

/-- A word decoded in IDLE is stored; with auto-retrain on it is also a trigger, taken after the store (R41, R12). -/
def State.idleWord (s : State) (p : PortNo) (w : Word) : State :=
  let s1 := s.updPort p fun x =>
    { x with status := { x.status with partner := x.status.partner.set (OfferWord.page w) (some w) } }
  if (s1.port p).prof.autoRetrain then s1.beginSequence p false else s1

/-- A valid word by port state (R41). -/
def State.handOnWord (s : State) (p : PortNo) (w : Word) : State :=
  match (s.port p).status.state with
  | .offer => s.enterExchange p w
  | .exchange => s.sortWord p w
  | .idle => s.idleWord p w
  | _ => s

/-- A bad burst is counted (R40), and handed to the exchange in EXCHANGE (R41). -/
def Port.takeBad (x : Port) : Port :=
  let y := x.bump .badBursts
  if y.status.state = .exchange then y.badBurst else y

/-- The burst in progress ends and is evaluated (R38, R40, R41). -/
def State.endBurst (s : State) (p : PortNo) : State :=
  match (s.port p).decoder.burst with
  | some b =>
    if s.decoderRuns p then
      let s1 := s.updPort p fun x => { x with decoder := { x.decoder with burst := none } }
      match b.verdict with
      | .notEvaluated => s1
      | .valid w => (s1.handOnWord p w).startJobs p
      | .bad => s1.updPort p Port.takeBad
    else s
  | none => s

/-! ## A received transition (R37 to R39) -/

/-- A taken transition at `sample` (R38): with no burst in progress it begins one and closes no interval; else its
interval is marked and read. -/
def Port.takeTransition (x : Port) (rising : Bool) (sample : Nat) : Port :=
  match x.decoder.burst with
  | none =>
    { x with decoder := { x.decoder with burst := some (beginBurst rising sample x.status.split) } }.countTransition
  | some b =>
    let i := sample - b.last
    ({ x with decoder := { x.decoder with
        burst := some { b.readInterval i with last := sample } } }.markBin i).countTransition

/-- The burst in progress is over before this sample: its end was due at the 17th sample without a transition (R38). -/
def Port.burstOver (x : Port) (sample : Nat) : Bool :=
  match x.decoder.burst with
  | some b => decide (b.last + Config.longestInterval < sample)
  | none => false

/-- The sample lies after the last taken transition of the burst in progress. -/
def Port.sampleIsLater (x : Port) (sample : Nat) : Bool :=
  match x.decoder.burst with
  | some b => decide (b.last < sample)
  | none => true

/-- The transitions of one sample reach the decoder (R37). That a burst whose end was due before this sample is ended
first, within this command, so that the two events share one edit (R153), is the model's choice (log entry 15). -/
def State.receive (s : State) (p : PortNo) (sample : Nat) (rises : List Bool) : State :=
  match takenTransition rises with
  | some rising =>
    let s1 := if (s.port p).burstOver sample then s.endBurst p else s
    if s1.decoderRuns p && (s1.port p).sampleIsLater sample then s1.updPort p fun x => x.takeTransition rising sample
    else s1
  | none => s

/-! ## Rows of the table -/

/-- RECEIVE_TRANSITION (R37). -/
def execReceiveTransition (p : PortNo) (sample : Nat) (rises : List Bool) (s : State) :
    Host.Outcome State Fault Refusal :=
  s.take fun s => s.ifRunning fun s => s.receive p sample rises

/-- BURST_END (R38). -/
def execBurstEnd (p : PortNo) (s : State) : Host.Outcome State Fault Refusal :=
  s.take fun s => s.ifRunning fun s => s.endBurst p

end Sys2Proof.Machine
end

