-- ==== Sys2Proof/Machine/Verify.lean ====
section
/-! DEFINITION. Verification and the link monitor (chapter 4), and the port timers' rows of the table (chapter 1). -/

namespace Sys2Proof.Machine

/-! ## Lock and errors -/

/-- A lock rise (R65): in LOCK_WAIT it opens the verify window (R67); in LINKED it ends a lock loss as a blip (R78). -/
def State.lockRises (s : State) (p : PortNo) : State :=
  let x := s.port p
  if !s.lineIsData p || x.lockUp then s
  else if x.status.state = .verify then
    if x.status.sub = .lockWait then s.updPort p fun x =>
      { x with
        lockUp := true
        status := { x.status with sub := .window }
        monitor := { x.monitor with verifyCount := 0 }
        timers := { Timers.stopped with verify := some x.prof.verifyWindow } }
    else s
  else
    s.updPort p fun x =>
      (({ x with lockUp := true, timers := { x.timers with drop := none } }.bump .lockBlips).publishTotals).openEdit

/-- A lock fall (R65): in WINDOW it fails the attempt (R70); in LINKED it starts the drop hold (R78). -/
def State.lockFalls (s : State) (p : PortNo) : State :=
  let x := s.port p
  if !s.lineIsData p || !x.lockUp then s
  else if x.status.state = .verify then
    if x.status.sub = .window then
      ((s.updPort p fun x => { x with lockUp := false }).failAttempt p .lockLostInVerify).startJobs p
    else s
  else
    s.updPort p fun x =>
      { x with lockUp := false, timers := { x.timers with drop := some x.prof.dropHold } }

/-- An error event (R65): counted in WINDOW (R69) and in LINKED (R77), with the error event total (R79); else
discarded. -/
def State.takeError (s : State) (p : PortNo) : State :=
  let x := s.port p
  if !s.lineIsData p then s
  else if x.status.state = .linked then
    s.updPort p fun x => { x with monitor := { x.monitor with count := satInc x.monitor.count } }.addError
  else if x.status.sub = .window then
    s.updPort p fun x => { x with monitor := { x.monitor with verifyCount := satInc x.monitor.verifyCount } }.addError
  else s

/-! ## VERIFY (R68, R71, R76) -/

/-- The lock timer expires in LOCK_WAIT (R68). -/
def State.lockTimeout (s : State) (p : PortNo) : State :=
  if (s.port p).status.state = .verify && (s.port p).timers.lock = some 0 then
    (s.failAttempt p .lockTimeout).startJobs p
  else s

/-- Entry to LINKED (R76): last attempt result, UP record, link ups, the monitor; then LINK_UP, and the TRAIN job ends. -/
def State.enterLinked (s : State) (p : PortNo) : State :=
  let s1 := (s.updPort p fun x =>
    let y := x.enter .linked
    { { y with status := { y.status with lastResult := .linked } }.writeRecord s.tick none with
      monitor := Monitor.zero
      timers := { Timers.stopped with monitor := some y.prof.monitorWindow } }.bump .linkUps).raisePort p .linkUp
  s1.endTrain p .linked

/-- The verify timer expires in WINDOW (R71). -/
def State.verifyWindowEnd (s : State) (p : PortNo) : State :=
  let x := s.port p
  if x.status.state = .verify && x.timers.verify = some 0 then
    (if x.monitor.verifyCount.toNat ≤ x.prof.verifyThreshold then s.enterLinked p
      else s.failAttempt p .verifyErrors).startJobs p
  else s

/-! ## LINKED (R77, R78, R80) -/

/-- The monitor timer expires (R77): the window is judged; at the limit the link drops with ERRORS and the failure is
charged (R80); else the count returns to 0, the timer starts again and the totals are published (R79). -/
def State.monitorWindowEnd (s : State) (p : PortNo) : State :=
  let x := s.port p
  if x.status.state = .linked && x.timers.monitor = some 0 then
    let isBad := decide (x.prof.monitorThreshold ≤ x.monitor.count.toNat)
    let run := if isBad then x.monitor.badRun + 1 else 0
    if isBad && decide (x.prof.badLimit ≤ run) then
      (((s.dropLink p .errors).chargeRate p).retrainOrIdle p).startJobs p
    else
      s.updPort p fun x =>
        ({ x with
          monitor := { x.monitor with count := 0, badRun := run }
          timers := { x.timers with monitor := some x.prof.monitorWindow } }.publishTotals).openEdit
  else s

/-- The drop hold timer expires (R78, R80). -/
def State.dropHoldExpiry (s : State) (p : PortNo) : State :=
  if (s.port p).status.state = .linked && (s.port p).timers.drop = some 0 then
    ((s.dropLink p .lockLost).retrainOrIdle p).startJobs p
  else s

/-! ## OFFER, BACKOFF, ROLE_HOLD (R9, R11, R14) -/

/-- The offer timer expires in OFFER (R9). -/
def State.offerTimeout (s : State) (p : PortNo) : State :=
  if (s.port p).status.state = .offer && (s.port p).timers.offer = some 0 then
    (s.failAttempt p .noPartner).startJobs p
  else s

/-- The backoff expires (R11): to the start of an attempt with the quad ready, else the timer starts again. -/
def State.backoffExpiry (s : State) (p : PortNo) : State :=
  if (s.port p).status.state = .backoff && (s.port p).timers.backoff = some 0 then
    if s.isReady (quadOf p) then (s.startAttempt p).startJobs p
    else s.updPort p fun x => { x with timers := { x.timers with backoff := some x.backoffLen } }
  else s

/-- The role hold expires (R14). -/
def State.roleHoldExpiry (s : State) (p : PortNo) : State :=
  if (s.port p).status.state = .roleHold && (s.port p).timers.roleHold = some 0 then
    if (s.port p).prof.autoRetrain then (s.beginSequence p false).startJobs p
    else s.updPort p fun x => { x with timers := { x.timers with roleHold := none } }
  else s

/-! ## Rows of the table -/

/-- LOCK_RISE (R67, R78). -/
def execLockRise (p : PortNo) (s : State) : Host.Outcome State Fault Refusal :=
  s.take fun s => s.ifRunning fun s => s.lockRises p

/-- LOCK_FALL (R70, R78). -/
def execLockFall (p : PortNo) (s : State) : Host.Outcome State Fault Refusal :=
  s.take fun s => s.ifRunning fun s => s.lockFalls p

/-- ERROR_EVENT (R65). -/
def execErrorEvent (p : PortNo) (s : State) : Host.Outcome State Fault Refusal :=
  s.take fun s => s.ifRunning fun s => s.takeError p

/-- LOCK_TIMEOUT (R68). -/
def execLockTimeout (p : PortNo) (s : State) : Host.Outcome State Fault Refusal :=
  s.take fun s => s.ifRunning fun s => s.lockTimeout p

/-- VERIFY_WINDOW_END (R71). -/
def execVerifyWindowEnd (p : PortNo) (s : State) : Host.Outcome State Fault Refusal :=
  s.take fun s => s.ifRunning fun s => s.verifyWindowEnd p

/-- MONITOR_WINDOW_END (R77). -/
def execMonitorWindowEnd (p : PortNo) (s : State) : Host.Outcome State Fault Refusal :=
  s.take fun s => s.ifRunning fun s => s.monitorWindowEnd p

/-- DROP_HOLD_EXPIRY (R78). -/
def execDropHoldExpiry (p : PortNo) (s : State) : Host.Outcome State Fault Refusal :=
  s.take fun s => s.ifRunning fun s => s.dropHoldExpiry p

/-- OFFER_TIMEOUT (R9). -/
def execOfferTimeout (p : PortNo) (s : State) : Host.Outcome State Fault Refusal :=
  s.take fun s => s.ifRunning fun s => s.offerTimeout p

/-- BACKOFF_EXPIRY (R11). -/
def execBackoffExpiry (p : PortNo) (s : State) : Host.Outcome State Fault Refusal :=
  s.take fun s => s.ifRunning fun s => s.backoffExpiry p

/-- ROLE_HOLD_EXPIRY (R14). -/
def execRoleHoldExpiry (p : PortNo) (s : State) : Host.Outcome State Fault Refusal :=
  s.take fun s => s.ifRunning fun s => s.roleHoldExpiry p

end Sys2Proof.Machine
end

