-- ==== Sys2Proof/Machine/Measuring.lean ====
section
/-! DEFINITION. Measurements from grant to release (chapters 5 to 7): grants taken, loads, quiet tries, shots,
completions, reports and watch results; and front-end readiness (R3, R4). -/

namespace Sys2Proof.Machine

/-! ## The end of a measurement (R102, R103) -/

/-- A finished JOB measurement (R102, R144): the report, then the job ends DONE / REPORTED, then the release, the
resumption rule and the next job. The port acts in the state R102 names (log entry 35). -/
def State.finishJob (s : State) (e : EngineNo) (m : Measurement) : State :=
  let s1 := s.writeReport m.holder (m.reportAt s.tick)
  if (s1.port m.holder).status.state = .probe then
    (((s1.endJob m.holder .reported).release e).resume m.holder).startJobs m.holder
  else s1.release e

/-- A finished PRECHECK (R122): the report and the qualified set in one edit, the release, then the decision, which is
that of the start of an attempt (R8). -/
def State.finishPrecheck (s : State) (e : EngineNo) (m : Measurement) (qual : RateSet) : State :=
  let s1 := s.writeReport m.holder (m.reportAt s.tick)
  if (s1.port m.holder).status.state = .check then
    let s2 := s1.updPort m.holder fun x => { x with status := { x.status with qualSet := qual } }
    ((s2.release e).startAttempt m.holder).startJobs m.holder
  else s1.release e

/-- The line watch compares a result and writes it or counts a pass (R130). -/
def State.compareWatch (s : State) (p : PortNo) (r : Report) : State :=
  let qual := qualifiedFrom r.pairs
  if (s.port p).report.sequence = 0 || statusesDiffer r.pairs (s.port p).report.pairs then
    ((s.writeReport p r).updPort p fun x => { x with status := { x.status with qualSet := qual } }).raisePort p
      .watchChange
  else
    s.updPort p fun x => ({ x with status := { x.status with qualSet := qual } }.bump .watchPasses).openEdit

/-- The watch's triggers, after the release (R131). -/
def State.watchTriggers (s : State) (p : PortNo) (pairs : Pairs PairResult) : State :=
  let x := s.port p
  if x.prof.autoRetrain &&
      (decide (x.status.state = .idle) && anyNoisy pairs ||
        decide (x.status.state = .cableHold) && decide (x.status.qualSet &&& x.status.offerSet ≠ 0)) then
    s.beginSequence p true
  else s

def State.finishWatch (s : State) (e : EngineNo) (m : Measurement) : State :=
  let r := m.reportAt s.tick
  ((((s.compareWatch m.holder r).release e).watchTriggers m.holder r.pairs).startJobs m.holder)

/-- After the last pair (R87, R100). -/
def State.finishMeasurement (s : State) (e : EngineNo) : State :=
  match (s.engine e).meas with
  | some m =>
    match m.source with
    | .job => s.finishJob e m
    | .precheck => s.finishPrecheck e m (qualifiedFrom (m.reportAt s.tick).pairs)
    | .watch => s.finishWatch e m
  | none => s

/-- On to the next pair of the set, or to the report (R87). -/
def State.goOn (s : State) (e : EngineNo) (next : Option Pair) : State :=
  match next with
  | some p => s.startPair e p
  | none => (s.updMeas e fun m => { m with pair := none }).finishMeasurement e

/-! ## Load (R84 to R86) -/

/-- The report sequence counter passes from 65,535 to 1 (R84). -/
def nextSequence (n : Word) : Word := if n = BitVec.allOnes 16 then 1 else n + 1

/-- The recipe a request brings, or the quick recipe read now (R84). -/
def State.recipeFor (s : State) : ReqKind → Recipe
  | .job r _ => r
  | .precheck => s.quickRecipe
  | .watch => s.quickRecipe

def ReqKind.source : ReqKind → Source
  | .job _ _ => .job | .precheck => .precheck | .watch => .watch

def ReqKind.tag : ReqKind → Option Word
  | .job _ t => some t | .precheck => none | .watch => none

def State.patternLength (s : State) (k : Fin 8) : Nat := (s.readMem (patternBase k)).toNat

/-- The load check (R85). -/
def State.loadCheck (s : State) (k : ReqKind) : Bool :=
  let r := s.recipeFor k
  inRange (s.patternLength r.pattern) 1 Config.longestPattern && inRange s.velocity.toNat 50 90 &&
    (decide (k.source = .job) || r.valid)

/-- A load fault (R85): RECIPE_FAULT, a fault report but for a watch, and the release. -/
def State.loadFault (s : State) (e : EngineNo) : State :=
  let s1 := (s.raiseGlobal .recipeFault).updMeas e fun m => { m with flags := flagLoadFault }
  match (s1.engine e).meas with
  | some m =>
    match m.source with
    | .job => s1.finishJob e m
    | .precheck => s1.finishPrecheck e m RateSet.all
    | .watch => s1.release e
  | none => s1

/-- What the engine holds from the load on (R84, R86). -/
def State.loaded (s : State) (p : PortNo) (k : ReqKind) : Measurement :=
  let r := s.recipeFor k
  { holder := p, source := k.source, tag := k.tag, recipe := r, velocity := s.velocity,
    sequence := nextSequence (s.port p).reportCount, startTick := s.tick,
    pattern := if s.loadCheck k then
        chipsOf (fun i => s.readMem (patternBase r.pattern + i)) (s.patternLength r.pattern) else [],
    pair := none, phase := .finishing 0 (Pairs.all []), filling := none, results := Pairs.all none, flags := 0 }

/-- An accepted grant loads (R84): the port's line is PULSE from here, its decoder discards the burst in progress
(R37). -/
def State.load (s : State) (e : EngineNo) (p : PortNo) (k : ReqKind) : State :=
  let m := s.loaded p k
  let s1 := (s.setEngine e { s.engine e with meas := some m }).updPort p fun x =>
    { x with request := none, reportCount := m.sequence, decoder := { x.decoder with burst := none } }
  if s.loadCheck k then s1.goOn e (firstPair m.recipe) else s1.loadFault e

/-- A withdrawal of the port is on its way to the arbiter, so an unaccepted grant answers a withdrawn request
(log entry 9). -/
def Port.hasWithdrawn (x : Port) : Bool := x.outbox.any fun m => decide (m = .withdraw)

/-- A grant reaches its port (R112): ignored if its request was withdrawn, turned back if the quad is not ready, else
accepted. -/
def State.takeGrant (s : State) (e : EngineNo) : State :=
  match s.grant e with
  | some g =>
    let p := g.request.port
    if g.accepted then s
    else if (s.port p).hasWithdrawn || (s.port p).request.isNone then s
    else if s.isReady (quadOf p) then
      (s.setGrant e (some { g with accepted := true })).load e p g.request.kind
    else
      let s1 := s.turnBack e
      { s1 with requests := insertByPlace g.request s1.requests }.applyGrantRule
  | none => s

/-! ## Quiet tries, shots, completions (R90 to R100) -/

/-- A pair whose three tries were all busy (R91). A peak outside the 16-bit range is a free value (log entry 12). -/
def State.endNoisy (s : State) (e : EngineNo) (m : Measurement) (p : Pair) (cap : Pairs (List Int)) : State :=
  let v := noisyPeak cap
  let peak := if fitsWord v then BitVec.ofInt 16 v else Config.freePeak s.freeCount
  let s1 := if fitsWord v then s else { s with freeCount := s.freeCount + 1 }
  let s2 := (s1.freeSlab m.filling).updMeas e fun m =>
    { m with results := m.results.set p (some (noisyResult peak)), filling := none }
  s2.goOn e (nextPair m.recipe p)

/-- The capture of a quiet try ends (R90). -/
def State.endTry (s : State) (e : EngineNo) (bits : EchoBits) : State :=
  match (s.engine e).meas with
  | some m =>
    match m.phase, m.pair with
    | .quietCheck tries .capturing, some p =>
      let cap := captureOf bits m.recipe Config.tryPositions
      if !isBusy m.recipe cap then
        s.updMeas e fun m => { m with phase := .shooting (tries + 1) 0 (zeroAcc m.recipe) }
      else if tries + 1 < Config.tryLimit then
        s.updMeas e fun m => { m with phase := .quietCheck (tries + 1) .waiting }
      else s.endNoisy e m p cap
    | _, _ => s
  | none => s

/-- A further try begins at the tick after a busy one (R90). -/
def State.startTry (s : State) (e : EngineNo) : State :=
  match (s.engine e).meas with
  | some m =>
    match m.phase with
    | .quietCheck tries .due => s.updMeas e fun m => { m with phase := .quietCheck tries .capturing }
    | _ => s
  | none => s

/-- A shot ends (R92 to R94): each channel's outputs are added; after the last shot the engine enters FINISHING. -/
def State.endShot (s : State) (e : EngineNo) (bits : EchoBits) : State :=
  match (s.engine e).meas with
  | some m =>
    match m.phase with
    | .shooting tries n acc =>
      let acc' := acc.zipWith addOutputs (captureOf bits m.recipe m.recipe.window)
      s.updMeas e fun m =>
        { m with phase := if m.recipe.shots ≤ n + 1 then .finishing tries acc' else .shooting tries (n + 1) acc' }
    | _ => s
  | none => s

/-- Consecutive words from an address up. -/
def State.writeWords (s : State) (a : Nat) : List Word → State
  | [] => s
  | w :: rest => (s.writeMem a w).writeWords (a + 1) rest

/-- The trace writer (R99): the scaled self channel, the slab table entry, then HELD. A slab has 512 words. -/
def State.writeTrace (s : State) (k : SlabNo) (m : Measurement) (p : Pair) (vs : List Int) : State :=
  ((s.writeWords (slabBase k) ((vs.take 512).map fun v => BitVec.ofInt 16 v)).writeWords (slabEntryBase k)
    [BitVec.ofNat 16 m.holder.val, BitVec.ofNat 16 p.code, m.sequence, BitVec.ofNat 16 m.recipe.window]).writeMem
    (ownerAddr k) ownerHeld

/-- A pair's completion (R95 to R100). -/
def State.completePair (s : State) (e : EngineNo) : State :=
  match (s.engine e).meas with
  | some m =>
    match m.phase, m.pair with
    | .finishing tries acc, some p =>
      let vs := acc.map (scaled m.recipe)
      let r := pairResult m.recipe m.velocity p tries m.filling vs
      let flags := if anySaturated m.recipe (acc.get p) then m.flags ||| flagSaturated else m.flags
      let s1 := match m.filling with
        | some k => s.writeTrace k m p (vs.get p)
        | none => s
      let s2 := s1.updMeas e fun m => { m with results := m.results.set p (some r), filling := none, flags := flags }
      s2.goOn e (nextPair m.recipe p)
    | _, _ => s
  | none => s

/-! ## Readiness (R3, R4) -/

/-- A readiness fall at one port of the quad (R4). -/
def State.fallAt (s : State) (p : PortNo) : State :=
  let s1 :=
    match (s.port p).status.state, s.engineOf p with
    | .linked, _ => (s.dropLink p .frontEnd).retrainOrIdle p
    | .offer, _ => s.failAttempt p .frontEnd
    | .exchange, _ => s.failAttempt p .frontEnd
    | .verify, _ => s.failAttempt p .frontEnd
    | .check, some e => (s.abortEngine e (some flagFrontEnd)).post p .precheck
    | .probe, some e => ((s.abortEngine e (some flagFrontEnd)).endJob p .reported).resume p
    | .idle, some e => s.abortEngine e none
    | .cableHold, some e => s.abortEngine e none
    | _, _ => s
  s1.startJobs p

/-- A readiness fall (R3, R4): the flag changes; while RUNNING each port of the quad is acted on. -/
def State.readinessFall (s : State) (q : QuadNo) : State :=
  if s.isReady q then
    (s.setReady q false).ifRunning fun s => s.forEach (quadPorts q) State.fallAt
  else s

/-- A readiness rise (R3, R116): the flag changes; while RUNNING the grant rule is applied. -/
def State.readinessRise (s : State) (q : QuadNo) : State :=
  if s.isReady q then s else (s.setReady q true).ifRunning State.applyGrantRule

/-! ## Rows of the table -/

/-- GRANT_TAKEN (R112). -/
def execGrantTaken (e : EngineNo) (s : State) : Host.Outcome State Fault Refusal :=
  s.take fun s => s.ifRunning fun s => s.takeGrant e

/-- QUIET_TRY_START (R90). -/
def execQuietTryStart (e : EngineNo) (s : State) : Host.Outcome State Fault Refusal :=
  s.take fun s => s.ifRunning fun s => s.startTry e

/-- QUIET_TRY (R90). -/
def execQuietTry (e : EngineNo) (bits : EchoBits) (s : State) : Host.Outcome State Fault Refusal :=
  s.take fun s => s.ifRunning fun s => s.endTry e bits

/-- SHOT (R92). -/
def execShot (e : EngineNo) (bits : EchoBits) (s : State) : Host.Outcome State Fault Refusal :=
  s.take fun s => s.ifRunning fun s => s.endShot e bits

/-- PAIR_COMPLETION (R100). -/
def execPairCompletion (e : EngineNo) (s : State) : Host.Outcome State Fault Refusal :=
  s.take fun s => s.ifRunning fun s => s.completePair e

/-- READINESS_FALL (R4). -/
def execReadinessFall (q : QuadNo) (s : State) : Host.Outcome State Fault Refusal :=
  s.take fun s => s.readinessFall q

/-- READINESS_RISE (R3). -/
def execReadinessRise (q : QuadNo) (s : State) : Host.Outcome State Fault Refusal :=
  s.take fun s => s.readinessRise q

end Sys2Proof.Machine
end

