-- ==== Sys2Proof/Machine/LineWatch.lean ====
section
/-! DEFINITION. The line watch: its interval timer and what an expiry does at each port (7.5). -/

namespace Sys2Proof.Machine

/-- A port is due at an expiry when its profile has watch on and it is in IDLE or CABLE_HOLD (R128). -/
def Port.watchDue (x : Port) : Bool :=
  (match x.profile with
    | some f => f.watch
    | none => false) &&
    (decide (x.status.state = .idle) || decide (x.status.state = .cableHold))

/-- The waiting request is late: the counter is published in an edit made for the expiry (R128). -/
def Port.countLate (x : Port) : Port := (x.bump .watchLate).openEdit

/-- What a due port does (R128): with an engine, or a grant still to be accepted, nothing; with a request waiting it
counts late; with neither it posts a WATCH request. -/
def State.dueAt (s : State) (p : PortNo) : State :=
  if (s.engineOf p).isSome then s
  else
    match (s.port p).request with
    | none => s.post p .watch
    | some _ =>
      if (s.unacceptedGrantOf p).isSome && !(s.port p).hasWithdrawn then s else s.updPort p Port.countLate

def State.watchPort (s : State) (p : PortNo) : State := if (s.port p).watchDue then s.dueAt p else s

/-- The watch interval word becomes the interval in force, with the elapsed count 0 (R127). -/
def State.readInterval (s : State) : State :=
  { s with watchInterval := s.readMem watchIntervalAddr, watchElapsed := 0 }

/-- The period has run its length (R127). -/
def State.watchExpired (s : State) : Bool :=
  decide (s.watchInterval ≠ 0) && decide (s.watchElapsed = s.watchInterval)

/-- An expiry (R127, R128): every port in port order, then the word for the next period. -/
def State.watchExpiry (s : State) : State :=
  if s.watchExpired then (s.forEach (List.finRange 48) State.watchPort).readInterval else s

/-- The watch timer at a tick (R127). An expiry not yet taken leaves the count at the interval (log entry 3). -/
def State.watchTick (s : State) : State :=
  if s.watchInterval = 0 then s.readInterval
  else if s.watchElapsed.toNat < s.watchInterval.toNat then { s with watchElapsed := s.watchElapsed + 1 }
  else s

/-- WATCH_EXPIRY (R128). -/
def execWatchExpiry (s : State) : Host.Outcome State Fault Refusal :=
  s.take fun s => s.ifRunning State.watchExpiry

end Sys2Proof.Machine
end

