-- ==== Sys2Proof/Machine/Intake.lean ====
section
/-! DEFINITION. Intake (chapter 8): hand-ins, the taking and judging of cells, appends and cancels. -/

namespace Sys2Proof.Machine

/-! ## Handing in (R137) -/

/-- An accepted hand-in joins the tail of the queue, and its custody becomes INTAKE. -/
def State.acceptHandIn (s : State) (c : CellNo) : State :=
  { s with intakeQueue := s.intakeQueue ++ [c] }.setCustody c .intake

/-- The checks of R137 in their order. In FILLING the write is ignored. -/
def State.handIn (s : State) (v : Word) : State :=
  match s.runState with
  | .filling => s
  | .stopped => s.refuseHandIn .closed
  | .stopping => s.refuseHandIn .closed
  | .running =>
    if h : v.toNat < 128 then
      let c : CellNo := ⟨v.toNat, h⟩
      if s.custodyOf c ≠ .outside then s.refuseHandIn .duplicate
      else if Config.queueDepth ≤ s.intakeQueue.length then s.refuseHandIn .overrun
      else s.acceptHandIn c
    else s.refuseHandIn .badIndex

/-! ## News of a cell (R140, R145) -/

/-- JOB_DONE on the port, or INTAKE_FAULT where no port is known (R145). -/
def State.cellNews (s : State) (p : Option PortNo) : State :=
  match p with
  | some p => s.raisePort p .jobDone
  | none => s.raiseGlobal .intakeFault

/-- REFUSED with its reason, the ticks those of the intake, custody OUTSIDE (R140). -/
def State.refuseCell (s : State) (c : CellNo) (why : Reason) : State := s.endCell c .refused .none why s.tick

/-- A CANCEL cell reaches DONE (R145). -/
def State.endCancel (s : State) (c : CellNo) (out : JobOutcome) : State := s.endCell c .done out .none s.tick

/-- A target is written CANCELLED / BY_CANCEL (R146, R147). -/
def State.cancelCell (s : State) (c : CellNo) (start : Ticks) : State := s.endCell c .cancelled .none .byCancel start

/-! ## CANCEL (R145 to R148) -/

/-- The port whose list holds a cell (R136: at most one). -/
def State.listPortOf (s : State) (c : CellNo) : Option PortNo :=
  (List.finRange 48).find? fun p => (s.port p).jobs.any fun j => decide (j.cell = c)

/-- The port named in a cell's port field, if 0 to 47 (R145). -/
def State.namedPort (s : State) (c : CellNo) : Option PortNo := portOf (s.cellPort c)

/-- The target waits in the intake queue (R146). -/
def State.cancelQueued (s : State) (t : CellNo) : State :=
  ({ s with intakeQueue := s.intakeQueue.filter fun c => decide (c ≠ t) }.cancelCell t s.tick).cellNews (s.namedPort t)

/-- The target waits in port p's list (R146). -/
def State.cancelListed (s : State) (p : PortNo) (t : CellNo) : State :=
  ((s.updPort p fun x => { x with jobs := x.jobs.filter fun j => decide (j.cell ≠ t) }).cancelCell t s.tick).cellNews
    (some p)

/-- The running job acts on its port (R19, R147 step 1). -/
def State.abortJob (s : State) (p : PortNo) (w : Work) : State :=
  match w with
  | .train _ => ((s.abortPort p (some flagCancelled)).removeProfile p).enterDisabled p
  | .diagnose _ _ => s.abortPort p (some flagCancelled)
  | .hold => s

/-- A cancelled DIAGNOSE is followed by the resumption rule (R147 step 3). -/
def State.resumeAfter (s : State) (p : PortNo) (w : Work) : State :=
  match w with
  | .diagnose _ _ => s.resume p
  | .train _ => s
  | .hold => s

/-- The target is port p's running job (R147). -/
def State.cancelRunning (s : State) (p : PortNo) (t : CellNo) : State :=
  match (s.port p).jobs with
  | j :: rest =>
    let s1 := (s.abortJob p j.work).cancelCell t j.start
    let s2 := (s1.updPort p fun x =>
      { x with jobs := rest, status := { x.status with running := none } }).cellNews (some p)
    (s2.resumeAfter p j.work).startJobs p
  | [] => s

/-- A state word is terminal: DONE, REFUSED or CANCELLED (R135). -/
def isTerminal (w : Word) : Bool :=
  decide (w = CellState.done.code) || decide (w = CellState.refused.code) || decide (w = CellState.cancelled.code)

/-- The target is with the host (R148). -/
def State.cancelOutside (s : State) (c t : CellNo) : State :=
  if isTerminal (s.cellWord t 0) then (s.endCancel c .tooLate).cellNews (s.namedPort t)
  else ((s.refuseCell c .badTarget).cellNews (s.namedPort t)).raiseGlobal .intakeFault

/-- A CANCEL in cell c with target t, by the target's custody (R145). -/
def State.cancel (s : State) (c t : CellNo) : State :=
  match s.custodyOf t, s.listPortOf t with
  | .intake, _ => ((s.cancelQueued t).endCancel c .cancelDone).cellNews (s.namedPort t)
  | .listed, some p => ((s.cancelListed p t).endCancel c .cancelDone).cellNews (some p)
  | .running, some p => ((s.cancelRunning p t).endCancel c .cancelDone).cellNews (some p)
  | .outside, _ => s.cancelOutside c t
  | .listed, none => s.cancelOutside c t
  | .running, none => s.cancelOutside c t

/-! ## Judging (R139 to R142) -/

/-- Job kinds (11.3). -/
inductive JobKind where
  | train | diagnose | hold | cancel
deriving DecidableEq, Repr

def JobKind.ofCode (n : Nat) : Option JobKind :=
  if n = 1 then some .train else if n = 2 then some .diagnose else if n = 3 then some .hold
  else if n = 4 then some .cancel else none

/-- The on-chip copy of a cell's work (R139), absent when a parameter is out of range (R141). -/
def State.workOf (s : State) (c : CellNo) : JobKind → Option Work
  | .train =>
    let f := Profile.ofWords (s.cellParam c)
    if f.valid then some (.train f) else none
  | .diagnose =>
    let r := Recipe.ofWords (s.cellParam c)
    if r.valid then some (.diagnose r ((s.cellParam c 0).getLsbD 6)) else none
  | .hold => some .hold
  | .cancel => none

/-- The target of a CANCEL, absent when out of range (R141): 128 or more, or the CANCEL's own index. -/
def State.targetOf (s : State) (c : CellNo) : Option CellNo :=
  if h : (s.cellParam c 0).toNat < 128 then
    if (⟨(s.cellParam c 0).toNat, h⟩ : CellNo) = c then none else some ⟨(s.cellParam c 0).toNat, h⟩
  else none

/-- An append (R142): the tail of the list, the state word QUEUED, custody LISTED; and the job starts if it can
(R143). -/
def State.append (s : State) (p : PortNo) (c : CellNo) (w : Work) : State :=
  let j : Job := { cell := c, tag := s.cellTag c, work := w, start := s.tick }
  (((s.updPort p fun x => { x with jobs := x.jobs ++ [j] }).writeCellState c .queued).setCustody c .listed).startJobs p

/-- The last three checks of R140, for a kind that goes to a port. -/
def State.judgeJob (s : State) (c : CellNo) (k : JobKind) (p : PortNo) : State :=
  match s.workOf c k with
  | none => (s.refuseCell c .badParam).raisePort p .jobDone
  | some w =>
    if Config.listDepth ≤ (s.port p).jobs.length then (s.refuseCell c .listFull).raisePort p .jobDone
    else s.append p c w

/-- A CANCEL is judged and carried out at once (R140, R145). -/
def State.judgeCancel (s : State) (c : CellNo) : State :=
  match s.targetOf c with
  | none => (s.refuseCell c .badParam).raiseGlobal .intakeFault
  | some t => s.cancel c t

/-- A READY cell is judged by the first check that applies (R140). -/
def State.judge (s : State) (c : CellNo) : State :=
  match JobKind.ofCode (s.cellKind c), s.namedPort c with
  | none, some p => ((s.refuseCell c .badKind).raiseGlobal .intakeFault).raisePort p .jobDone
  | none, none => (s.refuseCell c .badKind).raiseGlobal .intakeFault
  | some .cancel, _ => s.judgeCancel c
  | some _, none => (s.refuseCell c .badPort).raiseGlobal .intakeFault
  | some k, some p => s.judgeJob c k p

/-- A cell that does not read READY leaves custody unwritten (R139). -/
def State.notReady (s : State) (c : CellNo) : State :=
  ({ s with intakeErrors := satInc s.intakeErrors }.setCustody c .outside).raiseGlobal .intakeFault

/-- Intake takes the head of the queue (R139). -/
def State.intakeTake (s : State) : State :=
  match s.intakeQueue with
  | c :: rest =>
    let s1 := { s with intakeQueue := rest }
    if s1.cellWord c 0 = CellState.ready.code then s1.judge c else s1.notReady c
  | [] => s

/-- HAND_IN (R137). -/
def execHandIn (v : Word) (s : State) : Host.Outcome State Fault Refusal := s.take fun s => s.handIn v

end Sys2Proof.Machine
end

