-- ==== Sys2Proof/Machine/RunControl.lean ====
section
/-! DEFINITION. Run control (9.4 to 9.6): pin reset and the fill, RUN, STOP and the end of stopping, TIMEBASE, ticks. -/

namespace Sys2Proof.Machine

/-! ## Pin reset (R159) -/

/-- The part as pin reset leaves it, the ready flags at the levels presented (R3). The queue of commands and the
free-value counter are the model's own. -/
def State.pinReset (s : State) (levels : BitVec 12) : State :=
  { State.reset with
    pending := s.pending, freeCount := s.freeCount, ready := Vector.ofFn fun q : QuadNo => levels.getLsbD q.val }

/-- The fill completes (R159 steps 3 and 4): each port makes its one edit, and the part enters STOPPED. -/
def State.fillDone (s : State) : State :=
  if s.runState = .filling then
    { s with runState := .stopped, ports := Vector.ofFn fun p => (s.port p).openEdit }
  else s

/-! ## RUN (R160) -/

def State.run (s : State) : State :=
  if s.runState = .stopped then { s with runState := .running, lock := true, divider := 0 }.readInterval else s

/-! ## STOP (R161) -/

/-- The arbiter's share (R118): the list is emptied and every unaccepted grant is turned back. -/
def State.stopGrant (s : State) (e : EngineNo) : State :=
  match s.grant e with
  | some g => if g.accepted then s else s.turnBack e
  | none => s

def State.stopArbiter (s : State) : State := { s with requests := [] }.forEach (List.finRange 4) State.stopGrant

/-- A port's share (R23); what it had sent the arbiter finds nothing there. -/
def State.stopPort (s : State) (p : PortNo) : State :=
  let s1 := if (s.port p).status.state = .linked then s.dropLink p .stopped else s
  (((s1.abortPort p none).removeProfile p).enterDisabled p).updPort p fun x => { x with request := none, outbox := [] }

/-- A cell in custody is written CANCELLED / STOPPED (R150). -/
def State.stopCell (s : State) (c : CellNo) (start : Ticks) : State := s.endCell c .cancelled .none .stopped start

/-- A running entry keeps its start tick; the others take the tick of the stop (R150). -/
def State.stopJob (s : State) (p : PortNo) (j : Job) : State :=
  (s.stopCell j.cell (if s.custodyOf j.cell = .running then j.start else s.tick)).raisePort p .jobDone

def State.stopList (s : State) (p : PortNo) : State :=
  (s.forEach (s.port p).jobs fun s j => s.stopJob p j).updPort p fun x =>
    { x with jobs := [], status := { x.status with running := none } }

/-- Intake's share (R150). -/
def State.stopIntake (s : State) : State :=
  { s.forEach s.intakeQueue fun s c => s.stopCell c s.tick with intakeQueue := [], intakeDue := false }.forEach
    (List.finRange 48) State.stopList

/-- STOP is taken: STOPPING, with the divider's count and the watch period discarded; then the shares of the arbiter, of
the ports with their engines, and of intake, within one edit of each port page (R161; log entries 6 and 13). -/
def State.stop (s : State) : State :=
  let s1 := { s with runState := .stopping, divider := 0, watchInterval := 0, watchElapsed := 0 }
  (s1.stopArbiter.forEach (List.finRange 48) State.stopPort).stopIntake

/-- All four shares are complete (R161). -/
def State.sharesDone (s : State) : Bool :=
  (List.finRange 48).all (fun p => decide ((s.port p).status.state = .disabled) && (s.port p).jobs.isEmpty) &&
    (List.finRange 4).all (fun e => (s.engine e).meas.isNone && (s.grant e).isNone) &&
    (List.finRange 12).all (fun q => !s.claimed q) && s.requests.isEmpty && s.intakeQueue.isEmpty

/-- The end of STOPPING (R161). -/
def State.stopDone (s : State) : State :=
  if s.runState = .stopping && s.sharesDone then { s with runState := .stopped }.raiseGlobal .stopDone else s

/-! ## TIMEBASE (R157) -/

def State.writeTimebase (s : State) (v : Word) : State :=
  s.ifFilled fun s => if s.lock || decide (v = 0) then s else { s with divisor := v }

/-! ## Ticks (R158) -/

/-- The step of a seed generator (R20). -/
def seedStep (g : Word) : Word :=
  (g <<< 1) ||| (if g.getLsbD 15 != (g.getLsbD 13 != (g.getLsbD 12 != g.getLsbD 10)) then 1 else 0)

/-- A port timer counts a tick; at 0 it is due. -/
def timerTick (t : Option Nat) : Option Nat := t.map fun n => n - 1

def Timers.tick (t : Timers) : Timers :=
  ⟨timerTick t.offer, timerTick t.brk, timerTick t.lock, timerTick t.verify, timerTick t.monitor, timerTick t.drop,
    timerTick t.backoff, timerTick t.roleHold⟩

/-- The burst schedule: a burst falls due every 12 ticks (R29). -/
def Sender.tick (x : Sender) : Sender :=
  match x.phase with
  | some n =>
    if n + 1 = Config.burstInterval then { x with phase := some 0, due := true } else { x with phase := some (n + 1) }
  | none => x

/-- What a tick does at a port: seed generator (R20), timers (R2), burst schedule (R29), unlock ticks (R78). -/
def Port.tick (x : Port) : Port :=
  let y := { x with seedGen := seedStep x.seedGen, timers := x.timers.tick, sender := x.sender.tick }
  if y.status.state = .linked && !y.lockUp then y.addUnlockTick else y

/-- After a busy quiet try the engine waits for the next tick (R90). -/
def Measurement.tick (m : Measurement) : Measurement :=
  match m.phase with
  | .quietCheck tries .waiting => { m with phase := .quietCheck tries .due }
  | _ => m

def Engine.tick (x : Engine) : Engine := { x with meas := x.meas.map Measurement.tick }

/-- A tick at every block but intake (R158): the counter, the ports, the engines, and then the watch timer. -/
def State.tickBlocks (s : State) : State :=
  { s with
    tick := s.tick + 1
    divider := 0
    ports := Vector.ofFn fun p => (s.port p).tick
    engines := Vector.ofFn fun e => (s.engine e).tick }.watchTick

/-- A tick is taken in two shares, so that the events due at it come before or after intake's entry (R140, R149; log
entry 5): every other block (R158), after which intake owes an entry where its queue holds one; and that entry (R139),
taken before the next tick. -/
def State.takeTick (s : State) : State :=
  if s.intakeDue then { s with intakeDue := false }.intakeTake
  else { s.tickBlocks with intakeDue := !s.intakeQueue.isEmpty }

/-- One reference-clock period: the divider counts while RUNNING, and at the divisor a tick is taken (R158). The entry
that intake owes of a tick comes before the next period (log entry 4). -/
def State.clockPeriod (s : State) : State :=
  s.ifRunning fun s =>
    if s.intakeDue || decide (s.divisor.toNat ≤ s.divider.toNat + 1) then s.takeTick
    else { s with divider := s.divider + 1 }

/-! ## Rows of the table -/

/-- PIN_RESET (R159): it acts whatever went before, the pin's assertion included. -/
def execPinReset (levels : BitVec 12) (s : State) : Host.Outcome State Fault Refusal := .next (s.pinReset levels)

/-- FILL_DONE (R159). -/
def execFillDone (s : State) : Host.Outcome State Fault Refusal := s.take State.fillDone

/-- RUN (R160). -/
def execRun (s : State) : Host.Outcome State Fault Refusal := s.take State.run

/-- STOP (R161). -/
def execStop (s : State) : Host.Outcome State Fault Refusal := s.take fun s => s.ifRunning State.stop

/-- STOP_DONE (R161). -/
def execStopDone (s : State) : Host.Outcome State Fault Refusal := s.take State.stopDone

/-- TIMEBASE_WRITE (R157). -/
def execTimebaseWrite (v : Word) (s : State) : Host.Outcome State Fault Refusal := s.take fun s => s.writeTimebase v

/-- TICK (R158). -/
def execTick (s : State) : Host.Outcome State Fault Refusal := s.take fun s => s.ifRunning State.takeTick

/-- RESET_PIN_ASSERTED (R159): the part does no work until the pin is released. -/
def execResetPinAsserted (s : State) : Host.Outcome State Fault Refusal := .next { s with resetPin := true }

end Sys2Proof.Machine
end

