-- ==== Sys2Proof/Machine/HostPort.lean ====
section
/-! DEFINITION. Host writes (R151, R156), clears of news and of refusal flags (R163, R138), NEWS ENABLE (R165). -/

namespace Sys2Proof.Machine

/-- Each one in the value clears the corresponding flag (R151). -/
def clearFlags {w : Nat} (flags value : BitVec w) : BitVec w := flags &&& ~~~value

/-- A write to INTAKE STATUS clears the refusal flags written as ones, at bits 8 to 11 (R138). -/
def State.clearIntakeStatus (s : State) (v : Word) : State :=
  s.ifFilled fun s => { s with intakeFlags := clearFlags s.intakeFlags (v.extractLsb' 8 4) }

/-- A write to NEWS ENABLE replaces the twelve enables (R165). -/
def State.writeNewsEnable (s : State) (v : Word) : State :=
  s.ifFilled fun s => { s with newsEnable := v.extractLsb' 0 12 }

/-- A clear at a port (R163); a one to CAL_FAIL clears failed-since-cleared too and publishes it in an edit (R44). -/
def Port.clearNews (x : Port) (v : Word) : Port :=
  let y := { x with news := clearFlags x.news (v.extractLsb' 0 8) }
  if v.getLsbD PortFlag.calFail.bit then { y with status := { y.status with failedSince := false } }.openEdit else y

/-- A host write to a news word (R163). -/
def State.clearNews (s : State) (target : Option PortNo) (v : Word) : State :=
  s.ifFilled fun s =>
    match target with
    | none => { s with globalNews := clearFlags s.globalNews (v.extractLsb' 0 4) }
    | some p => s.updPort p fun x => x.clearNews v

/-- Addresses where a host write is taken into memory (R151): watch interval, velocity factor, quick recipe, slab owner
words, job cells, pattern store. -/
def hostWritable (a : Nat) : Bool :=
  decide (a = watchIntervalAddr) || decide (a = velocityAddr) || inRange a 0x0040 0x004A || inRange a 0x0080 0x00A7 ||
    inRange a 0x0400 0x13FF || inRange a 0x7C00 0x7FFF

/-- The command field of RUN CONTROL, bits 1-0 (11.2). -/
def runCommand (v : Word) : Nat := (v.extractLsb' 0 2).toNat

/-- The port whose news word is at an address: word 1 of a port page (11.4). -/
def newsPortAt (a : Nat) : Option PortNo :=
  if 0x1400 ≤ a ∧ a % 128 = 1 then portOf ((a - 0x1400) / 128) else none

/-- A host write to a word with no row of its own (R151): taken or ignored. -/
def State.writePlain (s : State) (a : Nat) (v : Word) : State :=
  s.ifFilled fun s => if hostWritable a then s.writeMem a v else s

/-- A host write judged by its word (R151). A word with a row of its own does there what that row says (log
entry 19). -/
def State.hostWriteTo (s : State) (a : Nat) (v : Word) : State :=
  if a = 0x0001 then s.writeTimebase v
  else if a = 0x0002 then
    (if runCommand v = 1 then s.run else if runCommand v = 2 then s.ifRunning State.stop else s)
  else if a = 0x0003 then s.handIn v
  else if a = 0x0004 then s.clearIntakeStatus v
  else if a = 0x0005 then s.writeNewsEnable v
  else if a = 0x0020 then s.clearNews none v
  else
    match newsPortAt a with
    | some p => s.clearNews (some p) v
    | none => s.writePlain a v

/-! ## Rows of the table -/

/-- INTAKE_STATUS_CLEAR (R138). -/
def execIntakeStatusClear (v : Word) (s : State) : Host.Outcome State Fault Refusal :=
  s.take fun s => s.clearIntakeStatus v

/-- NEWS_ENABLE_WRITE (R165). -/
def execNewsEnableWrite (v : Word) (s : State) : Host.Outcome State Fault Refusal :=
  s.take fun s => s.writeNewsEnable v

/-- NEWS_CLEAR (R163). -/
def execNewsClear (target : Option PortNo) (v : Word) (s : State) : Host.Outcome State Fault Refusal :=
  s.take fun s => s.clearNews target v

/-- HOST_WRITE (R151). -/
def execHostWrite (a : Addr) (v : Word) (s : State) : Host.Outcome State Fault Refusal :=
  s.take fun s => s.hostWriteTo a.toNat v

end Sys2Proof.Machine
end

