-- ==== Sys2Proof/Machine/Dispatch.lean ====
section
/-! DEFINITION. One arm per command. -/

namespace Sys2Proof.Machine

/-- The effect of a command on everything but the queue. -/
def exec (i : Instr) (s : State) : Host.Outcome State Fault Refusal :=
  match i with
  | .pinReset levels => Sys2Proof.Machine.execPinReset levels s
  | .fillDone => Sys2Proof.Machine.execFillDone s
  | .run => Sys2Proof.Machine.execRun s
  | .stop => Sys2Proof.Machine.execStop s
  | .stopDone => Sys2Proof.Machine.execStopDone s
  | .timebaseWrite value => Sys2Proof.Machine.execTimebaseWrite value s
  | .handIn value => Sys2Proof.Machine.execHandIn value s
  | .intakeStatusClear value => Sys2Proof.Machine.execIntakeStatusClear value s
  | .newsEnableWrite value => Sys2Proof.Machine.execNewsEnableWrite value s
  | .newsClear target value => Sys2Proof.Machine.execNewsClear target value s
  | .hostWrite addr value => Sys2Proof.Machine.execHostWrite addr value s
  | .tick => Sys2Proof.Machine.execTick s
  | .offerTimeout port => Sys2Proof.Machine.execOfferTimeout port s
  | .backoffExpiry port => Sys2Proof.Machine.execBackoffExpiry port s
  | .roleHoldExpiry port => Sys2Proof.Machine.execRoleHoldExpiry port s
  | .burstDue port => Sys2Proof.Machine.execBurstDue port s
  | .burstSent port => Sys2Proof.Machine.execBurstSent port s
  | .receiveTransition port sample rises => Sys2Proof.Machine.execReceiveTransition port sample rises s
  | .burstEnd port => Sys2Proof.Machine.execBurstEnd port s
  | .exchangeBreak port => Sys2Proof.Machine.execExchangeBreak port s
  | .lockRise port => Sys2Proof.Machine.execLockRise port s
  | .lockFall port => Sys2Proof.Machine.execLockFall port s
  | .errorEvent port => Sys2Proof.Machine.execErrorEvent port s
  | .lockTimeout port => Sys2Proof.Machine.execLockTimeout port s
  | .verifyWindowEnd port => Sys2Proof.Machine.execVerifyWindowEnd port s
  | .monitorWindowEnd port => Sys2Proof.Machine.execMonitorWindowEnd port s
  | .dropHoldExpiry port => Sys2Proof.Machine.execDropHoldExpiry port s
  | .readinessFall quad => Sys2Proof.Machine.execReadinessFall quad s
  | .readinessRise quad => Sys2Proof.Machine.execReadinessRise quad s
  | .postRequest port => Sys2Proof.Machine.execPostRequest port s
  | .withdrawal port => Sys2Proof.Machine.execWithdrawal port s
  | .watchRequestRaise port => Sys2Proof.Machine.execWatchRequestRaise port s
  | .grantTaken engine => Sys2Proof.Machine.execGrantTaken engine s
  | .quietTryStart engine => Sys2Proof.Machine.execQuietTryStart engine s
  | .quietTry engine bits => Sys2Proof.Machine.execQuietTry engine bits s
  | .shot engine bits => Sys2Proof.Machine.execShot engine bits s
  | .pairCompletion engine => Sys2Proof.Machine.execPairCompletion engine s
  | .watchExpiry => Sys2Proof.Machine.execWatchExpiry s
  | .resetPinAsserted => Sys2Proof.Machine.execResetPinAsserted s

end Sys2Proof.Machine
end

