-- ==== Sys2Proof/Machine/Step.lean ====
section
/-! DEFINITION. One step: the command at the front of the queue, or one reference-clock period on an empty queue (log
entries 4 and 25). -/

namespace Sys2Proof.Machine

/-- The command a word spells goes to the front of the queue; no row of the table has bits, so no word spells one. -/
def State.withFetchWord (s : State) (nbits w : Nat) : State :=
  match decodeTableWord nbits w with
  | some c => { s with pending := c :: s.pending }
  | none => s

/-- The queue is empty: one reference-clock period passes, if the reset pin is not asserted (R158, R159). -/
def idle (s : State) : Host.Outcome State Fault Refusal := s.take State.clockPeriod

def step (s : State) : Host.Outcome State Fault Refusal :=
  match s.pending with
  | c :: rest => exec c { s with pending := rest }
  | [] => idle s

end Sys2Proof.Machine
end

