-- ==== Sys2Proof/Machine/Frame.lean ====
section
/-! DEFINITION. Frames of the management port (R155): the commands a write frame makes, word by word, and the bits a
frame answers. That a frame is a function of its bits is the model's choice (log entry 20). -/

namespace Sys2Proof.Machine

/-- A number, most significant bit first. -/
def ofBits (bits : List Bool) : Nat := bits.foldl (fun n b => 2 * n + flagBit b) 0

/-- The whole words of 16 bits after the header; a partial word at the close is discarded. -/
def frameWords (bits : List Bool) : List Word :=
  (List.range (bits.length / 16 - 1)).map fun i => BitVec.ofNat 16 (ofBits ((bits.drop (16 * (i + 1))).take 16))

/-- The first bit of the header: 1 for a read. A frame with less than a header has no direction. -/
def frameIsRead (bits : List Bool) : Option Bool := if 16 ≤ bits.length then bits.head? else none

/-- The address of word i: the header's 15 bits and on from there, 0x7FFF followed by 0x0000. -/
def frameAddr (bits : List Bool) (i : Nat) : Addr := BitVec.ofNat 15 (ofBits ((bits.drop 1).take 15) + i)

/-- The row of the table that a host write to an address is. -/
def writeCommand (a : Addr) (v : Word) : Instr :=
  if a = 1 then .timebaseWrite v
  else if a = 2 && runCommand v = 1 then .run
  else if a = 2 && runCommand v = 2 then .stop
  else if a = 3 then .handIn v
  else if a = 4 then .intakeStatusClear v
  else if a = 5 then .newsEnableWrite v
  else if a = 0x20 then .newsClear none v
  else
    match newsPortAt a.toNat with
    | some p => .newsClear (some p) v
    | none => .hostWrite a v

/-- The commands of a frame, in order: none of a read frame, nor of one that closes inside its header. -/
def frameCommands (bits : List Bool) : List Instr :=
  match frameIsRead bits with
  | some false =>
    (List.range (frameWords bits).length).map fun i => writeCommand (frameAddr bits i) ((frameWords bits).getD i 0)
  | _ => []

/-- A word, most significant bit first. -/
def wordBits (w : Word) : List Bool := (List.range 16).map fun i => w.getLsbD (15 - i)

/-- What the part drives on data out: 0 throughout a write frame and during the header; in a read frame each word as
fetched in the state at its boundary (the states given, in order), cut off where the frame closes. -/
def frameAnswer (bits : List Bool) (states : List State) : List Bool :=
  match frameIsRead bits with
  | some true =>
    (List.replicate 16 false ++
      ((List.range states.length).zip states).flatMap fun x => wordBits (x.2.hostRead (frameAddr bits x.1))).take
        bits.length
  | _ => List.replicate bits.length false

end Sys2Proof.Machine
end

