-- ==== Sys2Proof/WellFormed.lean ====
section
/-! DEFINITION. Which commands are well formed: checks on the operands alone. Port, quad, engine, address and value
ranges are in the operand types of Syntax. `exec` gives every command a meaning, well formed or not. -/

namespace Sys2Proof

/-- A write whose word has a row of its own in the opcode table: TIMEBASE, RUN CONTROL with RUN or STOP in its command
field (bits 1-0), HAND-IN, INTAKE STATUS, NEWS ENABLE (R156), the global news word, the news word of a port page
(word 1, 11.4). HOST_WRITE is a write to "any other word". -/
def hasOwnRow (a : Addr) (v : Word) : Bool :=
  a == 1 || (a == 2 && (v &&& 3 == 1 || v &&& 3 == 2)) || a == 3 || a == 4 || a == 5 || a == 0x20 ||
    (decide (0x1400 ≤ a.toNat) && decide (a.toNat < 0x2C00) && a.toNat % 128 == 1)

/-- The directions of successive transitions of one line alternate, and a delivery holds at least one. -/
def alternates : List Bool → Bool
  | [] => false
  | [_] => true
  | x :: y :: rest => (x != y) && alternates (y :: rest)

/-- The streams hold nothing past the longest capture of `periods` capture periods. -/
def EchoBits.within (e : EchoBits) (periods : Nat) : Bool :=
  e.a < 2 ^ periods && e.b < 2 ^ periods && e.c < 2 ^ periods && e.d < 2 ^ periods

/-- Well-formedness of a command. A quiet try lasts at most 32 x 64 capture periods (R90), a capture at most
512 x 64 (R92). -/
def Instr.wellFormed : Instr → Bool
  | .hostWrite a v => !hasOwnRow a v
  | .receiveTransition _ _ rises => alternates rises
  | .quietTry _ bits => bits.within 2048
  | .shot _ bits => bits.within 32768
  | .pinReset _ => true
  | .fillDone => true
  | .run => true
  | .stop => true
  | .stopDone => true
  | .timebaseWrite _ => true
  | .handIn _ => true
  | .intakeStatusClear _ => true
  | .newsEnableWrite _ => true
  | .newsClear _ _ => true
  | .tick => true
  | .offerTimeout _ => true
  | .backoffExpiry _ => true
  | .roleHoldExpiry _ => true
  | .burstDue _ => true
  | .burstSent _ => true
  | .burstEnd _ => true
  | .exchangeBreak _ => true
  | .lockRise _ => true
  | .lockFall _ => true
  | .errorEvent _ => true
  | .lockTimeout _ => true
  | .verifyWindowEnd _ => true
  | .monitorWindowEnd _ => true
  | .dropHoldExpiry _ => true
  | .readinessFall _ => true
  | .readinessRise _ => true
  | .postRequest _ => true
  | .withdrawal _ => true
  | .watchRequestRaise _ => true
  | .grantTaken _ => true
  | .quietTryStart _ => true
  | .pairCompletion _ => true
  | .watchExpiry => true
  | .resetPinAsserted => true

end Sys2Proof
end

