-- ==== Sys2Proof/Safety.lean ====
section
/-! DEFINITION. What the statements about the part speak of: the part at work, the invariants that every step keeps, and
how a cell, a port or memory is compared before and after a command. -/

namespace Sys2Proof.Machine

/-! ## The part at work -/

/-- Commands other than host writes and resets act only here: the pin is released and the run state is RUNNING. -/
abbrev State.working (s : State) : Prop := s.resetPin = false ∧ s.runState = .running

/-- Host writes are taken here (R155). -/
abbrev State.writable (s : State) : Prop := s.resetPin = false ∧ s.runState ≠ .filling

/-- No page is being rewritten: every edit count is even (R153). -/
abbrev State.editsClosed (s : State) : Prop := ∀ p : PortNo, (s.port p).editCount.getLsbD 0 = false

/-- The port's page after one more edit (R153): the count two higher. -/
def Port.edited (x : Port) : Port := { x with editCount := x.editCount + 2 }

/-- No job of the port waits to start (R143). -/
abbrev Port.settled (x : Port) : Prop := x.jobs = [] ∨ x.status.running ≠ none

/-- The port takes part in no TRAIN job and no job waits to start. -/
abbrev Port.jobless (x : Port) : Prop := x.jobs = [] ∧ x.status.running = none

/-! ## Ports before and after -/

/-- One more on a saturating 16-bit counter (R26). -/
def oneMore (n : Word) : Word := if n = 0xFFFF then 0xFFFF else n + 1

/-- The port's counter number i (R26) gone up by one. -/
def Port.counted (x : Port) (i : Fin 13) : Port :=
  { x with status := { x.status with counters := x.status.counters.set i (oneMore x.status.counters[i]) } }

/-- The port in state st, whose line is QUIET: timers and sender stopped, lock copy down, monitor and unpublished
exchange state gone, totals published, and the burst being decoded dropped but in IDLE (R2, R29, R37, R46, R65, R79).
That the exchange state goes after a link drop too is the model's choice (log entry 44). -/
def Port.leftFor (x : Port) (st : PortState) : Port :=
  { x with
    status := { x.status with state := st, sub := .none, errPub := x.errTotal, unlockPub := x.unlockTotal }
    timers := ⟨none, none, none, none, none, none, none, none⟩
    sender := ⟨none, false, none⟩
    decoder := if st = .idle then x.decoder else { x.decoder with burst := none }
    lockUp := false
    monitor := ⟨0, 0, 0⟩
    exch := ⟨none, 0, false, false, 0, false, 0, 0⟩ }

/-- The port in state st with the failure reason written (R10). -/
def Port.failedInto (x : Port) (why : AttemptResult) (st : PortState) : Port :=
  let y := x.leftFor st
  { y with status := { y.status with lastResult := why } }

/-- BACKOFF for 24 ticks an attempt made (R10), published in one edit. -/
def Port.backedOff (x : Port) (why : AttemptResult) : Port :=
  { (x.failedInto why .backoff).edited with
    timers := ⟨none, none, none, none, none, none, some (24 * x.status.attempts), none⟩
    backoffLen := 24 * x.status.attempts }

/-- The page-0 word (R33, R34, 11.6): more-pages 1, the rate set, the role claim, the seed. -/
def pageZeroWord (rates : RateSet) (claim : RoleClaim) (seed : BitVec 5) : Word :=
  0x2000 ||| (rates.setWidth 16 <<< 7) ||| (BitVec.ofNat 16 claim.code <<< 5) ||| seed.setWidth 16

/-- An attempt begun (R9): counted, fresh seed, page 0, words cleared and page 0 built, first burst due, offer timer. -/
def Port.attemptBegun (x : Port) : Port :=
  let seed : BitVec 5 := x.seedGen.extractLsb' 11 5
  let y := x.counted 0
  { y with
    status := { y.status with
      state := .offer, sub := .none, errPub := x.errTotal, unlockPub := x.unlockTotal
      attempts := x.status.attempts + 1, seed := seed, page := 0
      ours := (Vector.replicate 4 none).set 0
        (some (pageZeroWord (x.status.offerSet &&& x.status.qualSet) x.prof.claim seed))
      partner := Vector.replicate 4 none }
    timers := ⟨if x.prof.offerTimeout = 0 then none else some x.prof.offerTimeout, none, none, none, none, none, none,
      none⟩
    sender := ⟨some 0, true, none⟩
    lockUp := false
    monitor := ⟨0, 0, 0⟩
    exch := ⟨none, 0, false, false, 0, false, 0, 0⟩
    editCount := x.editCount + 2 }

/-- A sequence begins: attempt count 0, last attempt result NONE (R7). -/
def Port.sequenceBegun (x : Port) : Port :=
  { x with status := { x.status with attempts := 0, lastResult := .none } }

/-- The port in CHECK with its PRECHECK request on the way to the arbiter (R8, R108). -/
def Port.checking (x : Port) : Port :=
  { (x.leftFor .check).edited with request := some .precheck, outbox := x.outbox ++ [.request .precheck] }

/-- A record appended to the link history (R24): numbered one on, the oldest of four pushed out. -/
def Port.recorded (x : Port) (tick : Ticks) (down : Option DownReason) (l : Link) : Port :=
  let r : HistoryRecord := ⟨x.recordCount + 1, down, tick, l.rate, l.role, x.status.attempts, x.status.downshifts⟩
  { x with
    recordCount := x.recordCount + 1
    history := (if x.history.length < 4 then x.history else x.history.tail) ++ [r] }

/-- The common steps of a link drop (R22): DOWN record, link downs (counter 9), LINK_DOWN (bit 2). -/
def Port.dropped (x : Port) (tick : Ticks) (why : DownReason) (l : Link) : Port :=
  let y := (x.recorded tick (some why) l).counted 9
  { y with news := y.news ||| 4 }

/-- The link drops where the port is LINKED (R22). -/
def Port.unlinked (x : Port) (tick : Ticks) (why : DownReason) : Port :=
  if x.status.state = .linked then x.dropped tick why x.link else x

/-- A waiting request withdrawn (R114). -/
def Port.withdrawn (x : Port) : Port :=
  { x with request := none, outbox := if x.request = none then x.outbox else x.outbox ++ [.withdraw] }

/-- What an abort says of the port itself (R15): an attempt in progress ends ABORTED. -/
def Port.cutShort (x : Port) : Port :=
  { x with status := { x.status with
    lastResult := if x.status.state = .offer ∨ x.status.state = .exchange ∨ x.status.state = .verify then .aborted
      else x.status.lastResult } }

/-- DISABLED (R21) without a profile: words, resolution, running cell and calibration cleared. -/
def Port.disabledNow (x : Port) : Port :=
  let y := x.leftFor .disabled
  { y with
    profile := none
    decoder := ⟨none, 0, 0⟩
    status := { y.status with
      resolved := none, running := none, page := 0, ours := Vector.replicate 4 none
      partner := Vector.replicate 4 none, pubMap := 0, split := 0, lastFailed := false } }

/-- An attempt deferred (R8): BACKOFF for 24 ticks an attempt made, and for 24 with none made, in one edit. -/
def Port.deferred (x : Port) : Port :=
  { (x.leftFor .backoff).edited with
    timers := ⟨none, none, none, none, none, none, some (24 * max x.status.attempts 1), none⟩
    backoffLen := 24 * max x.status.attempts 1 }

/-- The start of an attempt (R8): CABLE_HOLD where the sets do not meet, the attempt with the quad ready, else
deferred. -/
def Port.attemptStarted (x : Port) (ready : Bool) : Port :=
  if x.status.offerSet &&& x.status.qualSet = 0 then (x.leftFor .cableHold).edited
  else if ready = true then x.attemptBegun
  else x.deferred

/-- A sequence started (R7, R8): a waiting request withdrawn, then CHECK with precheck QUICK, else the start of an
attempt; a watch's trigger passes CHECK over. -/
def Port.sequenceStarted (x : Port) (ready byWatch : Bool) : Port :=
  let y := x.withdrawn.sequenceBegun
  if y.prof.precheck = true ∧ byWatch = false then y.checking else y.attemptStarted ready

/-- The resumption rule (R17): DISABLED without a profile, a new sequence with auto-retrain on, else IDLE. -/
def Port.resumed (x : Port) (ready : Bool) : Port :=
  if x.profile = none then x.disabledNow.edited
  else if x.prof.autoRetrain = true then x.sequenceStarted ready false
  else (x.leftFor .idle).edited

/-- The head of the list gone, no job running, JOB_DONE (bit 0) raised (R144, R147). -/
def Port.jobEnded (x : Port) : Port :=
  { x with jobs := x.jobs.tail, news := x.news ||| 1, status := { x.status with running := none } }

/-- A TRAIN job in cell c starts (R15): a link drops, a waiting request is withdrawn, the profile and the sets are the
job's, the counts 0, and the sequence starts. -/
def Port.trainStarted (x : Port) (c : CellNo) (f : Profile) (tick : Ticks) (ready : Bool) : Port :=
  let y := x.unlinked tick .retrainRequested
  ({ y.withdrawn with
    profile := some f
    status := { y.status with
      running := some c, offerSet := f.allowed, qualSet := 15, failCounts := Vector.replicate 4 0
      downshifts := 0 } } : Port).sequenceStarted ready false

/-- A DIAGNOSE job in cell c starts (R16): a link drops, or other activity ends and a waiting request is withdrawn;
PROBE, with the JOB request on the way to the arbiter. -/
def Port.diagnoseStarted (x : Port) (c : CellNo) (r : Recipe) (tag : Word) (tick : Ticks) : Port :=
  let y := if x.status.state = .linked then x.dropped tick .diagnose x.link else x.cutShort.withdrawn
  let z := (y.leftFor .probe).edited
  { z with
    status := { z.status with running := some c }
    request := some (.job r tag)
    outbox := y.outbox ++ [.request (.job r tag)] }

/-- A HOLD job has started and ended (R18): a link drops, other activity ends, a waiting request is withdrawn, DISABLED
without a profile, JOB_DONE (bit 0) raised. -/
def Port.heldDown (x : Port) (tick : Ticks) : Port :=
  let y := (x.unlinked tick .hold).cutShort.withdrawn
  { y.disabledNow.edited with news := y.news ||| 1 }

/-- The jobs that start on one event where these wait and none runs (R143), in order: a HOLD (HELD, 9), and a DIAGNOSE
that may not break the link (LINK_UP, 8), end on their start and let the next start; another runs on. -/
def jobsStarting (linked : Bool) : List Job → List (Job × Option Nat)
  | [] => []
  | j :: rest =>
    match j.work with
    | .train _ => [(j, none)]
    | .diagnose _ intrusive =>
      if linked = true ∧ intrusive = false then (j, some 8) :: jobsStarting linked rest else [(j, none)]
    | .hold => (j, some 9) :: jobsStarting false rest

/-- The port after these starts, the jobs that wait on in its list (R143, R15, R16, R18). -/
def Port.jobsStarted (tick : Ticks) (ready : Bool) : List Job → Port → Port
  | [], x => { x with jobs := [] }
  | j :: rest, x =>
    match j.work with
    | .train f => { x.trainStarted j.cell f tick ready with jobs := { j with start := tick } :: rest }
    | .diagnose r intrusive =>
      if x.status.state = .linked ∧ intrusive = false then
        Port.jobsStarted tick ready rest { x with news := x.news ||| 1 }
      else { x.diagnoseStarted j.cell r j.tag tick with jobs := { j with start := tick } :: rest }
    | .hold => Port.jobsStarted tick ready rest (x.heldDown tick)

/-- A report written (R101, R102): REPORT_NEW (bit 5) raised. -/
def Port.reported (x : Port) (r : Report) : Port := { x with report := r, news := x.news ||| 0x20 }

/-- A report at this tick with these flags (R101, R106): a pair without a result is NOT_TESTED. -/
def Measurement.reportWith (m : Measurement) (flags : BitVec 5) (tick : Ticks) : Report :=
  ⟨m.sequence, some m.source, m.tag, m.startTick, tick, m.velocity, flags,
    m.results.map fun r => r.getD ⟨.notTested, none, 0, none, 0, none⟩⟩

/-! ## Engines before and after -/

/-- The engine is FREE and has no grant decided for it (R111). -/
abbrev State.isFree (s : State) (e : EngineNo) : Prop := (s.engine e).meas = none ∧ s.grant e = none

/-- The request may be granted (R110): its quad carries no claim and is ready. -/
abbrev State.grantable (s : State) (r : Request) : Prop :=
  s.claimed (quadOf r.port) = false ∧ s.isReady (quadOf r.port) = true

/-- The grant rule has nothing to do (R111): no engine is free beside a request that may be granted. -/
abbrev State.grantsDone (s : State) : Prop := (∀ e, ¬ s.isFree e) ∨ ∀ r ∈ s.requests, ¬ s.grantable r

/-- Engine e granted to request r (R111 steps 3 to 5): the request leaves the list, the quad is claimed. -/
def State.granting (s : State) (e : EngineNo) (r : Request) : State :=
  ({ s with requests := s.requests.filter fun q => decide (q.port ≠ r.port) }.setGrant e
    (some ⟨r, false⟩)).setClaim (quadOf r.port) true

/-- The grant of engine e turned back (R112, R114): grant and claim end, the engine's unused grants are counted. -/
def State.turnedBack (s : State) (e : EngineNo) (p : PortNo) : State :=
  ((s.setGrant e none).setClaim (quadOf p) false).setEngine e { s.engine e with unused := oneMore (s.engine e).unused }

/-- Engine e, which held port p, FREE, its grant and the claim on the quad gone (R115 steps 1 and 2). -/
def State.freed (s : State) (e : EngineNo) (p : PortNo) : State :=
  ((s.setEngine e { s.engine e with meas := none }).setGrant e none).setClaim (quadOf p) false

/-- Engine e, which held port p, has been released between s and t (R104, R115): it is FREE, its grant and the claim on
the quad are gone, and the grant rule has been applied to what waits; all else with the arbiter stands. -/
abbrev State.releasedIn (s t : State) (e : EngineNo) (p : PortNo) : Prop :=
  let u := (s.freed e p).applyGrantRule
  t.engines = u.engines ∧ t.grants = u.grants ∧ t.claims = u.claims ∧ t.requests = u.requests

/-! ## Cells and memory before and after -/

/-- Cell c reads as an ended cell (R135, 11.3): state, outcome and reason codes, start and end ticks; custody OUTSIDE.
-/
abbrev State.cellEnded (t : State) (c : CellNo) (state : Word) (outcome reason : Nat) (start stop : Ticks) : Prop :=
  t.cellWord c 0 = state ∧ t.cellWord c 3 = BitVec.ofNat 16 (256 * outcome + reason) ∧
    t.cellWord c 4 = start.extractLsb' 16 16 ∧ t.cellWord c 5 = start.extractLsb' 0 16 ∧
    t.cellWord c 6 = stop.extractLsb' 16 16 ∧ t.cellWord c 7 = stop.extractLsb' 0 16 ∧ t.custodyOf c = .outside

/-- Address a lies in the part of cell c that the part writes: words 0 to 7. -/
abbrev inCellHead (c : CellNo) (a : Nat) : Prop := cellBase c ≤ a ∧ a < cellBase c + 8

/-- Every word of work memory outside the first eight words of cell c reads as before. -/
def State.memKeptBut (s t : State) (c : CellNo) : Prop :=
  ∀ a, ¬ inCellHead c a → t.readMem a = s.readMem a

/-- Every word of work memory reads as before outside the first eight words of these cells and the owner word of a slab
that was filling, which reads FREE (R89). -/
abbrev State.memKeptFreeing (s t : State) (cells : List CellNo) (slab : Option SlabNo) : Prop :=
  (∀ a, (∀ c ∈ cells, ¬ inCellHead c a) → (∀ k, slab = some k → a ≠ ownerAddr k) → t.readMem a = s.readMem a) ∧
    ∀ k, slab = some k → t.readMem (ownerAddr k) = 0

/-- An address of slab k, of its entry in the slab table, or its owner word. -/
abbrev inSlab (k : SlabNo) (a : Nat) : Prop :=
  slabBase k ≤ a ∧ a < slabBase k + 512 ∨ slabEntryBase k ≤ a ∧ a < slabEntryBase k + 4 ∨ a = ownerAddr k

/-- Slab k holds the trace of pair `self` of measurement m (R99): these values at its positions, the words beyond them
as they were, the slab table entry, and HELD (2). -/
def State.traced (s t : State) (k : SlabNo) (m : Measurement) (self : Pair) (vs : List Int) : Prop :=
  (∀ j v, vs[j]? = some v → t.readMem (slabBase k + j) = BitVec.ofInt 16 v) ∧
    (∀ j, vs.length ≤ j → j < 512 → t.readMem (slabBase k + j) = s.readMem (slabBase k + j)) ∧
    t.readMem (slabEntryBase k) = BitVec.ofNat 16 m.holder.val ∧
    t.readMem (slabEntryBase k + 1) = BitVec.ofNat 16 self.code ∧ t.readMem (slabEntryBase k + 2) = m.sequence ∧
    t.readMem (slabEntryBase k + 3) = BitVec.ofNat 16 m.recipe.window ∧ t.readMem (ownerAddr k) = 2

/-- Cell c reads RUNNING (3) with this start tick, in custody RUNNING (R143). -/
abbrev State.cellRuns (t : State) (c : CellNo) (start : Ticks) : Prop :=
  t.cellWord c 0 = 3 ∧ t.cellWord c 4 = start.extractLsb' 16 16 ∧ t.cellWord c 5 = start.extractLsb' 0 16 ∧
    t.custodyOf c = .running

/-- The three words of cell c that a job start writes. -/
abbrev inStartWords (c : CellNo) (a : Nat) : Prop := a = cellBase c ∨ a = cellBase c + 4 ∨ a = cellBase c + 5

/-! ## Commands and cells -/

/-- Intake owes an entry of this tick, and cell c is at the head of its queue (R139, log entry 5). -/
abbrev State.entryDue (s : State) (c : CellNo) (rest : List CellNo) : Prop :=
  s.working ∧ s.editsClosed ∧ s.intakeDue = true ∧ s.intakeQueue = c :: rest

/-- Intake has taken its entry between s and t, `rest` waits, only these cells have changed custody, and nothing that a
job does not touch has changed. -/
abbrev State.tookEntry (s t : State) (rest : List CellNo) (cells : List CellNo) : Prop :=
  t = { s with
    intakeQueue := rest, intakeDue := false, mem := t.mem, custody := t.custody, globalNews := t.globalNews
    ports := t.ports, engines := t.engines, grants := t.grants, claims := t.claims, requests := t.requests } ∧
  ∀ d, d ∉ cells → t.custodyOf d = s.custodyOf d

/-- Engines, grants, quiet claims and waiting requests are as they were. -/
abbrev State.enginesKept (s t : State) : Prop :=
  t.engines = s.engines ∧ t.grants = s.grants ∧ t.claims = s.claims ∧ t.requests = s.requests

/-- Cell c leaves intake ended, with its codes and the present tick as both ticks, INTAKE_FAULT (global bit 0) or not,
JOB_DONE (port bit 0) on one port or none; nothing else changes. -/
def State.cellEndsAtIntake (s : State) (c : CellNo) (rest : List CellNo) (state : Word) (outcome reason : Nat)
    (fault : Bool) (doneOn : Option PortNo) : Prop :=
  ∃ t, exec .tick s = .next t ∧ t.cellEnded c state outcome reason s.tick s.tick ∧
    s.memKeptBut t c ∧ (∀ d, d ≠ c → t.custodyOf d = s.custodyOf d) ∧
    t = { s with
      intakeQueue := rest
      intakeDue := false
      mem := t.mem
      custody := t.custody
      globalNews := if fault then s.globalNews ||| 1 else s.globalNews
      ports := match doneOn with
        | some p => s.ports.set p { s.port p with news := (s.port p).news ||| 1 }
        | none => s.ports }

/-! ## What the host reads (chapter 11)

A coded field is stated as the place of its value in the list of names in the order of their codes. -/

/-- Bits `low` to `low + n - 1` of a word, as a number. -/
def fieldOf (w : Word) (low n : Nat) : Nat := (w.extractLsb' low n).toNat

/-- Word 0 of an engine status record (11.1). -/
def Engine.shownBy (x : Engine) (w : Word) : Prop :=
  (x.meas = none → w = 0) ∧ ∀ m, x.meas = some m →
    fieldOf w 0 2 = (match m.phase with | .quietCheck _ _ => 1 | .shooting _ _ _ => 2 | .finishing _ _ => 3) ∧
    fieldOf w 2 2 = 0 ∧ w.getLsbD 6 = false ∧ w.getLsbD 14 = false ∧ w.getLsbD 15 = true ∧
    fieldOf w 8 6 = m.holder.val ∧ w.getLsbD 7 = m.pair.isSome ∧ (m.pair = none → fieldOf w 4 2 = 0) ∧
    ∀ q, m.pair = some q → [Pair.a, .b, .c, .d][fieldOf w 4 2]? = some q

/-- The status area in words 2 to 41 of a port page (11.4), but for what is read from the job list and the profile. -/
def Status.shownBy (x : Status) (word : Nat → Word) : Prop :=
  [PortState.disabled, .check, .offer, .exchange, .verify, .linked, .backoff, .roleHold, .cableHold, .idle,
      .probe][fieldOf (word 2) 0 4]? = some x.state ∧
    [SubPhase.none, .lockWait, .window][fieldOf (word 2) 4 2]? = some x.sub ∧
    fieldOf (word 3) 0 4 = x.offerSet.toNat ∧ fieldOf (word 3) 4 4 = x.qualSet.toNat ∧
    (x.resolved = none → fieldOf (word 3) 8 8 = 0) ∧
    (∀ l, x.resolved = some l → (word 3).getLsbD 8 = true ∧
      [Rate.r100M, .r1G, .r2G5, .r5G][fieldOf (word 3) 9 2]? = some l.rate ∧
      [Role.lead, .follow][fieldOf (word 3) 11 1]? = some l.role ∧ fieldOf (word 3) 12 4 = 0) ∧
    (x.running = none → word 4 = 0) ∧ (∀ c, x.running = some c → word 4 = 0x8000 ||| BitVec.ofNat 16 c.val) ∧
    word 10 = x.failCounts[0].setWidth 16 ||| (x.failCounts[1].setWidth 16 <<< 8) ∧
    word 11 = x.failCounts[2].setWidth 16 ||| (x.failCounts[3].setWidth 16 <<< 8) ∧
    word 12 = BitVec.ofNat 16 (x.attempts % 16 + 16 * (x.downshifts % 16)) ||| (x.seed.setWidth 16 <<< 8) ∧
    fieldOf (word 13) 0 2 = x.page.val ∧ fieldOf (word 13) 2 2 = 0 ∧ fieldOf (word 13) 8 8 = 0 ∧
    (∀ k : PageNo, (word 13).getLsbD (4 + k.val) = x.partner[k].isSome) ∧
    [AttemptResult.none, .linked, .aborted, .roleFault, .noPartner, .exchangeUnstable, .noCommonRate, .lockTimeout,
      .lockLostInVerify, .verifyErrors, .frontEnd][(word 14).toNat]? = some x.lastResult ∧
    (∀ k : PageNo, word (15 + k.val) = x.ours[k].getD 0 ∧ word (19 + k.val) = x.partner[k].getD 0) ∧
    word 23 = x.pubMap ∧
    word 24 = BitVec.ofNat 16 (x.split % 32) ||| (if x.lastFailed = true then 0x0100 else 0) |||
      (if x.failedSince = true then 0x0200 else 0) ∧
    (∀ i : Fin 13, word (25 + i.val) = x.counters[i]) ∧
    word 38 = x.errPub.extractLsb' 16 16 ∧ word 39 = x.errPub.extractLsb' 0 16 ∧
    word 40 = x.unlockPub.extractLsb' 16 16 ∧ word 41 = x.unlockPub.extractLsb' 0 16

/-- A history record in five words (11.4). -/
def HistoryRecord.shownBy (x : HistoryRecord) (word : Nat → Word) : Prop :=
  word 0 = x.sequence ∧ word 1 = x.tick.extractLsb' 16 16 ∧ word 2 = x.tick.extractLsb' 0 16 ∧
    (word 3).getLsbD 0 = x.down.isSome ∧ (word 3).getLsbD 8 = x.down.isSome ∧
    [Rate.r100M, .r1G, .r2G5, .r5G][fieldOf (word 3) 1 2]? = some x.rate ∧
    [Role.lead, .follow][fieldOf (word 3) 3 1]? = some x.role ∧ fieldOf (word 3) 9 7 = 0 ∧
    (x.down = none → fieldOf (word 3) 4 4 = 0) ∧
    (∀ why, x.down = some why → 1 ≤ fieldOf (word 3) 4 4 ∧
      [DownReason.lockLost, .errors, .retrainRequested, .diagnose, .hold, .stopped,
        .frontEnd][fieldOf (word 3) 4 4 - 1]? = some why) ∧
    word 4 = BitVec.ofNat 16 (x.attempts % 16 + 16 * (x.downshifts % 16))

/-- The profile bit, the job-list count and slots, and the link history in a port page (11.4): slots beyond the count
read 0 (R166). -/
def Port.listsShownBy (x : Port) (word : Nat → Word) : Prop :=
  (word 2).getLsbD 6 = false ∧ (word 2).getLsbD 7 = x.profile.isSome ∧ fieldOf (word 2) 8 8 = 0 ∧
    word 5 = BitVec.ofNat 16 (x.jobs.length % 8) ∧ word 44 = BitVec.ofNat 16 (x.history.length % 8) ∧
    (∀ i : Fin 4, (x.jobs[i.val]? = none → word (6 + i.val) = 0) ∧
      ∀ j, x.jobs[i.val]? = some j → word (6 + i.val) = BitVec.ofNat 16 j.cell.val) ∧
    ∀ i : Fin 4, (x.history[i.val]? = none → ∀ n : Fin 5, word (45 + 5 * i.val + n.val) = 0) ∧
      ∀ r, x.history[i.val]? = some r → r.shownBy fun n => word (45 + 5 * i.val + n)

/-- A pair result in four words (11.4). -/
def PairResult.shownBy (x : PairResult) (word : Nat → Word) : Prop :=
  [PairStatus.notTested, .normal, .openEnd, .short, .impedanceHigh, .impedanceLow, .crossShort,
      .noisy][fieldOf (word 0) 0 4]? = some x.status ∧
    (word 0).getLsbD 6 = x.crossPair.isSome ∧ (x.crossPair = none → fieldOf (word 0) 4 2 = 0) ∧
    (∀ q, x.crossPair = some q → [Pair.a, .b, .c, .d][fieldOf (word 0) 4 2]? = some q) ∧
    (word 0).getLsbD 7 = false ∧ fieldOf (word 0) 8 2 = x.tries % 4 ∧ (word 0).getLsbD 10 = x.distance.isSome ∧
    (word 0).getLsbD 11 = x.slab.isSome ∧ fieldOf (word 0) 12 4 = 0 ∧ word 1 = x.distance.getD 0 ∧ word 2 = x.peak ∧
    (x.slab = none → word 3 = 0) ∧ ∀ k, x.slab = some k → word 3 = BitVec.ofNat 16 k.val

/-- The cable report in 25 words (11.4). -/
def Report.shownBy (x : Report) (word : Nat → Word) : Prop :=
  word 0 = x.sequence ∧ (x.source = none → fieldOf (word 1) 0 8 = 0) ∧
    (∀ src, x.source = some src → 1 ≤ fieldOf (word 1) 0 8 ∧
      [Source.job, .precheck, .watch][fieldOf (word 1) 0 8 - 1]? = some src) ∧
    fieldOf (word 1) 8 8 = (if x.tag.isSome then 1 else 0) ∧ word 2 = x.tag.getD 0 ∧
    word 3 = x.startTick.extractLsb' 16 16 ∧ word 4 = x.startTick.extractLsb' 0 16 ∧
    word 5 = x.endTick.extractLsb' 16 16 ∧ word 6 = x.endTick.extractLsb' 0 16 ∧ word 7 = x.velocity ∧
    word 8 = x.flags.setWidth 16 ∧
    ∀ q, (x.pairs.get q).shownBy fun n => word (9 + 4 * (match q with | .a => 0 | .b => 1 | .c => 2 | .d => 3) + n)

/-! ## Parameters of a cell (11.3) -/

/-- The profile in the parameters of a TRAIN cell (11.3), valid exactly when every field is in its range (R5, R141). -/
def Profile.readFrom (f : Profile) (w : Nat → Word) : Prop :=
  let n : Nat → Nat := fun i => (w i).toNat
  f.allowed.toNat = fieldOf (w 0) 0 4 ∧
    [RoleClaim.forceLead, .forceFollow, .preferLead, .preferFollow][fieldOf (w 0) 4 2]? = some f.claim ∧
    f.precheck = (w 0).getLsbD 6 ∧ f.autoRetrain = (w 0).getLsbD 7 ∧ f.downshift = (w 0).getLsbD 8 ∧
    f.watch = (w 0).getLsbD 9 ∧ f.extraCount = fieldOf (w 0) 12 2 ∧ f.attemptLimit = n 1 ∧ f.offerTimeout = n 2 ∧
    f.lockTimeout = n 3 ∧ f.verifyWindow = n 4 ∧ f.verifyThreshold = n 5 ∧ f.monitorWindow = n 6 ∧
    f.monitorThreshold = n 7 ∧ f.badLimit = n 8 ∧ f.dropHold = n 9 ∧ f.roleHold = n 10 ∧ f.extra1 = w 11 ∧
    f.extra2 = w 12 ∧
    (f.valid = true ↔ fieldOf (w 0) 0 4 ≠ 0 ∧ 1 ≤ n 1 ∧ n 1 ≤ 15 ∧ 1 ≤ n 3 ∧ n 3 ≤ 1000 ∧ 1 ≤ n 4 ∧ n 4 ≤ 1000 ∧
      1 ≤ n 6 ∧ 1 ≤ n 7 ∧ 1 ≤ n 8 ∧ n 8 ≤ 15 ∧ 1 ≤ n 9 ∧ n 9 ≤ 1000 ∧ fieldOf (w 0) 12 2 ≤ 2 ∧
      (1 ≤ fieldOf (w 0) 12 2 → n 11 ≤ 0x7FF) ∧ (fieldOf (w 0) 12 2 = 2 → n 12 ≤ 0x7FF))

/-- The recipe in the parameters of a DIAGNOSE cell (11.3), valid exactly when every field is in its range (R121). -/
def Recipe.readFrom (r : Recipe) (w : Nat → Word) : Prop :=
  let n : Nat → Nat := fun i => (w i).toNat
  r.pairSet.toNat = fieldOf (w 0) 0 4 ∧ r.crossCheck = (w 0).getLsbD 4 ∧ r.trace = (w 0).getLsbD 5 ∧
    r.pattern.val = fieldOf (w 0) 8 3 ∧ r.chipDivider = n 1 ∧ r.order = n 2 ∧ r.decimation = n 3 ∧ r.window = n 4 ∧
    r.blanking = n 5 ∧ r.shift = n 6 ∧ r.mild = n 7 ∧ r.strong = n 8 ∧ r.cross = n 9 ∧ r.shots = n 10 ∧
    (r.valid = true ↔ fieldOf (w 0) 0 4 ≠ 0 ∧ 1 ≤ n 1 ∧ n 1 ≤ 16 ∧ 1 ≤ n 2 ∧ n 2 ≤ 3 ∧ 1 ≤ n 3 ∧ n 3 ≤ 64 ∧
      16 ≤ n 4 ∧ n 4 ≤ 512 ∧ n 5 < n 4 ∧ n 6 ≤ 16 ∧ 1 ≤ n 7 ∧ n 7 ≤ n 8 ∧ n 8 ≤ 32767 ∧ 1 ≤ n 9 ∧ n 9 ≤ 32767 ∧
      1 ≤ n 10 ∧ n 10 ≤ 256)

/-! ## Bursts on the line (R27, R28) -/

/-- The transitions of a burst as the part sends it, with the half-cell at which each comes: the line rests low before
and after, and a half-cell is 4 decoder samples. -/
def burstTransitions (w : Word) : List (Nat × Bool) :=
  let levels := false :: (OfferWord.halfCells w ++ [false])
  (List.range 35).filterMap fun i =>
    if levels.getD i false != levels.getD (i + 1) false then some (4 * i, levels.getD (i + 1) false) else none

/-- The burst a decoder with this split has in progress after these transitions (R38, R39). -/
def readTransitions (split : Nat) : List (Nat × Bool) → Option BurstIn
  | [] => none
  | (t, rising) :: rest =>
    some (rest.foldl (fun b x => { b.readInterval (x.1 - b.last) with last := x.1 }) (beginBurst rising t split))

/-! ## Invariants -/

/-- Work memory keeps its canonical form. -/
abbrev State.memOk (s : State) : Prop := s.mem.wf = true

/-- A history is numbered in steps of one, up to the record counter (R24). -/
def numberedUpTo (last : Word) : List HistoryRecord → Bool
  | [] => true
  | [r] => decide (r.sequence = last)
  | r :: r' :: rest => decide (r'.sequence = r.sequence + 1) && numberedUpTo last (r' :: rest)

/-- The link history holds at most four records, numbered in steps of one up to the record counter (R24). -/
abbrev State.historiesOk (s : State) : Prop :=
  ∀ p : PortNo, (s.port p).history.length ≤ 4 ∧ numberedUpTo (s.port p).recordCount (s.port p).history = true

/-- A cell lies in a port's job list. -/
abbrev State.inList (s : State) (p : PortNo) (c : CellNo) : Prop := c ∈ (s.port p).jobs.map Job.cell

/-- A cell is the head of a port's job list. -/
abbrev State.isHead (s : State) (p : PortNo) (c : CellNo) : Prop := (s.port p).jobs.head?.map Job.cell = some c

/-- Cells and custody (R136, R142, R143): the queue holds at most 16 cells and each list at most 4; a cell is in at most
one place, and its custody names that place; the running cell is the head of its list. -/
structure State.jobsOk (s : State) : Prop where
  queueShort : s.intakeQueue.length ≤ 16
  queueOnce : s.intakeQueue.Nodup
  queueCustody : ∀ c : CellNo, c ∈ s.intakeQueue ↔ s.custodyOf c = .intake
  listShort : ∀ p : PortNo, (s.port p).jobs.length ≤ 4
  listOnce : ∀ p : PortNo, ((s.port p).jobs.map Job.cell).Nodup
  oneList : ∀ (p q : PortNo) (c : CellNo), s.inList p c → s.inList q c → p = q
  listCustody : ∀ (p : PortNo) (c : CellNo), s.inList p c →
    s.custodyOf c = .running ∧ s.isHead p c ∨ s.custodyOf c = .listed ∧ ¬ s.isHead p c
  custodyList : ∀ c : CellNo, s.custodyOf c = .running ∨ s.custodyOf c = .listed → ∃ p : PortNo, s.inList p c
  runningIsHead : ∀ p : PortNo, (s.port p).status.running = (s.port p).jobs.head?.map Job.cell

/-- Grants, engines and quiet claims (R83, R88, R111, R113): an engine measures exactly while its grant is accepted, for
the port granted; a quad is claimed exactly while a grant of one of its ports stands; no quad has two grants; no slab is
in two filling sets. -/
structure State.grantsOk (s : State) : Prop where
  measuring : ∀ (e : EngineNo) (m : Measurement), (s.engine e).meas = some m →
    ∃ g : Grant, s.grant e = some g ∧ g.accepted = true ∧ g.request.port = m.holder
  accepted : ∀ (e : EngineNo) (g : Grant), s.grant e = some g → g.accepted = true → (s.engine e).meas ≠ none
  claim : ∀ q : QuadNo,
    s.claimed q = true ↔ ∃ (e : EngineNo) (g : Grant), s.grant e = some g ∧ quadOf g.request.port = q
  onePerQuad : ∀ (e f : EngineNo) (g h : Grant), s.grant e = some g → s.grant f = some h →
    quadOf g.request.port = quadOf h.request.port → e = f
  oneFilling : ∀ (e f : EngineNo) (m n : Measurement) (k : SlabNo), (s.engine e).meas = some m →
    (s.engine f).meas = some n → m.filling = some k → n.filling = some k → e = f

/-- While the part is RUNNING no engine is free beside a request that may be granted (R111, R115). -/
abbrev State.grantsMade (s : State) : Prop := s.runState = .running → s.grantsDone

/-- An engine with measurement m has port p, and the port waits for no other. -/
abbrev State.measures (s : State) (e : EngineNo) (m : Measurement) (p : PortNo) : Prop :=
  s.grantsOk ∧ (s.engine e).meas = some m ∧ m.holder = p ∧ (s.port p).request = none

/-- Profiles (R5, R6): in range, in lists and in force; a port without one is DISABLED or in PROBE, and a DISABLED port
has none; while there is one, the offer set is a non-empty subset of its allowed set. -/
structure State.profilesOk (s : State) : Prop where
  listed : ∀ (p : PortNo) (j : Job) (f : Profile), j ∈ (s.port p).jobs → j.work = .train f → f.valid = true
  inForce : ∀ (p : PortNo) (f : Profile), (s.port p).profile = some f →
    f.valid = true ∧ (s.port p).status.offerSet ≠ 0 ∧ (s.port p).status.offerSet &&& ~~~f.allowed = 0
  absent : ∀ p : PortNo, (s.port p).profile = none →
    (s.port p).status.state = .disabled ∨ (s.port p).status.state = .probe
  disabled : ∀ p : PortNo, (s.port p).status.state = .disabled → (s.port p).profile = none

/-- A request asks for a recipe in range: a JOB brings its own, the others read the quick recipe later (R84, R121). -/
abbrev ReqKind.inRange (k : ReqKind) : Prop := ∀ r tag, k = .job r tag → r.valid = true

/-- Recipes are in range (R121) wherever one is held: in job lists, in requests from port to arbiter, in grants, and in
engines, where the load check has passed (R85). -/
structure State.recipesOk (s : State) : Prop where
  listed : ∀ (p : PortNo) (j : Job) (r : Recipe) (i : Bool), j ∈ (s.port p).jobs → j.work = .diagnose r i →
    r.valid = true
  sent : ∀ (p : PortNo) (k : ReqKind), (s.port p).request = some k ∨ PortMsg.request k ∈ (s.port p).outbox → k.inRange
  waiting : ∀ r ∈ s.requests, r.kind.inRange
  granted : ∀ (e : EngineNo) (g : Grant), s.grant e = some g → g.request.kind.inRange
  measuring : ∀ (e : EngineNo) (m : Measurement), (s.engine e).meas = some m → m.recipe.valid = true

/-- Decoders and seed generators (R20, R42, R43): no generator is 0, a split is 0 or 2 to 15, a window count is below
256. -/
abbrev State.decodersOk (s : State) : Prop :=
  ∀ p : PortNo, (s.port p).seedGen ≠ 0 ∧
    ((s.port p).status.split = 0 ∨ 2 ≤ (s.port p).status.split ∧ (s.port p).status.split ≤ 15) ∧
    (s.port p).decoder.windowCount < 256

/-- A part that is not RUNNING is at rest (R3, R160, R161): every port DISABLED without jobs, every engine FREE and
ungranted, no quad claimed, nothing queued or requested. -/
structure State.atRest (s : State) : Prop where
  ports : ∀ p : PortNo, (s.port p).status.state = .disabled ∧ (s.port p).profile = none ∧ (s.port p).jobs = []
  engines : ∀ e : EngineNo, (s.engine e).meas = none ∧ s.grant e = none
  claims : ∀ q : QuadNo, s.claimed q = false
  requests : s.requests = []
  queue : s.intakeQueue = [] ∧ s.intakeDue = false

/-! ## Ends of jobs, and the starts behind them (R144, R143) -/

/-- The cells of the jobs that start behind a job whose end leaves the port as z. -/
def startedCells (z : Port) (later : List Job) : List CellNo :=
  (jobsStarting (decide (z.status.state = .linked)) later).map fun x => x.1.cell

/-- Between s and t a job of port p ends, which leaves the port as z, and of the jobs behind it the next starts, and
those behind a start that is an end (R144 step 6, R143): their cells, and the port, published in one edit. -/
def State.runsOn (s t : State) (p : PortNo) (later : List Job) (z : Port) : Prop :=
  (∀ x ∈ jobsStarting (decide (z.status.state = .linked)) later,
    (x.2 = none → t.cellRuns x.1.cell s.tick) ∧
      ∀ outcome, x.2 = some outcome → t.cellEnded x.1.cell 4 outcome 0 s.tick s.tick) ∧
    t.port p = { z.jobsStarted s.tick (s.isReady (quadOf p)) later with editCount := (s.port p).editCount + 2 }

/-- Jobs that wait can start behind the one that ends and leaves the port as z: invariants of the model (jobsOk,
grantsOk, historiesOk, profilesOk), asked only where jobs wait. -/
abbrev State.canRunOn (s : State) (z : Port) (later : List Job) : Prop :=
  later = [] ∨ s.jobsOk ∧ s.grantsOk ∧ z.history.length ≤ 4 ∧
    ∀ j ∈ later, ∀ f, j.work = .train f → f.allowed ≠ 0

/-- The sequence of port p ends in this result of a command and leaves the port as y: of a jobless port nothing else
changes; the running TRAIN job ends DONE with this outcome and JOB_DONE (R144), and the jobs behind it start. -/
def State.sequenceEnds (s : State) (result : Host.Outcome State Fault Refusal) (p : PortNo) (y : Port) (outcome : Nat) :
    Prop :=
  let x := s.port p
  (x.jobless → result = .next (s.setPort p y.edited)) ∧
  ∀ j f later, s.memOk → x.jobs = j :: later → x.status.running = some j.cell → j.work = .train f →
    s.canRunOn y later → (later = [] ∨ s.engineOf p = none) →
    let cells := j.cell :: startedCells y.jobEnded later
    ∃ t, result = .next t ∧ t.cellEnded j.cell 4 outcome 0 j.start s.tick ∧ s.runsOn t p later y.jobEnded ∧
      s.memKeptFreeing t cells none ∧ (∀ d, d ∉ cells → t.custodyOf d = s.custodyOf d) ∧
      t = { s with mem := t.mem, custody := t.custody, ports := s.ports.set p (t.port p) }

/-- The exchange of port p ends in this result of a command (R57), the port being y but for the resolution: a settled
role (R58) and the highest rate left in the common set, capped by the partner's page 1 (R61), take it to VERIFY in
LOCK_WAIT (R63); no rate left ends the sequence in IDLE with NO_COMMON_RATE (4) (R62); a role fault, and the seventh
seed clash (counter 5) of an attempt, end it in ROLE_HOLD with ROLE_FAULT (6) (R60); an earlier clash restarts the
exchange from page 0 with a fresh seed (R59), our rebuilt word showing the flags it showed. The model's choices: those
flags (log entry 14), and that the unpublished exchange items are kept in VERIFY (log entry 44). -/
def State.resolves (s : State) (result : Host.Outcome State Fault Refusal) (p : PortNo) (y : Port) : Prop :=
  ∀ o0 q0 q1, y.status.ours[0] = some o0 → y.status.partner[0] = some q0 → y.status.partner[1] = some q1 →
  let common : RateSet := o0.extractLsb' 7 4 &&& q0.extractLsb' 7 4
  let kept : RateSet := if q1.getLsbD 9 = true ∧ q1.getLsbD 10 = true then common else common &&& 1
  let claims := resolveRole (RoleClaim.ofCode (o0.extractLsb' 5 2)) (RoleClaim.ofCode (q0.extractLsb' 5 2))
    (o0.extractLsb' 0 5) (q0.extractLsb' 0 5)
  let faulted : Port → Port := fun z => { (z.counted 6).failedInto .roleFault .roleHold with
    news := y.news ||| 8
    timers := ⟨none, none, none, none, none, none, none,
      if y.prof.roleHold = 0 then none else some y.prof.roleHold⟩ }
  (∀ role rate, claims = .settled role → kept.getLsbD rate.code.val = true →
    (∀ i, rate.code.val < i → kept.getLsbD i = false) →
    result = .next (s.setPort p { y.edited with
      status := { y.status with
        state := .verify, sub := .lockWait, resolved := some ⟨rate, role⟩
        errPub := y.errTotal, unlockPub := y.unlockTotal }
      timers := ⟨none, none, some y.prof.lockTimeout, none, none, none, none, none⟩
      sender := ⟨none, false, none⟩
      decoder := { y.decoder with burst := none }
      lockUp := false
      monitor := ⟨0, 0, 0⟩
      capRemoved := decide (kept ≠ common) })) ∧
  (∀ role, claims = .settled role → kept = 0 → s.sequenceEnds result p (y.failedInto .noCommonRate .idle) 4) ∧
  (claims = .fault → s.sequenceEnds result p (faulted y) 6) ∧
  (claims = .clash → 6 ≤ y.exch.clashes → s.sequenceEnds result p (faulted (y.counted 5)) 6) ∧
  (claims = .clash → y.exch.clashes < 6 →
    let seed : BitVec 5 := y.seedGen.extractLsb' 11 5
    result = .next (s.setPort p { (y.counted 5).edited with
      exch := ⟨none, 0, false, false, 0, false, y.exch.restarts, y.exch.clashes + 1⟩
      status := { (y.counted 5).status with
        page := 0, seed := seed, partner := Vector.replicate 4 none
        ours := (Vector.replicate 4 none).set 0 (some
          (pageZeroWord (y.status.offerSet &&& y.status.qualSet) y.prof.claim seed ||| (o0 &&& 0x1800))) } }))

/-- The measurement of engine e, which holds m, ends at this command with these results and flags: the engine is
released and the port goes on; `memory` says of the state after what is in memory, but for the cells that the event
writes. A JOB on a port in PROBE (R102, R144, R17): the report is written, the job ends DONE / REPORTED (7), the port
resumes, and the jobs behind it start. A PRECHECK (R122): report and qualified set, then the start of an attempt, for
which a running job stays, or CABLE_HOLD, where the running TRAIN job ends CABLE_FAULT (5) and the jobs behind it start.
A WATCH (R130, R131): a result that differs from the latest report is written, with WATCH_CHANGE (bit 6), one that does
not counts a pass (counter 11); the qualified set is the result's; with auto-retrain on, a NOISY pair in IDLE, or a
rate again qualified in CABLE_HOLD, begins a sequence without CHECK. -/
def State.measurementEnds (s : State) (c : Instr) (e : EngineNo) (m : Measurement) (results : Pairs (Option PairResult))
    (flags : BitVec 5) (memory : State → List CellNo → Prop) : Prop :=
  let p := m.holder
  let x := s.port p
  let ready := s.isReady (quadOf p)
  let report := ({ m with results := results } : Measurement).reportWith flags s.tick
  let qual := qualifiedFrom report.pairs
  let released : State → List CellNo → Prop := fun t cells =>
    t = { s with
      mem := t.mem, custody := t.custody, engines := t.engines, grants := t.grants, claims := t.claims
      requests := t.requests, freeCount := t.freeCount, ports := s.ports.set p (t.port p) } ∧
    s.releasedIn t e p ∧ memory t cells ∧ ∀ d, d ∉ cells → t.custodyOf d = s.custodyOf d
  let goes : Port → Prop := fun z => ∃ t, exec c s = .next t ∧ released t [] ∧ t.port p = z
  let ends : Job → List Job → Nat → Port → Prop := fun j later outcome z => s.canRunOn z later →
    ∃ t, exec c s = .next t ∧ released t (j.cell :: startedCells z later) ∧
      t.cellEnded j.cell 4 outcome 0 j.start s.tick ∧ s.runsOn t p later z
  (∀ j later, m.source = .job → x.status.state = .probe → x.jobs = j :: later →
    ends j later 7 ((x.reported report).jobEnded.resumed ready)) ∧
  (m.source = .precheck → x.status.state = .check →
    let y : Port := { x.reported report with status := { x.status with qualSet := qual } }
    (x.jobless ∨ x.settled ∧ x.status.offerSet &&& qual ≠ 0 → goes (y.attemptStarted ready)) ∧
    ∀ j f later, x.jobs = j :: later → x.status.running = some j.cell → j.work = .train f →
      x.status.offerSet &&& qual = 0 → ends j later 5 (y.leftFor .cableHold).jobEnded) ∧
  (m.source = .watch → x.jobless →
    let differs := x.report.sequence = 0 ∨ ∃ q, (report.pairs.get q).status ≠ (x.report.pairs.get q).status
    let triggered := x.prof.autoRetrain = true ∧
      (x.status.state = .idle ∧ (∃ q, (report.pairs.get q).status = .noisy) ∨
        x.status.state = .cableHold ∧ x.status.offerSet &&& qual ≠ 0)
    ∀ y : Port, (differs → y = { x.reported report with
        news := x.news ||| 0x60, status := { x.status with qualSet := qual } }) →
      (¬ differs → y = { x.counted 11 with status := { (x.counted 11).status with qualSet := qual } }) →
      (triggered → goes (y.sequenceStarted ready true)) ∧ (¬ triggered → goes y.edited))

end Sys2Proof.Machine
end

