-- ==== Sys2Proof/Certificates/Slice0/Obligations.lean ====
section
/-! DEFINITION. The statements for the provers. Unless one says otherwise, `=` between outcomes is equality of whole
states: everything a right-hand side does not write is unchanged. -/

section

open Sys2Proof Sys2Proof.Machine

/-! ## The machine -/

/-- A step takes the command at the front of the queue and runs it on the rest. -/
def Obligations.StepRunsFrontCommand : Prop :=
  ∀ (c : Instr) (rest : List Instr) (s : State),
    step { s with pending := c :: rest } = exec c { s with pending := rest }

/-- The model's choice (log entry 4): a step on an empty queue is one reference-clock period while RUNNING, which
counts on the divider (R158) or, at the divisor, is a tick; an entry that intake owes of the tick comes first; and
nothing happens while the part is not RUNNING. -/
def Obligations.EmptyQueueIsOneClockPeriod : Prop :=
  ∀ s : State, s.pending = [] → s.editsClosed →
    (¬ s.working → step s = .next s) ∧
    (s.working → s.intakeDue = false → s.divider.toNat + 1 < s.divisor.toNat →
      step s = .next { s with divider := s.divider + 1 }) ∧
    (s.working → s.intakeDue = true ∨ s.divisor.toNat ≤ s.divider.toNat + 1 → step s = exec .tick s)

/-- No command faults or is refused, and none touches the queue of commands. The spec says of no event that it stops the
part; that a command whose event cannot occur leaves the state as it is, is the model's choice (log entry 23), and the
queue is the model's own (log entry 25). -/
def Obligations.EveryCommandCompletes : Prop :=
  ∀ (c : Instr) (s : State), ∃ t, exec c s = .next t ∧ t.pending = s.pending

/-! ## Run control (R157 to R161) -/

/-- PIN_RESET (R159): whatever the part was doing, it is FILLING with every block in its pin-reset state, every word 0,
each ready flag at the level presented (R3), each seed generator at port + 1 (R20). -/
def Obligations.PinResetRestoresEveryBlock : Prop :=
  ∀ (s : State) (levels : BitVec 12), ∃ t, exec (.pinReset levels) s = .next t ∧
    t.pending = s.pending ∧ t.resetPin = false ∧ t.runState = .filling ∧ t.divisor = 25000 ∧ t.lock = false ∧
    t.tick = 0 ∧ (∀ a, t.readMem a = 0) ∧ t.globalNews = 0 ∧ t.newsEnable = 0 ∧ t.intakeQueue = [] ∧
    t.intakeDue = false ∧ t.intakeFlags = 0 ∧ t.intakeErrors = 0 ∧ (∀ c, t.custodyOf c = .outside) ∧
    (∀ q : QuadNo, t.isReady q = levels.getLsbD q.val ∧ t.claimed q = false) ∧
    (∀ e, (t.engine e).meas = none ∧ (t.engine e).unused = 0 ∧ t.grant e = none) ∧ t.requests = [] ∧
    t.watchInterval = 0 ∧ t.watchElapsed = 0 ∧
    ∀ p : PortNo, (t.port p).status = Status.reset ∧ (t.port p).profile = none ∧ (t.port p).jobs = [] ∧
      (t.port p).history = [] ∧ (t.port p).report.sequence = 0 ∧ (t.port p).news = 0 ∧ (t.port p).editCount = 0 ∧
      (t.port p).recordCount = 0 ∧ (t.port p).reportCount = 0 ∧ (t.port p).errTotal = 0 ∧
      (t.port p).unlockTotal = 0 ∧ (t.port p).decoder = Decoder.clear ∧ (t.port p).exch = Exchange.start ∧
      (t.port p).lockUp = false ∧ (t.port p).request = none ∧ (t.port p).seedGen = BitVec.ofNat 16 (p.val + 1)

/-- RESET_PIN_ASSERTED (R159, R155, R165): the part does no work; reads return 0, the interrupt line is not asserted,
and every command but the reset pin's own finds nothing to do (the model's choice for commands, log entry 8). -/
def Obligations.AssertedResetPinStopsThePart : Prop :=
  ∀ s : State, exec .resetPinAsserted s = .next { s with resetPin := true } ∧
    (∀ a, ({ s with resetPin := true } : State).hostRead a = 0) ∧
    ({ s with resetPin := true } : State).interruptLine = false ∧
    ∀ c : Instr, (∀ levels, c ≠ .pinReset levels) →
      exec c { s with resetPin := true } = .next { s with resetPin := true }

/-- FILL_DONE (R159, R153): the part enters STOPPED and every port makes its one edit. That it has no effect in another
run state is the model's choice (log entry 23). -/
def Obligations.FillDoneEntersStopped : Prop :=
  ∀ s : State, s.resetPin = false → s.editsClosed →
    (s.runState = .filling → exec .fillDone s =
      .next { s with runState := .stopped, ports := Vector.ofFn fun p => (s.port p).edited }) ∧
    (s.runState ≠ .filling → exec .fillDone s = .next s)

/-- RUN (R160): taken in STOPPED, it sets the lock, the divider to 0 and a full watch period of the word read now;
elsewhere it is ignored. -/
def Obligations.RunStartsTheStoppedPart : Prop :=
  ∀ s : State, s.resetPin = false → s.editsClosed →
    (s.runState = .stopped → exec .run s =
      .next { s with runState := .running, lock := true, divider := 0, watchInterval := s.readMem 0x0030,
                     watchElapsed := 0 }) ∧
    (s.runState ≠ .stopped → exec .run s = .next s)

/-- STOP (R161, R23, R89, R105, R118, R150): the part enters STOPPING with the four shares done: all ports DISABLED
without profile or jobs, engines FREE with filling slabs FREE again and unaccepted grants counted as unused, no grant,
claim or request, the queue empty, every cell that was held CANCELLED / STOPPED with custody OUTSIDE, a running one with
its own start tick and the others with the tick of the stop. Each port keeps what R23 keeps: of its page, counters,
totals, history, report and news change only by the drop of a link, the end of an attempt, and JOB_DONE. That STOP does
all four shares in its own event is the model's choice (log entry 6). -/
def Obligations.StopBringsThePartToRest : Prop :=
  ∀ s : State, s.working → s.memOk → s.grantsOk → ∃ t, exec .stop s = .next t ∧
    t.runState = .stopping ∧ t.atRest ∧ t.divider = 0 ∧ t.watchInterval = 0 ∧ t.watchElapsed = 0 ∧
    (∀ c : CellNo, c ∈ s.intakeQueue ∨ (∃ p, s.inList p c) →
      t.cellWord c 0 = 6 ∧ t.cellWord c 3 = 7 ∧ t.cellWord c 6 = s.tick.extractLsb' 16 16 ∧
        t.cellWord c 7 = s.tick.extractLsb' 0 16 ∧ t.custodyOf c = .outside) ∧
    (s.jobsOk → (∀ c ∈ s.intakeQueue, t.cellEnded c 6 0 7 s.tick s.tick) ∧
      ∀ p, ∀ j ∈ (s.port p).jobs,
        t.cellEnded j.cell 6 0 7 (if s.custodyOf j.cell = .running then j.start else s.tick) s.tick) ∧
    (∀ a, (∀ c : CellNo, c ∈ s.intakeQueue ∨ (∃ p, s.inList p c) → ¬ inCellHead c a) →
      (∀ k : SlabNo, s.slabFilling k = true → a ≠ ownerAddr k) → t.readMem a = s.readMem a) ∧
    (∀ k : SlabNo, s.slabFilling k = true → t.readMem (ownerAddr k) = 0) ∧
    (∀ e, (t.engine e).unused =
      if (s.engine e).meas = none ∧ s.grant e ≠ none then oneMore (s.engine e).unused else (s.engine e).unused) ∧
    t.resetPin = false ∧ t.divisor = s.divisor ∧ t.lock = s.lock ∧ t.tick = s.tick ∧ t.globalNews = s.globalNews ∧
    t.newsEnable = s.newsEnable ∧ t.intakeFlags = s.intakeFlags ∧ t.intakeErrors = s.intakeErrors ∧
    (∀ q, t.isReady q = s.isReady q) ∧
    ∀ p : PortNo, (t.port p).report = (s.port p).report ∧ (t.port p).seedGen = (s.port p).seedGen ∧
      (t.port p).status.offerSet = (s.port p).status.offerSet ∧
      (t.port p).status.qualSet = (s.port p).status.qualSet ∧
      (t.port p).status.failCounts = (s.port p).status.failCounts ∧
      (t.port p).status.attempts = (s.port p).status.attempts ∧
      (t.port p).status.downshifts = (s.port p).status.downshifts ∧
      ((s.port p).status.state = .linked →
        (t.port p).recordCount = (s.port p).recordCount + 1 ∧ (t.port p).news.getLsbD 2 = true) ∧
      ((s.port p).history.length ≤ 4 →
        let x := ((s.port p).unlinked s.tick .stopped).cutShort.disabledNow
        t.port p = { x with
          jobs := [], request := none, outbox := [], editCount := (t.port p).editCount
          news := if (s.port p).jobs = [] then x.news else x.news ||| 1 })

/-- STOP_DONE (R161): in STOPPING with the four shares complete, the part enters STOPPED and raises STOP_DONE. With a
share not complete, or in another run state, the event cannot occur and has no effect (the model's choice, log entries 6
and 23). -/
def Obligations.StopDoneEntersStopped : Prop :=
  ∀ s : State, s.resetPin = false → s.editsClosed →
    (s.runState = .stopping → s.atRest → exec .stopDone s =
      .next { s with runState := .stopped, globalNews := s.globalNews ||| 4 }) ∧
    (s.runState ≠ .stopping ∨ s.requests ≠ [] ∨ s.intakeQueue ≠ [] ∨
        (∃ e, (s.engine e).meas ≠ none ∨ s.grant e ≠ none) ∨ (∃ q, s.claimed q = true) ∨
        (∃ p, (s.port p).status.state ≠ .disabled ∨ (s.port p).jobs ≠ []) →
      exec .stopDone s = .next s)

/-- TIMEBASE_WRITE (R157): the divisor changes only while unlocked and to a value other than 0; ignored in FILLING. -/
def Obligations.TimebaseWritableUntilLocked : Prop :=
  ∀ (s : State) (v : Word), s.resetPin = false → s.editsClosed → exec (.timebaseWrite v) s =
    .next (if s.runState = .filling ∨ s.lock = true ∨ v = 0 then s else { s with divisor := v })

/-! ## Host writes (R137, R138, R151, R163, R165) -/

/-- HAND_IN (R137): the checks in their order. CLOSED is bit 1 of the refusal flags, BAD_INDEX bit 2, DUPLICATE bit 3,
OVERRUN bit 0; every refusal raises INTAKE_FAULT. -/
def Obligations.HandInIsJudged : Prop :=
  ∀ (s : State) (v : Word), s.resetPin = false → s.editsClosed →
    (s.runState = .filling → exec (.handIn v) s = .next s) ∧
    (s.runState = .stopped ∨ s.runState = .stopping → exec (.handIn v) s =
      .next { s with intakeFlags := s.intakeFlags ||| 2, globalNews := s.globalNews ||| 1 }) ∧
    (s.runState = .running → 128 ≤ v.toNat → exec (.handIn v) s =
      .next { s with intakeFlags := s.intakeFlags ||| 4, globalNews := s.globalNews ||| 1 }) ∧
    ∀ c : CellNo, s.runState = .running → v = BitVec.ofNat 16 c.val →
      (s.custodyOf c ≠ .outside → exec (.handIn v) s =
        .next { s with intakeFlags := s.intakeFlags ||| 8, globalNews := s.globalNews ||| 1 }) ∧
      (s.custodyOf c = .outside → 16 ≤ s.intakeQueue.length → exec (.handIn v) s =
        .next { s with intakeFlags := s.intakeFlags ||| 1, globalNews := s.globalNews ||| 1 }) ∧
      (s.custodyOf c = .outside → s.intakeQueue.length < 16 → exec (.handIn v) s =
        .next ({ s with intakeQueue := s.intakeQueue ++ [c] }.setCustody c .intake))

/-- INTAKE_STATUS_CLEAR (R138) clears the refusal flags written as ones at bits 8 to 11; NEWS_ENABLE_WRITE (R165)
replaces all twelve enables and no flag; both are ignored in FILLING. -/
def Obligations.StatusClearAndEnableWrite : Prop :=
  ∀ (s : State) (v : Word), s.resetPin = false → s.editsClosed →
    (s.runState ≠ .filling → exec (.intakeStatusClear v) s =
      .next { s with intakeFlags := s.intakeFlags &&& ~~~(v.extractLsb' 8 4) }) ∧
    (s.runState ≠ .filling → exec (.newsEnableWrite v) s = .next { s with newsEnable := v.extractLsb' 0 12 }) ∧
    (s.runState = .filling → exec (.intakeStatusClear v) s = .next s ∧ exec (.newsEnableWrite v) s = .next s)

/-- NEWS_CLEAR (R163, R44): each one written clears its flag; a one to CAL_FAIL, bit 4 of a port news word, also clears
failed-since-cleared in an edit, which the model makes whether or not it was set (its choice, log entry 13); ignored in
FILLING. -/
def Obligations.NewsClearClearsOnes : Prop :=
  ∀ (s : State) (v : Word) (p : PortNo), s.resetPin = false → s.editsClosed →
    (s.runState = .filling → ∀ target, exec (.newsClear target v) s = .next s) ∧
    (s.runState ≠ .filling →
      exec (.newsClear none v) s = .next { s with globalNews := s.globalNews &&& ~~~(v.extractLsb' 0 4) } ∧
      (v.getLsbD 4 = false → exec (.newsClear (some p) v) s =
        .next (s.setPort p { s.port p with news := (s.port p).news &&& ~~~(v.extractLsb' 0 8) })) ∧
      (v.getLsbD 4 = true → exec (.newsClear (some p) v) s =
        .next (s.setPort p
          { s.port p with
            news := (s.port p).news &&& ~~~(v.extractLsb' 0 8)
            status := { (s.port p).status with failedSince := false }
            editCount := (s.port p).editCount + 2 })))

/-- HOST_WRITE to a word with no row of its own (R151): the watch interval, velocity factor, quick recipe, slab owner
words, job cells and pattern store take it, and only that word changes; every other word ignores it. While FILLING it is
ignored (R155). To a word with a row of its own it does what that row does (the model's choice, log entry 19). -/
def Obligations.HostWriteByRegion : Prop :=
  (∀ (s : State) (a : Addr) (v : Word), s.writable → s.editsClosed → s.memOk → hasOwnRow a v = false →
    (a = 0x0030 ∨ a = 0x0031 ∨ (0x0040 ≤ a.toNat ∧ a.toNat ≤ 0x004A) ∨ (0x0080 ≤ a.toNat ∧ a.toNat ≤ 0x00A7) ∨
        (0x0400 ≤ a.toNat ∧ a.toNat ≤ 0x13FF) ∨ 0x7C00 ≤ a.toNat →
      ∃ t, exec (.hostWrite a v) s = .next t ∧ t = { s with mem := t.mem } ∧
        ∀ b, t.readMem b = if b = a.toNat then v else s.readMem b) ∧
    (a ≠ 0x0030 → a ≠ 0x0031 → ¬ (0x0040 ≤ a.toNat ∧ a.toNat ≤ 0x004A) → ¬ (0x0080 ≤ a.toNat ∧ a.toNat ≤ 0x00A7) →
      ¬ (0x0400 ≤ a.toNat ∧ a.toNat ≤ 0x13FF) → a.toNat < 0x7C00 → exec (.hostWrite a v) s = .next s)) ∧
  ∀ (s : State) (v : Word), (s.runState = .filling → s.editsClosed → ∀ a, exec (.hostWrite a v) s = .next s) ∧
    exec (.hostWrite 1 v) s = exec (.timebaseWrite v) s ∧ exec (.hostWrite 3 v) s = exec (.handIn v) s ∧
    exec (.hostWrite 4 v) s = exec (.intakeStatusClear v) s ∧ exec (.hostWrite 5 v) s = exec (.newsEnableWrite v) s ∧
    exec (.hostWrite 0x20 v) s = exec (.newsClear none v) s ∧ exec (.hostWrite 2 1) s = exec .run s ∧
    exec (.hostWrite 2 2) s = exec .stop s ∧
    ∀ p : PortNo, exec (.hostWrite (BitVec.ofNat 15 (0x1401 + 128 * p.val)) v) s = exec (.newsClear (some p) v) s

/-- Reads (R151, R155, R156, 11.1, 11.2, 11.4): 0 while the fill runs; then every register word, the identity words, the
tick count, the intake error count, the global news word, the news map and the engine status records; and every word of
a port page: edit count, news word, status area, link history, cable report, and 0 in the words that hold no field. The
watch interval, velocity factor, quick recipe, slab owner words, slab table, job cells, trace slabs and pattern store
read as work memory, and every other address of the global page reads 0 (R151). -/
def Obligations.HostReadsRegisters : Prop :=
  ∀ s : State, (s.runState = .filling → ∀ a, s.hostRead a = 0) ∧
    (s.writable → s.hostRead 0 = 0x57A1 ∧ s.hostRead 1 = s.divisor ∧
      (s.hostRead 2 = (match s.runState with | .filling => 0 | .stopped => 1 | .running => 2 | .stopping => 3) |||
        (if s.lock = true then 0x0100 else 0)) ∧
      s.hostRead 3 = BitVec.ofNat 16 s.intakeQueue.length ∧
      (s.intakeQueue.length ≤ 16 →
        s.hostRead 4 = BitVec.ofNat 16 s.intakeQueue.length ||| (s.intakeFlags.setWidth 16 <<< 8)) ∧
      s.hostRead 5 = s.newsEnable.setWidth 16 ∧ s.hostRead 8 = 1 ∧ s.hostRead 9 = 48 ∧
      s.hostRead 10 = 4 ∧ s.hostRead 0x10 = s.tick.extractLsb' 16 16 ∧ s.hostRead 0x11 = s.tick.extractLsb' 0 16 ∧
      s.hostRead 0x12 = s.intakeErrors ∧ s.hostRead 0x20 = s.globalNews.setWidth 16 ∧
      (∀ e : EngineNo, (s.engine e).shownBy (s.hostRead (BitVec.ofNat 15 (0x60 + 2 * e.val))) ∧
        s.hostRead (BitVec.ofNat 15 (0x61 + 2 * e.val)) = (s.engine e).unused) ∧
      ∀ p : PortNo, s.hostRead (BitVec.ofNat 15 (0x1400 + 128 * p.val)) = (s.port p).editCount ∧
        s.hostRead (BitVec.ofNat 15 (0x1401 + 128 * p.val)) = (s.port p).news.setWidth 16 ∧
        (s.hostRead (BitVec.ofNat 15 (0x21 + p.val / 16))).getLsbD (p.val % 16) = decide ((s.port p).news ≠ 0) ∧
        let word : Nat → Word := fun i => s.hostRead (BitVec.ofNat 15 (0x1400 + 128 * p.val + i))
        (s.port p).status.shownBy word ∧ (s.port p).listsShownBy word ∧
        (s.port p).report.shownBy (fun i => word (72 + i)) ∧
        ∀ i, i = 42 ∨ i = 43 ∨ 65 ≤ i ∧ i ≤ 71 ∨ 97 ≤ i ∧ i ≤ 127 → word i = 0) ∧
    (s.writable → (∀ a : Addr, a = 0x0030 ∨ a = 0x0031 ∨ 0x0040 ≤ a.toNat ∧ a.toNat ≤ 0x004A ∨
          0x0080 ≤ a.toNat ∧ a.toNat ≤ 0x00A7 ∨ 0x0100 ≤ a.toNat ∧ a.toNat ≤ 0x019F ∨
          0x0400 ≤ a.toNat ∧ a.toNat ≤ 0x13FF ∨ 0x2C00 ≤ a.toNat → s.hostRead a = s.readMem a.toNat) ∧
      (∀ a : Addr, 0x0006 ≤ a.toNat ∧ a.toNat ≤ 0x0007 ∨ 0x000B ≤ a.toNat ∧ a.toNat ≤ 0x000F ∨
          0x0013 ≤ a.toNat ∧ a.toNat ≤ 0x001F ∨ 0x0024 ≤ a.toNat ∧ a.toNat ≤ 0x002F ∨
          0x0032 ≤ a.toNat ∧ a.toNat ≤ 0x003F ∨ 0x004B ≤ a.toNat ∧ a.toNat ≤ 0x005F ∨
          0x0068 ≤ a.toNat ∧ a.toNat ≤ 0x007F ∨ 0x00A8 ≤ a.toNat ∧ a.toNat ≤ 0x00FF ∨
          0x01A0 ≤ a.toNat ∧ a.toNat ≤ 0x03FF → s.hostRead a = 0) ∧
      (∀ (c : CellNo) (i : Nat), i < 32 → s.hostRead (BitVec.ofNat 15 (0x0400 + 32 * c.val + i)) = s.cellWord c i) ∧
      ∀ k : SlabNo, s.hostRead (BitVec.ofNat 15 (0x0080 + k.val)) = s.readMem (ownerAddr k) ∧
        (∀ i, i < 4 → s.hostRead (BitVec.ofNat 15 (0x0100 + 4 * k.val + i)) = s.readMem (slabEntryBase k + i)) ∧
        ∀ i, i < 512 → s.hostRead (BitVec.ofNat 15 (0x2C00 + 512 * k.val + i)) = s.readMem (slabBase k + i))

/-- A write frame (R155): header bit 0, the address, then whole words; word i goes to the address i above, the address
passing from 0x7FFF to 0; a partial word is discarded; a frame that closes in its header, or a read frame, writes
nothing. A read frame answers word i as read, in the state at its fetch, at the address i above, most significant bit
first, behind 16 zeros; a write frame, and one that closes in its header, answers 0 throughout. That a frame is such a
function of its bits and of the states at its fetches is the model's choice (log entry 20). The row of the table that a
frame's write is does what a HOST_WRITE of that value to that word does, and a HOST_WRITE to RUN CONTROL does what RUN
does where bits 1-0 are 1, what STOP does where they are 2, and else nothing: what a HOST_WRITE does at a word with a
row of its own is the model's choice (log entry 19). -/
def Obligations.WriteFrameMakesHostWrites : Prop :=
  (∀ (s : State) (a : Addr) (v : Word), exec (writeCommand a v) s = exec (.hostWrite a v) s) ∧
  (∀ (s : State) (v : Word), s.editsClosed → exec (.hostWrite 2 v) s =
    if fieldOf v 0 2 = 1 then exec .run s else if fieldOf v 0 2 = 2 then exec .stop s else .next s) ∧
  ∀ (addr : Addr) (ws : List Word) (part : List Bool), part.length < 16 →
    frameCommands (false :: (wordBits (addr.setWidth 16)).tail ++ ws.flatMap wordBits ++ part) =
      (List.range ws.length).map (fun i => writeCommand (addr + BitVec.ofNat 15 i) (ws.getD i 0)) ∧
    frameCommands (true :: (wordBits (addr.setWidth 16)).tail ++ ws.flatMap wordBits ++ part) = [] ∧
    frameCommands part = [] ∧
    (∀ states : List State,
      frameAnswer (false :: (wordBits (addr.setWidth 16)).tail ++ ws.flatMap wordBits ++ part) states =
        List.replicate (16 + 16 * ws.length + part.length) false ∧
      frameAnswer part states = List.replicate part.length false) ∧
    ∀ (clocks : List Bool) (fetched : Nat → State) (n : Nat), clocks.length ≤ 16 * n →
      let answer := frameAnswer (true :: (wordBits (addr.setWidth 16)).tail ++ clocks) ((List.range n).map fetched)
      answer.length = 16 + clocks.length ∧ (∀ j, j < 16 → answer[j]? = some false) ∧
      ∀ i j, j < 16 → 16 * i + j < clocks.length →
        answer[16 + 16 * i + j]? = some (((fetched i).hostRead (addr + BitVec.ofNat 15 i)).getLsbD (15 - j))

/-- The interrupt line (R165) is asserted exactly when some set flag has its kind enabled, with the pin released and
the fill over; bit p of the news map (R164) is 1 exactly when port p's word holds a set flag. -/
def Obligations.InterruptLineFollowsNews : Prop :=
  ∀ s : State, (s.interruptLine = true ↔ s.writable ∧
      ((∃ (p : PortNo) (i : Fin 8), (s.port p).news.getLsbD i = true ∧ s.newsEnable.getLsbD i = true) ∨
        ∃ i : Fin 4, s.globalNews.getLsbD i = true ∧ s.newsEnable.getLsbD (8 + i) = true)) ∧
    ∀ p : PortNo, s.newsMapBit p = true ↔ ∃ i : Fin 8, (s.port p).news.getLsbD i = true

/-! ## Ticks and intake (R20, R29, R78, R127, R139 to R148, R158) -/

/-- TICK (R158): counter and divider; each port's seed generator (R20), timers (R2), burst schedule (R29) and unlock
total (R78, R79); a busy engine's wait ends (R90); the watch timer counts or reads its word (R127); and intake owes an
entry where its queue holds one, which the next TICK takes (R139). The model's choices: the tick is taken in these two
shares, so that events due at it come before or after the entry (log entry 5), a timer or watch period that has run out
stays due until its own command (log entry 3), and a tick raises no request, which WATCH_REQUEST_RAISE does (log entry
38). -/
def Obligations.TickMovesEveryBlock : Prop :=
  ∀ s : State, s.working → s.editsClosed →
    (s.intakeDue = false → exec .tick s = .next { s.tickBlocks with intakeDue := decide (s.intakeQueue ≠ []) }) ∧
    (s.intakeDue = true → s.intakeQueue = [] → exec .tick s = .next { s with intakeDue := false }) ∧
    s.tickBlocks = { s with
      tick := s.tick + 1, divider := 0, ports := s.tickBlocks.ports, engines := s.tickBlocks.engines
      watchInterval := if s.watchInterval = 0 then s.readMem 0x0030 else s.watchInterval
      watchElapsed := if s.watchInterval = 0 then 0
        else if s.watchElapsed.toNat < s.watchInterval.toNat then s.watchElapsed + 1 else s.watchElapsed } ∧
    (∀ p : PortNo,
      let x := s.port p
      let y := s.tickBlocks.port p
      y = { x with
        seedGen := y.seedGen, unlockTotal := y.unlockTotal, news := y.news
        timers := ⟨x.timers.offer.map (· - 1), x.timers.brk.map (· - 1), x.timers.lock.map (· - 1),
          x.timers.verify.map (· - 1), x.timers.monitor.map (· - 1), x.timers.drop.map (· - 1),
          x.timers.backoff.map (· - 1), x.timers.roleHold.map (· - 1)⟩
        sender := { x.sender with
          phase := x.sender.phase.map fun n => if n = 11 then 0 else n + 1
          due := x.sender.due || decide (x.sender.phase = some 11) } } ∧
      (y.seedGen.getLsbD 0 = (x.seedGen.getLsbD 15 ^^ x.seedGen.getLsbD 13 ^^ x.seedGen.getLsbD 12 ^^
        x.seedGen.getLsbD 10)) ∧
      (∀ i, i < 15 → y.seedGen.getLsbD (i + 1) = x.seedGen.getLsbD i) ∧
      (x.status.state = .linked ∧ x.lockUp = false →
        y.unlockTotal = x.unlockTotal + 1 ∧ y.news = if x.unlockTotal + 1 = 0 then x.news ||| 0x80 else x.news) ∧
      (x.status.state ≠ .linked ∨ x.lockUp = true → y.unlockTotal = x.unlockTotal ∧ y.news = x.news)) ∧
    ∀ e : EngineNo, (s.tickBlocks.engine e).unused = (s.engine e).unused ∧
      (s.tickBlocks.engine e).meas = (s.engine e).meas.map fun m =>
        match m.phase with
        | .quietCheck n .waiting => { m with phase := .quietCheck n .due }
        | _ => m

/-- TICK, intake takes the entry it owes, the head of its queue (R139, R140): a cell not READY leaves custody
unwritten, counted, with INTAKE_FAULT; a READY cell is refused BAD_KIND (1), BAD_PORT (2), BAD_PARAM (3) or LIST_FULL
(4) with its news. The profile and the recipe are the fields of the parameters (11.3), each with its range (R5, R121,
R141). That intake's share follows the tick's other share, so that the cell's ticks are the new count, is the model's
choice (log entry 5). -/
def Obligations.IntakeTurnsCellsAway : Prop :=
  (∀ w : Nat → Word, (Profile.ofWords w).readFrom w ∧ (Recipe.ofWords w).readFrom w) ∧
  ∀ (s : State) (c : CellNo) (rest : List CellNo), s.entryDue c rest → s.memOk →
    let kind := (s.cellWord c 1).toNat / 256
    let port := (s.cellWord c 1).toNat % 256
    (s.cellWord c 0 ≠ 1 → exec .tick s =
      .next { (s.setCustody c .outside) with
        intakeQueue := rest, intakeDue := false
        intakeErrors := oneMore s.intakeErrors, globalNews := s.globalNews ||| 1 }) ∧
    (s.cellWord c 0 = 1 →
      ((kind = 0 ∨ 4 < kind) → 48 ≤ port → s.cellEndsAtIntake c rest 5 0 1 true none) ∧
      (∀ p : PortNo, (kind = 0 ∨ 4 < kind) → port = p.val → s.cellEndsAtIntake c rest 5 0 1 true (some p)) ∧
      ((kind = 1 ∨ kind = 2 ∨ kind = 3) → 48 ≤ port → s.cellEndsAtIntake c rest 5 0 2 true none) ∧
      (∀ p : PortNo, kind = 1 → port = p.val → (Profile.ofWords (s.cellParam c)).valid = false →
        s.cellEndsAtIntake c rest 5 0 3 false (some p)) ∧
      (∀ p : PortNo, kind = 2 → port = p.val → (Recipe.ofWords (s.cellParam c)).valid = false →
        s.cellEndsAtIntake c rest 5 0 3 false (some p)) ∧
      (kind = 4 → 128 ≤ (s.cellParam c 0).toNat ∨ (s.cellParam c 0).toNat = c.val →
        s.cellEndsAtIntake c rest 5 0 3 true none) ∧
      (∀ p : PortNo, port = p.val → (s.port p).jobs.length = 4 →
        kind = 1 ∧ (Profile.ofWords (s.cellParam c)).valid = true ∨
          kind = 2 ∧ (Recipe.ofWords (s.cellParam c)).valid = true ∨ kind = 3 →
        s.cellEndsAtIntake c rest 5 0 4 false (some p)))

/-- TICK, an accepted cell behind a running job (R142): it joins the tail of its port's list with the copy intake took,
reads QUEUED (2), and its custody is LISTED. That intake's share
follows the tick's other share, so that the entry's first start tick is the new count, is the model's choice (log
entry 5). -/
def Obligations.IntakeAppendsBehindRunningJob : Prop :=
  ∀ (s : State) (c : CellNo) (rest : List CellNo) (p : PortNo) (w : Work), s.entryDue c rest →
    s.cellWord c 0 = 1 → (s.cellWord c 1).toNat % 256 = p.val →
    ((s.cellWord c 1).toNat / 256 = 1 ∧ (Profile.ofWords (s.cellParam c)).valid = true ∧
        w = .train (Profile.ofWords (s.cellParam c)) ∨
      (s.cellWord c 1).toNat / 256 = 2 ∧ (Recipe.ofWords (s.cellParam c)).valid = true ∧
        w = .diagnose (Recipe.ofWords (s.cellParam c)) ((s.cellParam c 0).getLsbD 6) ∨
      (s.cellWord c 1).toNat / 256 = 3 ∧ w = .hold) →
    (s.port p).jobs.length < 4 → (s.port p).status.running ≠ none →
    exec .tick s = .next
      ((({ s with intakeQueue := rest, intakeDue := false, mem := s.mem.write (cellBase c) 2 } : State).setPort p
        { (s.port p).edited with
          jobs := (s.port p).jobs ++ [(⟨c, s.cellWord c 2, w, s.tick⟩ : Job)] }).setCustody c .listed)

/-- TICK, a TRAIN job starts at once on a jobless port (R143, R15, R6 to R9): a link drops with RETRAIN_REQUESTED, a
waiting request is withdrawn, a measurement under way is aborted without a report (R105); the cell reads RUNNING (3)
with its start tick, the profile is the job's, and its sequence starts: in CHECK with precheck QUICK, else in OFFER in
its first attempt, or deferred into BACKOFF with the quad not ready. That intake's share follows the tick's other share
is the model's choice (log entry 5), and so it is that a drop into CHECK or BACKOFF discards the unpublished exchange
items (log entry 44). -/
def Obligations.TrainJobStartsAttempt : Prop :=
  ∀ (s : State) (c : CellNo) (rest : List CellNo) (p : PortNo) (f : Profile), s.entryDue c rest → s.memOk →
    s.cellWord c 0 = 1 → (s.cellWord c 1).toNat = 0x100 + p.val →
    f = Profile.ofWords (s.cellParam c) → f.valid = true → (s.port p).jobless → (s.port p).history.length ≤ 4 →
    let started : Port := { (s.port p).trainStarted c f s.tick (s.isReady (quadOf p)) with
      jobs := [⟨c, s.cellWord c 2, .train f, s.tick⟩] }
    (s.engineOf p = none → ∃ t, exec .tick s = .next t ∧ t.cellRuns c s.tick ∧
      (∀ a, ¬ inStartWords c a → t.readMem a = s.readMem a) ∧
      s.tookEntry t rest [c] ∧ s.enginesKept t ∧ t.globalNews = s.globalNews ∧
      (∀ q, q ≠ p → t.port q = s.port q) ∧ t.port p = started) ∧
    ∀ e m, s.measures e m p → ∃ t, exec .tick s = .next t ∧ t.cellRuns c s.tick ∧
      (∀ a, ¬ inStartWords c a → (∀ k, m.filling = some k → a ≠ ownerAddr k) → t.readMem a = s.readMem a) ∧
      (∀ k, m.filling = some k → t.readMem (ownerAddr k) = 0) ∧ s.tookEntry t rest [c] ∧ s.releasedIn t e p ∧
      t.globalNews = s.globalNews ∧ (∀ q, q ≠ p → t.port q = s.port q) ∧ t.port p = started

/-- TICK, a DIAGNOSE job starts at once on a jobless port (R143, R16, R125): the port enters PROBE and posts its JOB
request; a link that may be broken drops with DIAGNOSE, other activity is aborted, a waiting request withdrawn, a
measurement under way aborted without a report (R105). LINKED with intrusive not allowed, the cell ends DONE / LINK_UP
(8) and the link runs on. That intake's share follows the tick's other share is the model's choice (log entry 5), and so
it is that a drop into PROBE discards the unpublished exchange items (log entry 44). -/
def Obligations.DiagnoseJobStarts : Prop :=
  ∀ (s : State) (c : CellNo) (rest : List CellNo) (p : PortNo) (r : Recipe), s.entryDue c rest → s.memOk →
    s.cellWord c 0 = 1 → (s.cellWord c 1).toNat = 0x200 + p.val →
    r = Recipe.ofWords (s.cellParam c) → r.valid = true → (s.port p).jobless → (s.port p).history.length ≤ 4 →
    let probing : Port := { (s.port p).diagnoseStarted c r (s.cellWord c 2) s.tick with
      jobs := [⟨c, s.cellWord c 2, .diagnose r ((s.cellParam c 0).getLsbD 6), s.tick⟩] }
    (((s.port p).status.state = .linked → (s.cellParam c 0).getLsbD 6 = true) →
      (s.engineOf p = none → ∃ t, exec .tick s = .next t ∧ t.cellRuns c s.tick ∧
        (∀ a, ¬ inStartWords c a → t.readMem a = s.readMem a) ∧
        s.tookEntry t rest [c] ∧ s.enginesKept t ∧ t.globalNews = s.globalNews ∧
        (∀ q, q ≠ p → t.port q = s.port q) ∧ t.port p = probing) ∧
      (∀ e m, s.measures e m p → (s.port p).status.state ≠ .linked → ∃ t, exec .tick s = .next t ∧
        t.cellRuns c s.tick ∧
        (∀ a, ¬ inStartWords c a → (∀ k, m.filling = some k → a ≠ ownerAddr k) → t.readMem a = s.readMem a) ∧
        (∀ k, m.filling = some k → t.readMem (ownerAddr k) = 0) ∧ s.tookEntry t rest [c] ∧ s.releasedIn t e p ∧
        t.globalNews = s.globalNews ∧ (∀ q, q ≠ p → t.port q = s.port q) ∧ t.port p = probing)) ∧
    ((s.port p).status.state = .linked → (s.cellParam c 0).getLsbD 6 = false →
      ∃ t, exec .tick s = .next t ∧ t.cellEnded c 4 8 0 s.tick s.tick ∧ s.memKeptBut t c ∧
        s.tookEntry t rest [c] ∧ s.enginesKept t ∧ t.globalNews = s.globalNews ∧
        (∀ q, q ≠ p → t.port q = s.port q) ∧
        t.port p = { s.port p with news := (s.port p).news ||| 1, editCount := (t.port p).editCount })

/-- TICK, a HOLD job runs through on one event on a jobless port (R143, R18, R21): a link drops with HOLD, other
activity is aborted, a waiting request withdrawn, a measurement under way aborted without a report (R105); the cell
ends DONE / HELD (9), the port is DISABLED without profile, its words, resolution and calibration cleared, and all else
of it is kept. That intake's share follows the tick's other share is the model's choice (log entry 5). -/
def Obligations.HoldJobDisablesPort : Prop :=
  ∀ (s : State) (c : CellNo) (rest : List CellNo) (p : PortNo), s.entryDue c rest → s.memOk →
    s.cellWord c 0 = 1 → (s.cellWord c 1).toNat = 0x300 + p.val →
    (s.port p).jobless → (s.port p).history.length ≤ 4 →
    let disabled := (s.port p).heldDown s.tick
    (s.engineOf p = none → ∃ t, exec .tick s = .next t ∧ t.cellEnded c 4 9 0 s.tick s.tick ∧
      s.memKeptBut t c ∧
      s.tookEntry t rest [c] ∧ s.enginesKept t ∧ t.globalNews = s.globalNews ∧
      (∀ q, q ≠ p → t.port q = s.port q) ∧ t.port p = disabled) ∧
    ∀ e m, s.measures e m p → ∃ t, exec .tick s = .next t ∧ t.cellEnded c 4 9 0 s.tick s.tick ∧
      s.memKeptFreeing t [c] m.filling ∧ s.tookEntry t rest [c] ∧ s.releasedIn t e p ∧ t.globalNews = s.globalNews ∧
      (∀ q, q ≠ p → t.port q = s.port q) ∧ t.port p = disabled

/-- TICK, a CANCEL whose target's custody is OUTSIDE (R148, R145), ended by an event of the tick before intake's share
(R149) or earlier: TOO_LATE (11) for a terminal state word (4, 5, 6), else REFUSED / BAD_TARGET (5) with INTAKE_FAULT;
the target is not written; news goes to the port its cell names. That intake's share follows the tick's other share, so
that both ticks of the CANCEL are the new count, is the model's choice (log entry 5). -/
def Obligations.CancelOfCellOutside : Prop :=
  ∀ (s : State) (c d : CellNo) (rest : List CellNo), s.entryDue c rest → s.memOk →
    s.cellWord c 0 = 1 → (s.cellWord c 1).toNat / 256 = 4 → (s.cellParam c 0).toNat = d.val → d ≠ c →
    s.custodyOf d = .outside →
    let late := s.cellWord d 0 = 4 ∨ s.cellWord d 0 = 5 ∨ s.cellWord d 0 = 6
    (∀ p : PortNo, (s.cellWord d 1).toNat % 256 = p.val →
      (late → s.cellEndsAtIntake c rest 4 11 0 false (some p)) ∧
      (¬ late → s.cellEndsAtIntake c rest 5 0 5 true (some p))) ∧
    (48 ≤ (s.cellWord d 1).toNat % 256 →
      (late → s.cellEndsAtIntake c rest 4 11 0 true none) ∧ (¬ late → s.cellEndsAtIntake c rest 5 0 5 true none))

/-- TICK, a CANCEL whose target the part holds (R146, R147, R19): queued or listed, it leaves its place and is written
CANCELLED / BY_CANCEL (6). A running TRAIN is aborted, its profile goes and the port is DISABLED; a running DIAGNOSE is
aborted, its waiting request withdrawn, and the port resumes (R17); a measuring engine is released with a partial report
flagged CANCELLED (4). The jobs behind a running target then start (R144 step 6, R143). The CANCEL ends DONE /
CANCEL_DONE (10); all other memory stands. That intake's share follows the tick's other share, so that the ticks written
are the new count, is the model's choice (log entry 5). -/
def Obligations.CancelOfHeldCell : Prop :=
  ∀ (s : State) (c d : CellNo) (rest : List CellNo), s.entryDue c rest → s.memOk → s.jobsOk →
    s.cellWord c 0 = 1 → (s.cellWord c 1).toNat / 256 = 4 →
    (s.cellParam c 0).toNat = d.val → d ≠ c →
    let bothEnd : State → Ticks → Prop := fun t start =>
      t.cellEnded d 6 0 6 start s.tick ∧ t.cellEnded c 4 10 0 s.tick s.tick
    (s.custodyOf d = .intake → ∃ t, exec .tick s = .next t ∧ bothEnd t s.tick ∧
      s.memKeptFreeing t [c, d] none ∧ s.tookEntry t (rest.filter fun x => decide (x ≠ d)) [c, d] ∧ s.enginesKept t ∧
      (48 ≤ (s.cellWord d 1).toNat % 256 → t.globalNews = s.globalNews ||| 1 ∧ ∀ p, t.port p = s.port p) ∧
      ∀ p : PortNo, (s.cellWord d 1).toNat % 256 = p.val → t.globalNews = s.globalNews ∧
        (∀ q, q ≠ p → t.port q = s.port q) ∧
        t.port p = { s.port p with news := (s.port p).news ||| 1 }) ∧
    (∀ p, s.custodyOf d = .listed → s.inList p d → ∃ t, exec .tick s = .next t ∧ bothEnd t s.tick ∧
      s.memKeptFreeing t [c, d] none ∧ s.tookEntry t rest [c, d] ∧ s.enginesKept t ∧ t.globalNews = s.globalNews ∧
      (∀ q, q ≠ p → t.port q = s.port q) ∧ t.port p = { s.port p with
        jobs := (s.port p).jobs.filter (fun j => decide (j.cell ≠ d))
        news := (s.port p).news ||| 1, editCount := (s.port p).editCount + 2 }) ∧
    ∀ p j later, (s.port p).jobs = j :: later → j.cell = d → j.work ≠ .hold →
      let x := (s.port p).jobEnded.cutShort
      let leaves : Port → Port → Prop := fun y z => (∀ f, j.work = .train f → z = y.disabledNow) ∧
        ∀ r i, j.work = .diagnose r i → z = y.resumed (s.isReady (quadOf p))
      let ends : State → Port → Option SlabNo → Prop := fun t z slab =>
        exec .tick s = .next t ∧ bothEnd t j.start ∧ s.runsOn t p later z ∧
          s.memKeptFreeing t (c :: d :: startedCells z later) slab ∧
          s.tookEntry t rest (c :: d :: startedCells z later) ∧ t.globalNews = s.globalNews ∧
          ∀ q, q ≠ p → t.port q = s.port q
      ∀ z, s.canRunOn z later →
        (s.engineOf p = none → leaves x.withdrawn z → ∃ t, ends t z none ∧ s.enginesKept t) ∧
        ∀ e m, s.measures e m p → leaves (x.reported (m.reportWith (m.flags ||| 4) s.tick)) z →
          ∃ t, ends t z m.filling ∧ s.releasedIn t e p

/-! ## Attempts (R9 to R14, R73, R74) -/

/-- A failed attempt with attempts left backs off for 24 ticks an attempt (R10), its reason written; all but NO_PARTNER
are first charged to the resolved rate (R73, R74): OFFER_TIMEOUT with auto-retrain on, LOCK_TIMEOUT, LOCK_FALL in
WINDOW, VERIFY_WINDOW_END above the threshold. -/
def Obligations.FailedAttemptBacksOff : Prop :=
  ∀ (s : State) (p : PortNo), s.working → s.editsClosed → (s.port p).settled →
    (s.port p).status.attempts < (s.port p).prof.attemptLimit →
    let x := s.port p
    let charged := x.charge x.link.rate
    (x.status.state = .offer → x.timers.offer = some 0 → x.prof.autoRetrain = true →
      exec (.offerTimeout p) s = .next (s.setPort p (x.backedOff .noPartner))) ∧
    (x.status.state = .verify → x.timers.lock = some 0 →
      exec (.lockTimeout p) s = .next (s.setPort p (charged.backedOff .lockTimeout))) ∧
    (x.status.state = .verify → x.status.sub = .window → x.lockUp = true → s.engineOf p = none →
      exec (.lockFall p) s = .next (s.setPort p (charged.backedOff .lockLostInVerify))) ∧
    (x.status.state = .verify → x.timers.verify = some 0 → x.prof.verifyThreshold < x.monitor.verifyCount.toNat →
      exec (.verifyWindowEnd p) s = .next (s.setPort p (charged.backedOff .verifyErrors)))

/-- The last attempt's failure ends the sequence in IDLE (R10), OFFER_TIMEOUT also where auto-retrain is off: of a
jobless port nothing else changes; the running TRAIN job ends DONE / NO_PARTNER (2) for OFFER_TIMEOUT, or GAVE_UP (3)
for LOCK_TIMEOUT, LOCK_FALL in WINDOW and VERIFY_WINDOW_END above the threshold, with JOB_DONE (R144), and the jobs
behind it start (R144 step 6, R143). GAVE_UP for the fifth restart of an exchange is in PartnerWordIsMatched, and for a
fall of readiness in ReadinessChangesAct. -/
def Obligations.LastFailureEndsInIdle : Prop :=
  ∀ (s : State) (p : PortNo), s.working → s.editsClosed →
    let x := s.port p
    let charged := x.charge x.link.rate
    let ends : Instr → Port → Nat → Prop := fun c y outcome => s.sequenceEnds (exec c s) p y outcome
    (x.status.state = .offer → x.timers.offer = some 0 →
      x.prof.autoRetrain = false ∨ x.prof.attemptLimit ≤ x.status.attempts →
      ends (.offerTimeout p) (x.failedInto .noPartner .idle) 2) ∧
    (x.prof.attemptLimit ≤ x.status.attempts →
      (x.status.state = .verify → x.timers.lock = some 0 →
        ends (.lockTimeout p) (charged.failedInto .lockTimeout .idle) 3) ∧
      (x.status.state = .verify → x.status.sub = .window → x.lockUp = true → s.engineOf p = none →
        ends (.lockFall p) (charged.failedInto .lockLostInVerify .idle) 3) ∧
      (x.status.state = .verify → x.timers.verify = some 0 → x.prof.verifyThreshold < x.monitor.verifyCount.toNat →
        ends (.verifyWindowEnd p) (charged.failedInto .verifyErrors .idle) 3))

/-- A charge (R73) and the downshift test (R74): the rate's failure count goes up, staying at 255; the rate leaves the
offer set, and the downshifts are counted, when the count is 2 or more, downshift is on, another rate is offered, and
the cap removed no rate. -/
def Obligations.ChargeAppliesDownshiftTest : Prop :=
  ∀ (x : Port) (r : Rate),
    let n : BitVec 8 := if x.status.failCounts[r.code] = 255 then 255 else x.status.failCounts[r.code] + 1
    let left : RateSet := x.status.offerSet &&& ~~~((1 : BitVec 4) <<< r.code.val)
    let y : Port := { x with status := { x.status with failCounts := x.status.failCounts.set r.code n } }
    (2 ≤ n.toNat ∧ x.prof.downshift = true ∧ left ≠ 0 ∧ x.capRemoved = false →
      x.charge r = { y.counted 7 with status := { (y.counted 7).status with
        offerSet := left, downshifts := x.status.downshifts + 1 } }) ∧
    (¬ (2 ≤ n.toNat ∧ x.prof.downshift = true ∧ left ≠ 0 ∧ x.capRemoved = false) → x.charge r = y)

/-- BACKOFF_EXPIRY (R11, R8): with the quad not ready the timer starts again; with it ready an attempt begins, or the
port enters CABLE_HOLD where the offer and qualified sets do not meet, and the running TRAIN job ends DONE / CABLE_FAULT
(5) and the jobs behind it start (R144 step 6, R143). An expiry that is not due has no effect (the model's choice, log
entry 3). -/
def Obligations.BackoffExpiryStartsAttempt : Prop :=
  ∀ (s : State) (p : PortNo), s.working → s.editsClosed →
    let x := s.port p
    (x.status.state ≠ .backoff ∨ x.timers.backoff ≠ some 0 → exec (.backoffExpiry p) s = .next s) ∧
    (x.status.state = .backoff → x.timers.backoff = some 0 →
      (s.isReady (quadOf p) = false → exec (.backoffExpiry p) s =
        .next (s.setPort p { x with timers := { x.timers with backoff := some x.backoffLen } })) ∧
      (s.isReady (quadOf p) = true → x.status.offerSet &&& x.status.qualSet ≠ 0 → x.settled →
        exec (.backoffExpiry p) s = .next (s.setPort p x.attemptBegun)) ∧
      (s.isReady (quadOf p) = true → x.status.offerSet &&& x.status.qualSet = 0 →
        s.sequenceEnds (exec (.backoffExpiry p) s) p (x.leftFor .cableHold) 5))

/-- ROLE_HOLD_EXPIRY (R14, R7, R8): with auto-retrain off the port stays; on, a sequence begins, a waiting request
withdrawn: through CHECK with precheck QUICK, else with an attempt, deferred into BACKOFF with the quad not ready, or in
CABLE_HOLD where the sets do not meet. -/
def Obligations.RoleHoldExpiryBeginsSequence : Prop :=
  ∀ (s : State) (p : PortNo), s.working → s.editsClosed →
    let x := s.port p
    x.status.state = .roleHold → x.timers.roleHold = some 0 →
      (x.prof.autoRetrain = false → exec (.roleHoldExpiry p) s =
        .next (s.setPort p { x with timers := { x.timers with roleHold := none } })) ∧
      (x.prof.autoRetrain = true → x.settled → x.request = none →
        (x.prof.precheck = true → exec (.roleHoldExpiry p) s = .next (s.setPort p x.sequenceBegun.checking)) ∧
        (x.prof.precheck = false → x.status.offerSet &&& x.status.qualSet ≠ 0 → s.isReady (quadOf p) = true →
          exec (.roleHoldExpiry p) s = .next (s.setPort p x.sequenceBegun.attemptBegun))) ∧
      (x.prof.autoRetrain = true → x.jobless →
        exec (.roleHoldExpiry p) s = .next (s.setPort p (x.sequenceStarted (s.isReady (quadOf p)) false)))

/-! ## Bursts and pages (R27 to R36, R47 to R63) -/

/-- BURST_DUE (R29 to R32): sent with our word for the current page and the acknowledge flag in force, skipped and
counted (suppressed bursts, counter 2) under the quad's claim, or not sent while the last burst is on the line. The
model's choices: a burst not due has no effect (log entries 3 and 23), a saturated counter makes no edit (log entry
13), a burst that meets both the last one and a claim is not counted (log entry 17), and the claim counts whichever
port of the quad it stands for (log entry 40). -/
def Obligations.BurstDueIsSentOrSkipped : Prop :=
  ∀ (s : State) (p : PortNo), s.working → s.editsClosed →
    let x := s.port p
    let skipped : Sender := { x.sender with due := false }
    (x.status.state ≠ .offer ∧ x.status.state ≠ .exchange ∨ x.sender.due = false →
      exec (.burstDue p) s = .next s) ∧
    (x.status.state = .offer ∨ x.status.state = .exchange → x.sender.due = true →
      (x.sender.onLine ≠ none → exec (.burstDue p) s = .next (s.setPort p { x with sender := skipped })) ∧
      (x.sender.onLine = none → s.claimed (quadOf p) = true → x.status.counters[2] = 0xFFFF →
        exec (.burstDue p) s = .next (s.setPort p { x with sender := skipped })) ∧
      (x.sender.onLine = none → s.claimed (quadOf p) = true → x.status.counters[2] ≠ 0xFFFF →
        exec (.burstDue p) s = .next (s.setPort p { (x.counted 2).edited with sender := skipped })) ∧
      (x.sender.onLine = none → s.claimed (quadOf p) = false → exec (.burstDue p) s =
        .next (s.setPort p { x with sender := { x.sender with
          due := false
          onLine := some (OfferWord.onLine (x.status.ours[x.status.page].getD 0) x.exch.ack) } })))

/-- The word of a burst holds its content and acknowledge flag and an even number of 1 bits (R32, R33); and its
transitions as the part sends them (R27, R28) are read back, with any split from 5 to 8, as that word (R39, R40). -/
def Obligations.SentBurstIsReadBack : Prop :=
  ∀ (content : Word) (ack : Bool),
    let w := OfferWord.onLine content ack
    OfferWord.odd w = false ∧ w &&& 0xE7FF = content &&& 0xE7FF ∧ w.getLsbD 12 = ack ∧
    ∀ split : Nat, 5 ≤ split → split ≤ 8 →
      ∃ b, readTransitions split (burstTransitions w) = some b ∧ b.verdict = .valid w

/-- BURST_SENT (R28, R36, R51): the line goes to rest and our word for the page shows the burst's acknowledge and
parity flags; an acknowledge burst of the matched current page counts, and here completes no page. The model's choices:
with no burst on the line the command has no effect (log entry 23), and flags that show as before make no edit (log
entry 13). -/
def Obligations.BurstSentCountsAcknowledge : Prop :=
  ∀ (s : State) (p : PortNo), s.working → s.editsClosed → (s.port p).settled →
    let x := s.port p
    (x.sender.onLine = none → exec (.burstSent p) s = .next s) ∧
    ∀ w : Word, x.sender.onLine = some w →
      let k : PageNo := (w.extractLsb' 14 2).toFin
      let shown : Vector (Option Word) 4 :=
        x.status.ours.set k (x.status.ours[k].map fun c => (c &&& 0xE7FF) ||| (w &&& 0x1800))
      let y : Port := { x with
        sender := { x.sender with onLine := none }
        status := { x.status with ours := shown }
        editCount := if shown = x.status.ours then x.editCount else x.editCount + 2 }
      let counts := x.status.state = .exchange ∧ x.exch.isMatched = true ∧ w.getLsbD 12 = true ∧ k = x.status.page ∧
        x.exch.ackSent < 3
      (¬ counts → exec (.burstSent p) s = .next (s.setPort p y)) ∧
      (counts → x.exch.ackSent < 2 ∨ x.exch.seen = false → exec (.burstSent p) s =
        .next (s.setPort p { y with exch := { x.exch with ackSent := x.exch.ackSent + 1 } }))

/-- BURST_SENT, the third acknowledge burst of a page whose partner is seen (R52, R53): with more pages on either side,
the next page becomes current, its run empty and its word built as R33 to R36 and 11.6 give pages 1 to 3. -/
def Obligations.CompletedPageMovesOn : Prop :=
  ∀ (s : State) (p : PortNo) (w : Word) (k : PageNo), s.working → s.editsClosed → (s.port p).settled →
    let x := s.port p
    x.sender.onLine = some w → x.status.state = .exchange → x.status.page = k → k ≠ 3 → x.exch.isMatched = true →
    x.exch.ackSent = 2 → x.exch.seen = true → w.getLsbD 12 = true → (w.extractLsb' 14 2).toFin = k →
    x.status.ours[k] ≠ none →
    (x.status.ours[k].getD 0).getLsbD 13 = true ∨ (x.status.partner[k].getD 0).getLsbD 13 = true →
    let next : PageNo := k + 1
    x.status.ours[next] = none →
    let built : Word :=
      if k = 0 then
        0x4000 ||| (if 1 ≤ x.prof.extraCount then 0x2000 else 0) ||| BitVec.ofNat 16 (128 * x.report.usable) |||
          BitVec.ofNat 16 (8 * min x.status.downshifts 15) ||| BitVec.ofNat 16 (min x.status.attempts 7)
      else if k = 1 then
        0x8000 ||| (if 2 ≤ x.prof.extraCount then 0x2000 else 0) |||
          (if 1 ≤ x.prof.extraCount then x.prof.extra1 &&& 0x07FF else 0)
      else 0xC000 ||| (if 3 ≤ x.prof.extraCount then 0x2000 else 0) |||
          (if 2 ≤ x.prof.extraCount then x.prof.extra2 &&& 0x07FF else 0)
    exec (.burstSent p) s = .next (s.setPort p { x.edited with
      sender := { x.sender with onLine := none }
      exch := { x.exch with runWord := none, runCount := 0, isMatched := false, ack := false, ackSent := 0,
                            seen := false }
      status := { x.status with
        page := next
        ours := (x.status.ours.set k (x.status.ours[k].map fun c => (c &&& 0xE7FF) ||| (w &&& 0x1800))).set next
          (some built) } })

/-- BURST_SENT, the burst that completes the last page (R53, R57 to R63): roles settled, the highest rate left in the
common set, capped by the partner's page 1, takes the port to VERIFY in LOCK_WAIT; none left ends the sequence in IDLE
with NO_COMMON_RATE; a role fault, and the seventh seed clash (counter 5) of an attempt, end it in ROLE_HOLD; and the
running TRAIN job then ends DONE with NO_COMMON_RATE (4) or ROLE_FAULT (6) (R10, R14, R144) and the jobs behind it
start, while of a jobless port nothing more changes. An earlier clash restarts the exchange from page 0 with a fresh
seed, our rebuilt word showing the flags it showed (the model's choice, log entry 14). That the unpublished exchange
items are kept in VERIFY is the model's choice too (log entry 44). -/
def Obligations.ExchangeEndResolvesLink : Prop :=
  ∀ (s : State) (p : PortNo) (w : Word), s.working → s.editsClosed →
    let x := s.port p
    let k := x.status.page
    x.settled → x.sender.onLine = some w → x.status.state = .exchange → x.exch.isMatched = true →
    x.exch.ackSent = 2 → x.exch.seen = true → w.getLsbD 12 = true → (w.extractLsb' 14 2).toFin = k →
    k = 3 ∨ (x.status.ours[k].getD 0).getLsbD 13 = false ∧ (x.status.partner[k].getD 0).getLsbD 13 = false →
    s.resolves (exec (.burstSent p) s) p { x with
      sender := { x.sender with onLine := none }
      exch := { x.exch with ackSent := 3 }
      status := { x.status with
        ours := x.status.ours.set k (x.status.ours[k].map fun c => (c &&& 0xE7FF) ||| (w &&& 0x1800)) } }

/-- R58: every row of the role table, with the seeds compared as numbers; the far end takes the opposite role in every
row that settles one; settled roles go on to rate resolution. -/
def Obligations.RolesResolveByTable : Prop :=
  (∀ a b : BitVec 5,
    resolveRole .forceLead .forceLead a b = .fault ∧ resolveRole .forceFollow .forceFollow a b = .fault ∧
    (∀ c, c ≠ .forceLead → resolveRole .forceLead c a b = .settled .lead) ∧
    (∀ c, c ≠ .forceFollow → resolveRole .forceFollow c a b = .settled .follow) ∧
    (∀ c, c = .preferLead ∨ c = .preferFollow →
      resolveRole c .forceLead a b = .settled .follow ∧ resolveRole c .forceFollow a b = .settled .lead ∧
      (b.toNat < a.toNat → resolveRole c c a b = .settled .lead) ∧
      (a.toNat < b.toNat → resolveRole c c a b = .settled .follow) ∧ resolveRole c c a a = .clash) ∧
    resolveRole .preferLead .preferFollow a b = .settled .lead ∧
    resolveRole .preferFollow .preferLead a b = .settled .follow ∧
    ∀ c d role, resolveRole c d a b = .settled role → ∃ other, other ≠ role ∧ resolveRole d c b a = .settled other) ∧
  ∀ (s : State) (p : PortNo) (role : Role),
    let our0 := (s.port p).status.ours[0].getD 0
    let their0 := (s.port p).status.partner[0].getD 0
    let common := OfferWord.rates our0 &&& OfferWord.rates their0
    let kept := capRates common ((s.port p).status.partner[1].getD 0)
    resolveRole (OfferWord.claim our0) (OfferWord.claim their0) (OfferWord.seed our0) (OfferWord.seed their0) =
        .settled role →
      s.resolveLink p = match RateSet.highest kept with
        | some rate => s.updPort p fun x => x.enterVerify rate role (decide (kept ≠ common))
        | none => s.failAttempt p .noCommonRate

/-! ## The decoder (R37 to R49, R55) -/

/-- RECEIVE_TRANSITION (R37 to R39, R42) inside a calibration window: two in one sample cancel, of three the last is
taken, and so by parity of more (the model's choice, log entry 41); the first of a burst gives the first cell's value;
a later one marks its interval's bin and is read as half, full or too long against the split in force. While the
decoder is paused the command has no effect (the model's choice, log entry 23). -/
def Obligations.TransitionIsTimedAndRead : Prop :=
  ∀ (s : State) (p : PortNo) (n : Nat) (rises : List Bool) (r : Bool), s.working → s.editsClosed →
    let x := s.port p
    (rises.length % 2 = 0 → exec (.receiveTransition p n rises) s = .next s) ∧
    (s.decoderRuns p = false → exec (.receiveTransition p n rises) s = .next s) ∧
    (s.decoderRuns p = true → rises.length % 2 = 1 → rises.getLast? = some r → x.decoder.windowCount < 255 →
      (x.decoder.burst = none → exec (.receiveTransition p n rises) s = .next (s.setPort p { x with
        decoder := { x.decoder with
          burst := some ⟨[r], false, n, x.status.split, false⟩
          windowCount := x.decoder.windowCount + 1 } })) ∧
      ∀ b, x.decoder.burst = some b → b.last < n → n ≤ b.last + 16 →
        let i := n - b.last
        let taken : BurstIn → Prop := fun b' =>
          exec (.receiveTransition p n rises) s = .next (s.setPort p { x with decoder :=
            ⟨some { b' with last := n }, x.decoder.windowCount + 1, x.decoder.working ||| (1 <<< (i - 1))⟩ })
        (b.split = 0 ∨ b.bad = true → taken b) ∧
        (0 < b.split → b.bad = false →
          (2 * b.split ≤ i → taken { b with bad := true }) ∧
          (b.split ≤ i → i < 2 * b.split → b.halfPending = true → taken { b with bad := true }) ∧
          (∀ c cells, b.cells = c :: cells →
            (b.split ≤ i → i < 2 * b.split → b.halfPending = false → taken { b with cells := (!c) :: b.cells }) ∧
            (i < b.split → b.halfPending = false → taken { b with halfPending := true }) ∧
            (i < b.split → b.halfPending = true → taken { b with halfPending := false, cells := c :: b.cells }))))

/-- RECEIVE_TRANSITION, the 256th of a window (R42 to R44), first of its burst or inside one: the search of R43 over
the working map, with this interval's bin marked, finds the split, or the window fails; the map, split and flags are
published in one edit. That a burst begun by it keeps the split it found is the model's choice (log entry 16). -/
def Obligations.WindowEndDecidesSplit : Prop :=
  ∀ (s : State) (p : PortNo) (n : Nat) (rises : List Bool) (r : Bool) (m : BitVec 16) (read : BurstIn), s.working →
    s.editsClosed →
    let x := s.port p
    s.decoderRuns p = true → x.decoder.windowCount = 255 → rises.length % 2 = 1 → rises.getLast? = some r →
    (x.decoder.burst = none ∧ m = x.decoder.working ∧ read = ⟨[r], false, n, x.status.split, false⟩) ∨
      (∃ b, x.decoder.burst = some b ∧ b.last < n ∧ n ≤ b.last + 16 ∧
        m = x.decoder.working ||| (1 <<< (n - b.last - 1)) ∧
        read = { b.readInterval (n - b.last) with last := n }) →
    let found : Nat → Prop := fun g => ∃ a h : Nat, 1 ≤ a ∧ a < g ∧ g < h ∧ h ≤ 16 ∧
      (∀ i, 1 ≤ i → i < a → m.getLsbD (i - 1) = false) ∧
      (∀ i, a ≤ i → i < g → m.getLsbD (i - 1) = true) ∧ m.getLsbD (g - 1) = false ∧ m.getLsbD (h - 1) = true
    let decoder : Decoder := ⟨some read, 0, 0⟩
    (∀ g, found g → 2 ≤ g ∧ exec (.receiveTransition p n rises) s = .next (s.setPort p { x.edited with
      decoder := decoder, status := { x.status with pubMap := m, split := g, lastFailed := false } })) ∧
    ((∀ g, ¬ found g) → exec (.receiveTransition p n rises) s = .next (s.setPort p { x.edited with
      decoder := decoder
      news := if x.status.lastFailed = true then x.news else x.news ||| 16
      status := { x.status with pubMap := m, lastFailed := true, failedSince := true } }))

/-- BURST_END (R38, R40, R41, R47, R12): a burst is valid exactly when not bad, of 17 cells, the first 1, of even
parity; with split 0 it is dropped; in OFFER a valid word enters EXCHANGE; a bad burst counts (counter 1); in IDLE a
valid word is stored, and with auto-retrain on it then begins a sequence, a waiting request withdrawn. The model's
choices: with no burst in progress, or the decoder paused, there is nothing to end and the command has no effect (log
entry 23), and a stored word that is the same again makes no edit (log entry 13). -/
def Obligations.EndedBurstIsHandedOn : Prop :=
  (∀ (b : BurstIn) (w : Word), b.verdict = .valid w ↔
    b.split ≠ 0 ∧ b.bad = false ∧ b.cells.length = 17 ∧ b.cells.getLast? = some true ∧
      (∀ i : Fin 16, b.cells[i.val]? = some (w.getLsbD i.val)) ∧ OfferWord.odd w = false) ∧
  ∀ (s : State) (p : PortNo), s.working → s.editsClosed → (s.port p).settled →
    let x := s.port p
    let y : Port := { x with decoder := { x.decoder with burst := none } }
    (x.decoder.burst = none ∨ s.decoderRuns p = false → exec (.burstEnd p) s = .next s) ∧
    ∀ b, x.decoder.burst = some b → s.decoderRuns p = true →
      (b.split = 0 → exec (.burstEnd p) s = .next (s.setPort p y)) ∧
      (b.verdict = .bad → x.status.counters[1] ≠ 0xFFFF → exec (.burstEnd p) s = .next (s.setPort p
        { (y.counted 1).edited with
          exch := if x.status.state = .exchange ∧ x.exch.isMatched = false
            then { x.exch with runWord := none, runCount := 0 } else x.exch })) ∧
      ∀ w, b.verdict = .valid w →
        (x.status.state = .offer → exec (.burstEnd p) s = .next (s.setPort p { y.edited with
          status := { x.status with
            state := .exchange, sub := .none, page := 0, errPub := x.errTotal, unlockPub := x.unlockTotal }
          timers := ⟨none, some 36, none, none, none, none, none, none⟩
          lockUp := false
          monitor := ⟨0, 0, 0⟩
          exch := if w.extractLsb' 14 2 = 0 then { x.exch with runWord := some w, runCount := 1 } else x.exch })) ∧
        (x.status.state = .idle →
          let stored := x.status.partner.set (w.extractLsb' 14 2).toFin (some w)
          let z : Port := { y with status := { x.status with partner := stored } }
          (x.prof.autoRetrain = false → exec (.burstEnd p) s = .next (s.setPort p { z with
            editCount := if stored = x.status.partner then x.editCount else x.editCount + 2 })) ∧
          (x.prof.autoRetrain = true → x.jobless → exec (.burstEnd p) s =
            .next (s.setPort p (z.sequenceStarted (s.isReady (quadOf p)) false))))

/-- BURST_END with a valid word in EXCHANGE (R48 to R54): the break timer starts again. Before the match, the run
begins, grows, and at three matches the page; after it, the acknowledged word of the same content, and any word of the
next page, make the partner seen, which with three acknowledge bursts sent completes the page: the next page becomes
current, or after the last page the exchange ends and the link is resolved (R57 to R63). A late copy of the page before
passes. Other content restarts the page (counter 3), a word of a page out of step restarts the exchange from page 0,
and the fifth restart fails the attempt with EXCHANGE_UNSTABLE: BACKOFF with attempts left, else the sequence ends in
IDLE, the running TRAIN job ends DONE / GAVE_UP (3), and the jobs behind it start (R10, R144). The model's choices: a
rebuilt page shows the flags it showed (log entry 14), a stored word that is the same again makes no edit (log entry
13), the latest word of the run is the run word (log entry 43), and the unpublished exchange items are kept in VERIFY
(log entry 44). -/
def Obligations.PartnerWordIsMatched : Prop :=
  ∀ (s : State) (p : PortNo) (b : BurstIn) (w : Word), s.working → s.editsClosed → (s.port p).settled →
    let x := s.port p
    let k := x.status.page
    let n : PageNo := (w.extractLsb' 14 2).toFin
    let y : Port := { x with
      decoder := { x.decoder with burst := none }, timers := { x.timers with brk := some 36 } }
    x.decoder.burst = some b → s.decoderRuns p = true → b.verdict = .valid w → x.status.state = .exchange →
    let gives : Port → Prop := fun z => exec (.burstEnd p) s = .next (s.setPort p z)
    let unmatched : Exchange := ⟨none, 0, false, false, 0, false, x.exch.restarts + 1, x.exch.clashes⟩
    let unstable : Prop :=
      (x.status.attempts < x.prof.attemptLimit → gives ((y.counted 3).backedOff .exchangeUnstable)) ∧
      (x.prof.attemptLimit ≤ x.status.attempts →
        s.sequenceEnds (exec (.burstEnd p) s) p ((y.counted 3).failedInto .exchangeUnstable .idle) 3)
    let pageRestarts : Prop :=
      (x.exch.restarts < 4 → x.status.counters[3] ≠ 0xFFFF → gives { (y.counted 3).edited with
        exch := unmatched
        status := { (y.counted 3).status with
          partner := x.status.partner.set k none
          ours := x.status.ours.set k (some (x.content k ||| (x.status.ours[k].getD 0 &&& 0x1800))) } }) ∧
      (x.exch.restarts = 4 → unstable)
    let exchangeRestarts : Prop :=
      (x.exch.restarts < 4 → x.status.counters[3] ≠ 0xFFFF → gives { (y.counted 3).edited with
        exch := unmatched
        status := { (y.counted 3).status with
          page := 0, partner := Vector.replicate 4 none
          ours := (Vector.replicate 4 none).set 0
            (some (x.content 0 ||| (x.status.ours[0].getD 0 &&& 0x1800))) } }) ∧
      (x.exch.restarts = 4 → unstable)
    let seen : Prop :=
      (x.exch.ackSent < 3 → gives { y with exch := { x.exch with seen := true } }) ∧
      (∀ next : PageNo, 3 ≤ x.exch.ackSent → next.val = k.val + 1 → x.status.ours[next] = none →
        (x.status.ours[k].getD 0).getLsbD 13 = true ∨ (x.status.partner[k].getD 0).getLsbD 13 = true →
        gives { y.edited with
          exch := ⟨none, 0, false, false, 0, false, x.exch.restarts, x.exch.clashes⟩
          status := { x.status with page := next, ours := x.status.ours.set next (some (x.content next)) } }) ∧
      (3 ≤ x.exch.ackSent →
        k = 3 ∨ (x.status.ours[k].getD 0).getLsbD 13 = false ∧ (x.status.partner[k].getD 0).getLsbD 13 = false →
        s.resolves (exec (.burstEnd p) s) p { y with exch := { x.exch with seen := true } })
    (n.val + 1 = k.val → gives y) ∧
    (n.val + 1 < k.val ∨ k.val + 1 < n.val ∨ n.val = k.val + 1 ∧ x.exch.isMatched = false → exchangeRestarts) ∧
    (n = k → x.exch.isMatched = false →
      (x.exch.runWord = none → gives { y with exch := { x.exch with runWord := some w, runCount := 1 } }) ∧
      ∀ r, x.exch.runWord = some r →
        (r &&& 0xE7FF = w &&& 0xE7FF → x.exch.runCount = 1 →
          gives { y with exch := { x.exch with runWord := some w, runCount := 2 } }) ∧
        (r &&& 0xE7FF = w &&& 0xE7FF → x.exch.runCount = 2 → gives { y with
          exch := { x.exch with runWord := some w, runCount := 3, isMatched := true, ack := true, ackSent := 0,
                                seen := w.getLsbD 12 }
          status := { x.status with partner := x.status.partner.set k (some w) }
          editCount := if x.status.partner[k] = some w then x.editCount else x.editCount + 2 }) ∧
        (r &&& 0xE7FF ≠ w &&& 0xE7FF → pageRestarts)) ∧
    (n = k → x.exch.isMatched = true → ∀ r, x.status.partner[k] = some r →
      (r &&& 0xE7FF = w &&& 0xE7FF → w.getLsbD 12 = false → gives y) ∧
      (r &&& 0xE7FF = w &&& 0xE7FF → w.getLsbD 12 = true → seen) ∧
      (r &&& 0xE7FF ≠ w &&& 0xE7FF → pageRestarts)) ∧
    (n.val = k.val + 1 → x.exch.isMatched = true → seen)

/-- EXCHANGE_BREAK (R55): the break is counted (counter 4), and the port is back in OFFER at page 0 within the attempt,
our page-0 word, the restart and clash counts and the burst schedule as they were, the offer timer started again. The
model's choices: a break that is not due has no effect (log entry 3), and the count of acknowledge bursts is set to 0
with the other exchange state (log entry 39). -/
def Obligations.ExchangeBreakReturnsToOffer : Prop :=
  ∀ (s : State) (p : PortNo), s.working → s.editsClosed →
    let x := s.port p
    (x.status.state ≠ .exchange ∨ x.timers.brk ≠ some 0 → exec (.exchangeBreak p) s = .next s) ∧
    (x.status.state = .exchange → x.timers.brk = some 0 → exec (.exchangeBreak p) s = .next (s.setPort p
      { (x.counted 4).edited with
        status := { (x.counted 4).status with
          state := .offer, sub := .none, page := 0, partner := Vector.replicate 4 none
          ours := (Vector.replicate 4 none).set 0 x.status.ours[0]
          errPub := x.errTotal, unlockPub := x.unlockTotal }
        timers := ⟨if x.prof.offerTimeout = 0 then none else some x.prof.offerTimeout, none, none, none, none, none,
          none, none⟩
        exch := ⟨none, 0, false, false, 0, false, x.exch.restarts, x.exch.clashes⟩
        lockUp := false
        monitor := ⟨0, 0, 0⟩ }))

/-! ## Verification and monitoring (R65 to R80) -/

/-- LOCK_RISE (R67, R78), LOCK_FALL in LINKED (R78) and ERROR_EVENT (R65, R69, R77, R79), by state and phase; discarded
while the line mode is not DATA, and errors in LOCK_WAIT too. That a lock blip makes its edit with counter 10 saturated
as well is the model's choice (log entry 13). -/
def Obligations.LockAndErrorEvents : Prop :=
  ∀ (s : State) (p : PortNo), s.working → s.editsClosed →
    let x := s.port p
    let total := x.errTotal + 1
    let news := if total = 0 then x.news ||| 0x80 else x.news
    (x.status.state ≠ .verify → x.status.state ≠ .linked → exec (.lockRise p) s = .next s ∧
      exec (.lockFall p) s = .next s ∧ exec (.errorEvent p) s = .next s) ∧
    (s.engineOf p = none → x.status.state = .verify → x.status.sub = .lockWait →
      exec (.errorEvent p) s = .next s ∧
      (x.lockUp = false → exec (.lockRise p) s = .next (s.setPort p { x.edited with
        lockUp := true
        status := { x.status with sub := .window }
        monitor := { x.monitor with verifyCount := 0 }
        timers := ⟨none, none, none, some x.prof.verifyWindow, none, none, none, none⟩ }))) ∧
    (s.engineOf p = none → x.status.state = .verify → x.status.sub = .window → exec (.errorEvent p) s =
      .next (s.setPort p { x with
        errTotal := total, news := news
        monitor := { x.monitor with verifyCount := oneMore x.monitor.verifyCount } })) ∧
    (s.engineOf p = none → x.status.state = .linked →
      exec (.errorEvent p) s = .next (s.setPort p { x with
        errTotal := total, news := news, monitor := { x.monitor with count := oneMore x.monitor.count } }) ∧
      (x.lockUp = true → exec (.lockFall p) s = .next (s.setPort p { x with
        lockUp := false, timers := { x.timers with drop := some x.prof.dropHold } })) ∧
      (x.lockUp = false → exec (.lockRise p) s = .next (s.setPort p { (x.counted 10).edited with
        lockUp := true
        timers := { x.timers with drop := none }
        status := { (x.counted 10).status with errPub := x.errTotal, unlockPub := x.unlockTotal } })))

/-- VERIFY_WINDOW_END at or below the threshold (R71, R76): LINKED, with an UP record, link ups (counter 8) counted, the
monitor started and LINK_UP (bit 1) raised; the running TRAIN job ends DONE / LINKED (1) with JOB_DONE, and the jobs
behind it start, through a HOLD and a DIAGNOSE that may not break the link (R144 step 6, R143). That the unpublished
exchange items are kept in LINKED is the model's choice (log entry 44). -/
def Obligations.VerifiedPortIsLinked : Prop :=
  ∀ (s : State) (p : PortNo), s.working → s.editsClosed → (s.port p).history.length ≤ 4 →
    let x := s.port p
    let y := (x.recorded s.tick none x.link).counted 8
    x.status.state = .verify → x.timers.verify = some 0 → x.monitor.verifyCount.toNat ≤ x.prof.verifyThreshold →
      s.sequenceEnds (exec (.verifyWindowEnd p) s) p { y with
        news := x.news ||| 2
        status := { y.status with
          state := .linked, sub := .none, lastResult := .linked, errPub := x.errTotal, unlockPub := x.unlockTotal }
        timers := ⟨none, none, none, none, some x.prof.monitorWindow, none, none, none⟩
        sender := ⟨none, false, none⟩
        decoder := { x.decoder with burst := none }
        monitor := ⟨0, 0, 0⟩ } 1

/-- MONITOR_WINDOW_END (R77, R80): a good window empties the bad-window run, a bad one adds to it, and at the limit the
link drops with ERRORS, charged (R73, R74). DROP_HOLD_EXPIRY (R78, R80): the link drops with LOCK_LOST, uncharged.
Either drop goes into IDLE with auto-retrain off, and into a new sequence with it on, through CHECK with precheck QUICK.
That a monitor window's end makes its edit with the totals unchanged as well is the model's choice (log entry 13), and
so it is that a drop discards the unpublished exchange items (log entry 44). -/
def Obligations.LinkMonitorKeepsOrDropsLink : Prop :=
  ∀ (s : State) (p : PortNo), s.working → s.editsClosed → (s.port p).history.length ≤ 4 → (s.port p).jobless →
    let x := s.port p
    let next : Nat → Port := fun run => { x.edited with
      monitor := { x.monitor with count := 0, badRun := run }
      timers := { x.timers with monitor := some x.prof.monitorWindow }
      status := { x.status with errPub := x.errTotal, unlockPub := x.unlockTotal } }
    let goesOn : Port → Port := fun y =>
      if x.prof.autoRetrain = true then y.sequenceStarted (s.isReady (quadOf p)) false else (y.leftFor .idle).edited
    x.status.state = .linked →
    (x.timers.monitor = some 0 →
      (x.monitor.count.toNat < x.prof.monitorThreshold →
        exec (.monitorWindowEnd p) s = .next (s.setPort p (next 0))) ∧
      (x.prof.monitorThreshold ≤ x.monitor.count.toNat → x.monitor.badRun + 1 < x.prof.badLimit →
        exec (.monitorWindowEnd p) s = .next (s.setPort p (next (x.monitor.badRun + 1)))) ∧
      (x.prof.monitorThreshold ≤ x.monitor.count.toNat → x.prof.badLimit ≤ x.monitor.badRun + 1 →
        exec (.monitorWindowEnd p) s = .next (s.setPort p
          (goesOn ((x.dropped s.tick .errors x.link).charge x.link.rate))))) ∧
    (x.timers.drop = some 0 →
      exec (.dropHoldExpiry p) s = .next (s.setPort p (goesOn (x.dropped s.tick .lockLost x.link))))

/-! ## Readiness and the arbiter (R3, R4, R107 to R116) -/

/-- READINESS_FALL and READINESS_RISE (R3, R4, R116): a change of level changes the flag, and outside RUNNING the flag
alone. A fall leaves ports without attempt, link or measurement alone; it fails an attempt with FRONT_END: BACKOFF with
attempts left, else the sequence ends in IDLE, the running TRAIN job ends DONE / GAVE_UP (3), and the jobs behind it
start (R10, R144); it drops a link with FRONT_END, into a new sequence or IDLE; it aborts a measurement (R105, R106), in
CHECK with a partial report flagged FRONT_END (16) and a new request, in PROBE with that report and the end DONE /
REPORTED (7) of the DIAGNOSE, behind which the next jobs start, in IDLE and CABLE_HOLD with no report. A rise applies
the grant rule, which with no engine free or no request grants nothing. A fall where the flag is down, or a rise where
it is up, cannot occur and has no effect (the model's choice, log entry 23). That a drop discards the unpublished
exchange items is the model's choice (log entry 44). -/
def Obligations.ReadinessChangesAct : Prop :=
  ∀ (s : State) (q : QuadNo), s.resetPin = false → s.editsClosed →
    let calm : PortNo → Prop := fun p => (s.port p).settled ∧
      ((s.port p).status.state = .disabled ∨ (s.port p).status.state = .backoff ∨
        (s.port p).status.state = .roleHold ∨
        s.engineOf p = none ∧ ((s.port p).status.state = .check ∨ (s.port p).status.state = .probe ∨
          (s.port p).status.state = .idle ∨ (s.port p).status.state = .cableHold))
    (s.isReady q = false → exec (.readinessFall q) s = .next s) ∧
    (s.isReady q = true → exec (.readinessRise q) s = .next s) ∧
    (s.isReady q = true → s.runState ≠ .running → exec (.readinessFall q) s = .next (s.setReady q false)) ∧
    (s.isReady q = false → s.runState ≠ .running → exec (.readinessRise q) s = .next (s.setReady q true)) ∧
    (s.isReady q = true → s.runState = .running → (∀ p, quadOf p = q → calm p) →
      exec (.readinessFall q) s = .next (s.setReady q false)) ∧
    (∀ p, s.isReady q = true → s.runState = .running → quadOf p = q → (∀ p', quadOf p' = q → p' ≠ p → calm p') →
      let x := s.port p
      (x.status.state = .offer ∨ x.status.state = .exchange ∨ x.status.state = .verify → x.settled →
        x.status.attempts < x.prof.attemptLimit →
        exec (.readinessFall q) s = .next ((s.setReady q false).setPort p (x.backedOff .frontEnd))) ∧
      (x.status.state = .offer ∨ x.status.state = .exchange ∨ x.status.state = .verify → x.settled →
        x.prof.attemptLimit ≤ x.status.attempts → (s.setReady q false).sequenceEnds (exec (.readinessFall q) s) p
          (x.failedInto .frontEnd .idle) 3) ∧
      (x.status.state = .linked → x.jobless → x.history.length ≤ 4 →
        exec (.readinessFall q) s = .next ((s.setReady q false).setPort p
          (if x.prof.autoRetrain = true then (x.dropped s.tick .frontEnd x.link).sequenceStarted false false
            else ((x.dropped s.tick .frontEnd x.link).leftFor .idle).edited))) ∧
      ∀ e m, s.memOk → s.measures e m p →
        let y := x.reported (m.reportWith (m.flags ||| 16) s.tick)
        let fallen : State → List CellNo → Prop := fun t cells => exec (.readinessFall q) s = .next t ∧
          t = { s.setReady q false with
            mem := t.mem, custody := t.custody, engines := t.engines, grants := t.grants, claims := t.claims
            requests := t.requests, ports := s.ports.set p (t.port p) } ∧
          (s.setReady q false).releasedIn t e p ∧ s.memKeptFreeing t cells m.filling ∧
          ∀ c, c ∉ cells → t.custodyOf c = s.custodyOf c
        (x.status.state = .check → x.settled → ∃ t, fallen t [] ∧ t.port p = { y.edited with
          request := some .precheck, outbox := x.outbox ++ [.request .precheck] }) ∧
        (∀ j later, x.status.state = .probe → x.jobs = j :: later →
          let v := y.jobEnded.resumed false
          s.canRunOn v later → ∃ t, fallen t (j.cell :: startedCells v later) ∧
            t.cellEnded j.cell 4 7 0 j.start s.tick ∧ (s.setReady q false).runsOn t p later v) ∧
        (x.status.state = .idle ∨ x.status.state = .cableHold → x.settled → ∃ t, fallen t [] ∧ t.port p = x)) ∧
    (s.isReady q = false → s.runState = .running →
      exec (.readinessRise q) s = .next (s.setReady q true).applyGrantRule) ∧
    (s.isReady q = false → s.runState = .running →
      s.requests = [] ∨ (∀ e, (s.engine e).meas ≠ none ∨ s.grant e ≠ none) →
      exec (.readinessRise q) s = .next (s.setReady q true)) ∧
    (∀ r, s.isReady q = false → s.runState = .running → s.requests = [r] → quadOf r.port = q → s.claimed q = false →
      (s.engine 0).meas = none → s.grant 0 = none → exec (.readinessRise q) s = .next
        ((({ s with requests := [] } : State).setReady q true).setGrant 0 (some ⟨r, false⟩) |>.setClaim q true))

/-- POST_REQUEST (R107, R108, R110, R111): the request goes to the tail of the list with the present tick, JOB and
PRECHECK FIRST, WATCH SECOND, and the grant rule is applied; alone and eligible it is granted at once the lowest free
engine, and its quad is claimed. The grant rule grants the lowest free engine to the oldest eligible request of the best
class, and again, until no engine is free beside an eligible request. The model's choices: with no request on the way
the command has no effect (log entry 23), and each request takes the next place number (log entry 10). -/
def Obligations.PostedRequestIsListedOrGranted : Prop :=
  (∀ (s : State) (p : PortNo) (k : ReqKind) (rest : List PortMsg), s.working → s.editsClosed →
    (s.port p).outbox = .request k :: rest →
    let r : Request := ⟨p, k, if k = .watch then .second else .first, s.tick, s.nextPlace⟩
    let sent := s.setPort p { s.port p with outbox := rest }
    exec (.postRequest p) s =
      .next ({ sent with requests := s.requests ++ [r], nextPlace := s.nextPlace + 1 } : State).applyGrantRule ∧
    ((∀ e, (s.engine e).meas ≠ none ∨ s.grant e ≠ none) → exec (.postRequest p) s =
      .next { sent with requests := s.requests ++ [r], nextPlace := s.nextPlace + 1 }) ∧
    (s.requests = [] → s.claimed (quadOf p) = true ∨ s.isReady (quadOf p) = false → exec (.postRequest p) s =
      .next { sent with requests := [r], nextPlace := s.nextPlace + 1 }) ∧
    (∀ e : EngineNo, s.requests = [] → s.claimed (quadOf p) = false → s.isReady (quadOf p) = true →
      (s.engine e).meas = none → s.grant e = none → (∀ f, f < e → (s.engine f).meas ≠ none ∨ s.grant f ≠ none) →
      exec (.postRequest p) s = .next ((({ sent with nextPlace := s.nextPlace + 1 } : State).setGrant e
        (some ⟨r, false⟩)).setClaim (quadOf p) true))) ∧
  (∀ (s : State) (p : PortNo), s.working → s.editsClosed → (s.port p).outbox = [] →
    exec (.postRequest p) s = .next s) ∧
  (∀ s : State, s.applyGrantRule.grantsDone ∧ (s.grantsDone → s.applyGrantRule = s) ∧
    ∀ e before r after, s.isFree e → (∀ f, f < e → ¬ s.isFree f) → s.requests = before ++ r :: after → s.grantable r →
      (r.cls = .first → ∀ r' ∈ before, r'.cls = .first → ¬ s.grantable r') →
      (r.cls = .second → (∀ r' ∈ before, ¬ s.grantable r') ∧ ∀ r' ∈ after, r'.cls = .first → ¬ s.grantable r') →
      s.applyGrantRule = (s.granting e r).applyGrantRule) ∧
  ∀ (s : State) (r : Request), s.pickRequest = some r → ∃ before after, s.requests = before ++ r :: after ∧
    s.eligible r = true ∧ (r.cls = .first → ∀ r' ∈ before, r'.cls = .first → s.eligible r' = false) ∧
    (r.cls = .second → (∀ r' ∈ before, s.eligible r' = false) ∧
      ∀ r' ∈ s.requests, r'.cls = .first → s.eligible r' = false)

/-- WITHDRAWAL (R114): a listed request leaves the list; an unaccepted grant is turned back, the claim ended and the
engine's unused grants counted, and the grant rule is applied (R111); else it is ignored. WATCH_REQUEST_RAISE (R109): a
WATCH request that has waited longer than a non-zero interval becomes FIRST, its place and arrival tick kept; that it is
judged only when commanded is the model's choice (log entry 38). -/
def Obligations.WithdrawalAndRaise : Prop :=
  ∀ (s : State) (p : PortNo), s.working → s.editsClosed →
    (∀ rest, (s.port p).outbox = .withdraw :: rest →
      let sent := s.setPort p { s.port p with outbox := rest }
      ((∃ r ∈ s.requests, r.port = p) → exec (.withdrawal p) s =
        .next ({ sent with requests := s.requests.filter fun r => decide (r.port ≠ p) } : State).applyGrantRule) ∧
      (∀ (e : EngineNo) (r : Request), (∀ r' ∈ s.requests, r'.port ≠ p) → s.grant e = some ⟨r, false⟩ → r.port = p →
        (∀ f g, f < e → s.grant f = some g → g.request.port ≠ p) →
        exec (.withdrawal p) s = .next (sent.turnedBack e p).applyGrantRule) ∧
      ((∀ r ∈ s.requests, r.port ≠ p) → (∀ e g, s.grant e = some g → g.request.port ≠ p) →
        exec (.withdrawal p) s = .next sent)) ∧
    (s.watchInterval = 0 → exec (.watchRequestRaise p) s = .next s) ∧
    (s.watchInterval ≠ 0 → exec (.watchRequestRaise p) s = .next { s with
      requests := s.requests.map fun r =>
        if r.port = p ∧ r.kind = .watch ∧ s.watchInterval.toNat < (s.tick - r.arrival).toNat
        then { r with cls := .first } else r })

/-! ## Engines (R84 to R100) -/

/-- GRANT_TAKEN (R112, R84 to R88): an unaccepted grant of a standing request whose quad is ready loads: recipe (the
job's, or the quick recipe for all four pairs), sequence number, start tick, velocity, pattern copied chip by chip,
first pair in QUIET_CHECK, with the lowest free slab for a trace or TRACE_SHORT (1) and SLAB_EXHAUSTED (2), the port's
request answered and its burst dropped. Where the load check fails, RECIPE_FAULT (8) is raised and the engine released:
a JOB's report flagged LOAD_FAULT (8) ends the DIAGNOSE REPORTED (7) and the jobs behind it start, a PRECHECK's is
followed by the start of an attempt with all rates qualified, for which a TRAIN job that began the sequence runs on, a
WATCH writes none. With the quad not ready it is turned back, the request returns to
its place in the list, and the grant rule is applied; a withdrawn one is ignored, which is one whose withdrawal is still
on its way (the model's choice, log entry 9). -/
def Obligations.GrantLoadsEngine : Prop :=
  ∀ (s : State) (e : EngineNo) (r : Request), s.working → s.editsClosed → s.grant e = some ⟨r, false⟩ →
    let p := r.port
    let x := s.port p
    (x.request = none ∨ PortMsg.withdraw ∈ x.outbox → exec (.grantTaken e) s = .next s) ∧
    (x.request ≠ none → PortMsg.withdraw ∉ x.outbox → s.isReady (quadOf p) = false →
      ∃ before after, s.requests = before ++ after ∧ (∀ r' ∈ before, r'.place ≤ r.place) ∧
        (∀ r', after.head? = some r' → r.place < r'.place) ∧ exec (.grantTaken e) s =
          .next ({ s with requests := before ++ r :: after }.turnedBack e p).applyGrantRule) ∧
    ∀ recipe source tag, x.request ≠ none → PortMsg.withdraw ∉ x.outbox → s.isReady (quadOf p) = true →
      (∀ i t, r.kind = .job i t → recipe = i ∧ source = .job ∧ tag = some t) →
      (r.kind = .precheck ∨ r.kind = .watch → tag = none ∧ recipe =
        { Recipe.ofWords (fun i => s.readMem (0x0040 + i)) with pairSet := 15, trace := false }) →
      (r.kind = .precheck → source = .precheck) → (r.kind = .watch → source = .watch) →
      let base := 0x7C00 + 128 * recipe.pattern.val
      let seq : Word := if x.reportCount = 0xFFFF then 1 else x.reportCount + 1
      let passes := 50 ≤ (s.readMem 0x0031).toNat ∧ (s.readMem 0x0031).toNat ≤ 90 ∧ 1 ≤ (s.readMem base).toNat ∧
        (s.readMem base).toNat ≤ 2032 ∧ (source = .job ∨ recipe.valid = true)
      let y : Port := { x with request := none, reportCount := seq, decoder := { x.decoder with burst := none } }
      (∀ self chips, passes → firstPair recipe = some self → chips.length = (s.readMem base).toNat →
        (∀ i, i < chips.length → chips[i]? = some ((s.readMem (base + 1 + i / 16)).getLsbD (15 - i % 16))) →
        let loaded : State → Option SlabNo → BitVec 5 → State := fun s slab flags =>
          ((s.setGrant e (some ⟨r, true⟩)).setEngine e
            { s.engine e with meas := some (⟨p, source, tag, recipe, s.readMem 0x0031, seq, s.tick, chips, some self,
                .quietCheck 0 .capturing, slab, ⟨none, none, none, none⟩, flags⟩ : Measurement) }).setPort p y
        let open_ : SlabNo → Prop := fun k => s.readMem (ownerAddr k) = 0 ∧
          ∀ f n, f ≠ e → (s.engine f).meas = some n → n.filling ≠ some k
        (recipe.trace = false → exec (.grantTaken e) s = .next (loaded s none 0)) ∧
        (∀ k, recipe.trace = true → s.memOk → open_ k → (∀ k', k' < k → ¬ open_ k') →
          exec (.grantTaken e) s = .next { loaded s (some k) 0 with mem := s.mem.write (ownerAddr k) 1 }) ∧
        (recipe.trace = true → (∀ k, ¬ open_ k) →
          exec (.grantTaken e) s = .next { loaded s none 1 with globalNews := s.globalNews ||| 2 })) ∧
      (¬ passes → s.memOk →
        let z := y.reported ⟨seq, some source, tag, s.tick, s.tick, s.readMem 0x0031, 8,
          Pairs.all ⟨.notTested, none, 0, none, 0, none⟩⟩
        let fails : State → List CellNo → Prop := fun t cells =>
          exec (.grantTaken e) s = .next t ∧ t = { s with
            mem := t.mem, custody := t.custody, engines := t.engines, grants := t.grants, claims := t.claims
            requests := t.requests, globalNews := s.globalNews ||| 8, ports := s.ports.set p (t.port p) } ∧
          s.releasedIn t e p ∧ s.memKeptFreeing t cells none ∧ ∀ c, c ∉ cells → t.custodyOf c = s.custodyOf c
        (∀ j later, source = .job → x.status.state = .probe → x.jobs = j :: later →
          let v := z.jobEnded.resumed true
          s.canRunOn v later → (later = [] ∨ s.engineOf p = none) →
          ∃ t, fails t (j.cell :: startedCells v later) ∧ t.cellEnded j.cell 4 7 0 j.start s.tick ∧
            s.runsOn t p later v) ∧
        (source = .precheck → x.status.state = .check → x.jobless ∨ x.settled ∧ x.status.offerSet ≠ 0 →
          ∃ t, fails t [] ∧
            t.port p = ({ z with status := { z.status with qualSet := 15 } } : Port).attemptStarted true) ∧
        (source = .watch → ∃ t, fails t [] ∧ t.port p = y))

/-- QUIET_TRY_START and QUIET_TRY (R90, R91): the try due at a tick begins; a try none of whose 128 outputs reaches
half of full scale ends the check and enters SHOOTING with accumulators of 0; a busy one waits for the next tick; a
third busy one records the pair NOISY with the largest output, the earliest and lowest channel on a tie, its slab goes
back to FREE, and the next pair starts, traced with the lowest free slab (R88, R89), or after the last the measurement
ends (R87, R102, R122, R130). A peak that does not fit the report's word is a free value (log entry 12). -/
def Obligations.QuietCheckPassesOrEndsNoisy : Prop :=
  ∀ (s : State) (e : EngineNo) (m : Measurement) (n : Nat) (self : Pair) (bits : EchoBits), s.working → s.editsClosed →
    (s.engine e).meas = some m →
    let held : Measurement → State := fun m' => s.setEngine e { s.engine e with meas := some m' }
    let out : Pair → Nat → Int := fun q j =>
      sinc (EchoBits.get bits q) m.recipe.decimation m.recipe.order ((j + 1) * m.recipe.decimation - 1)
    let busy := ∃ q j, j < 32 ∧ m.recipe.decimation ^ m.recipe.order ≤ 2 * (out q j).natAbs
    let isPeak : Word → Prop := fun peak => ∀ q j, j < 32 →
      (∀ q' j', j' < 32 → (out q' j').natAbs < (out q j).natAbs ∨
        (out q' j').natAbs = (out q j).natAbs ∧ (j < j' ∨ j = j' ∧ q.code ≤ q'.code)) →
      -32768 ≤ out q j → out q j ≤ 32767 → peak = BitVec.ofInt 16 (out q j)
    let noisy : Word → Option PairResult := fun peak => some ⟨.noisy, none, peak, none, 3, none⟩
    (m.phase = .quietCheck n .due → exec (.quietTryStart e) s =
      .next (held { m with phase := .quietCheck n .capturing })) ∧
    (m.phase = .quietCheck n .capturing → m.pair = some self →
      (¬ busy → exec (.quietTry e bits) s = .next (held { m with
        phase := .shooting (n + 1) 0 (Pairs.all (List.replicate m.recipe.window 0)) })) ∧
      (busy → n < 2 → exec (.quietTry e bits) s =
        .next (held { m with phase := .quietCheck (n + 1) .waiting })) ∧
      (∀ after, busy → n = 2 → m.filling = none → m.recipe.trace = false → nextPair m.recipe self = some after →
        ∃ t peak, exec (.quietTry e bits) s = .next t ∧ isPeak peak ∧
          t = { held { m with
            results := m.results.set self (noisy peak)
            pair := some after, phase := .quietCheck 0 .capturing } with freeCount := t.freeCount }) ∧
      (∀ after k, busy → n = 2 → m.filling = some k → m.recipe.trace = true → nextPair m.recipe self = some after →
        s.memOk → s.grantsOk → ∃ t peak next, exec (.quietTry e bits) s = .next t ∧ isPeak peak ∧
          t = { held { m with
            results := m.results.set self (noisy peak), filling := some next
            pair := some after, phase := .quietCheck 0 .capturing } with freeCount := t.freeCount, mem := t.mem } ∧
          next ≤ k ∧ t.readMem (ownerAddr next) = 1 ∧ (next ≠ k → t.readMem (ownerAddr k) = 0) ∧
          (next ≠ k → s.readMem (ownerAddr next) = 0) ∧
          (∀ a, a ≠ ownerAddr next → a ≠ ownerAddr k → t.readMem a = s.readMem a) ∧
          ∀ lower, lower < next → s.readMem (ownerAddr lower) ≠ 0 ∨ s.slabFilling lower = true) ∧
      ∀ g, busy → n = 2 → nextPair m.recipe self = none → s.memOk → s.grant e = some g → g.request.port = m.holder →
        ∃ peak, isPeak peak ∧
          s.measurementEnds (.quietTry e bits) e m (m.results.set self (noisy peak)) m.flags
            fun t cells => s.memKeptFreeing t cells m.filling)

/-- SHOT (R92 to R94, R86): each channel's output at each position of the window is added to its accumulator, and the
last shot enters FINISHING; the filter of order 0 is the bit's value, each further order sums the one before over D
successive offsets, periods before period 0 counting 0, and the output is D^k-bounded, D^k for a steady run of 1 bits
once the filter is full. While it is SHOOTING the engine with its recipe in range (R121) drives the pair under test
alone, each chip held for the chip divider from capture period 0; it drives nothing after the last chip, in the quiet
check, or in FINISHING, and no engine drives the line of a port it does not hold. -/
def Obligations.ShotAddsFilteredOutputs : Prop :=
  (∀ (s : State) (e : EngineNo) (m : Measurement) (n k : Nat) (acc : Pairs Accumulators) (bits : EchoBits),
    s.working → s.editsClosed → (s.engine e).meas = some m → m.phase = .shooting n k acc →
    (∀ q, (acc.get q).length = m.recipe.window) →
    ∃ acc' : Pairs Accumulators,
      (∀ q, (acc'.get q).length = m.recipe.window ∧ ∀ j, j < m.recipe.window → (acc'.get q)[j]? =
        ((acc.get q)[j]?).map fun v => v + BitVec.ofInt 32
          (sinc (EchoBits.get bits q) m.recipe.decimation m.recipe.order ((j + 1) * m.recipe.decimation - 1))) ∧
      exec (.shot e bits) s = .next (s.setEngine e { s.engine e with meas := some { m with
        phase := if m.recipe.shots ≤ k + 1 then .finishing n acc' else .shooting n (k + 1) acc' } })) ∧
  (∀ x d k t : Nat, (sinc x d k t).natAbs ≤ d ^ k ∧
    ((∀ i, i ≤ t → x.testBit i = true) → k * (d - 1) ≤ t → sinc x d k t = (d ^ k : Nat)) ∧
    sinc x d 0 t = (if x.testBit t then 1 else -1) ∧
    sinc x d (k + 1) t = ((List.range d).map fun i => if i ≤ t then sinc x d k (t - i) else 0).sum) ∧
  ∀ (s : State) (p : PortNo) (q : Pair) (t : Nat),
    (s.engineOf p = none → s.pulseOn p q t = none) ∧
    ∀ e m, s.grantsOk → (s.engine e).meas = some m → m.holder = p → m.recipe.valid = true →
      ((∀ n k acc, m.phase ≠ .shooting n k acc) ∨ m.pair ≠ some q ∨ m.pattern.length * m.recipe.chipDivider ≤ t →
        s.pulseOn p q t = none) ∧
      ∀ n k acc i, m.phase = .shooting n k acc → m.pair = some q → i * m.recipe.chipDivider ≤ t →
        t < (i + 1) * m.recipe.chipDivider → s.pulseOn p q t = m.pattern[i]?

/-- PAIR_COMPLETION (R95, R99, R100, R87): the pair's result is recorded, SATURATED set by the self channel alone, and
the measurement goes on to its next pair. A traced pair's scaled self channel stands in its slab, with the table entry,
the slab is HELD and leaves the filling set; a traced measurement starts its next pair with the lowest slab that is
FREE and filling nowhere, or without one sets TRACE_SHORT (1) and raises SLAB_EXHAUSTED (bit 1) (R88). -/
def Obligations.CompletedPairIsRecordedAndTraced : Prop :=
  ∀ (s : State) (e : EngineNo) (m : Measurement) (n : Nat) (acc : Pairs Accumulators) (self : Pair),
    s.working → s.editsClosed → s.memOk → (s.engine e).meas = some m → m.phase = .finishing n acc → m.pair = some self →
    let vs : Pairs (List Int) := acc.map fun l =>
      l.map fun v => max (-32768) (min (v.toInt / 2 ^ m.recipe.shift) 32767)
    let saturated := ∃ v ∈ acc.get self, v.toInt / 2 ^ m.recipe.shift < -32768 ∨ 32767 < v.toInt / 2 ^ m.recipe.shift
    (∀ after flags, nextPair m.recipe self = some after →
      (saturated → flags = m.flags ||| 2) → (¬ saturated → flags = m.flags) →
      let goesOn : Option SlabNo → BitVec 5 → State := fun next flags =>
        s.setEngine e { s.engine e with meas := some { m with
          results := m.results.set self (some (pairResult m.recipe m.velocity self n m.filling vs))
          filling := next, flags := flags, pair := some after, phase := .quietCheck 0 .capturing } }
      let isOpen : SlabNo → Prop := fun k => s.readMem (ownerAddr k) = 0 ∧ s.slabFilling k = false
      (m.filling = none → m.recipe.trace = false → exec (.pairCompletion e) s = .next (goesOn none flags)) ∧
      (m.recipe.trace = true → s.grantsOk →
        (∀ k, isOpen k → (∀ k', k' < k → ¬ isOpen k') → ∃ t, exec (.pairCompletion e) s = .next t ∧
          t = { goesOn (some k) flags with mem := t.mem } ∧ t.readMem (ownerAddr k) = 1 ∧
          ∀ a, a ≠ ownerAddr k → (∀ own, m.filling = some own → ¬ inSlab own a) → t.readMem a = s.readMem a) ∧
        ((∀ k, ¬ isOpen k) → ∃ t, exec (.pairCompletion e) s = .next t ∧
          t = { goesOn none (flags ||| 1) with mem := t.mem, globalNews := s.globalNews ||| 2 } ∧
          ∀ a, (∀ own, m.filling = some own → ¬ inSlab own a) → t.readMem a = s.readMem a))) ∧
    ∀ k : SlabNo, s.grantsOk → m.filling = some k → (vs.get self).length ≤ 512 →
      ∃ t, exec (.pairCompletion e) s = .next t ∧ s.traced t k m self (vs.get self)

/-- PAIR_COMPLETION of the last pair (R101 to R104, R115): the measurement ends with its results, SATURATED set by the
self channel alone; where a slab is filling, the trace stands in it, named by the pair's result, and it stays HELD
(R99). A DIAGNOSE job ends DONE / REPORTED (7) and the port resumes (R144, R17); a PRECHECK sets the qualified set and
is followed by the start of an attempt, or by CABLE_HOLD with CABLE_FAULT (5) (R122); behind the job that ends the next
jobs start (R144 step 6, R143); a WATCH is compared with the latest report, and may begin a sequence (R130, R131). An
edit for a pass whose counter is saturated is the model's choice (log entry 13). -/
def Obligations.LastPairEndsDiagnose : Prop :=
  ∀ (s : State) (e : EngineNo) (m : Measurement) (g : Grant) (n : Nat) (acc : Pairs Accumulators) (self : Pair)
    (flags : BitVec 5), s.working → s.editsClosed → s.memOk → (s.engine e).meas = some m → s.grant e = some g →
    g.request.port = m.holder → m.phase = .finishing n acc → m.pair = some self → nextPair m.recipe self = none →
    let vs : Pairs (List Int) := acc.map fun l =>
      l.map fun v => max (-32768) (min (v.toInt / 2 ^ m.recipe.shift) 32767)
    let saturated := ∃ v ∈ acc.get self, v.toInt / 2 ^ m.recipe.shift < -32768 ∨ 32767 < v.toInt / 2 ^ m.recipe.shift
    let result := pairResult m.recipe m.velocity self n m.filling vs
    (saturated → flags = m.flags ||| 2) → (¬ saturated → flags = m.flags) →
      s.measurementEnds (.pairCompletion e) e m (m.results.set self (some result)) flags fun t cells =>
        (∀ a, (∀ c ∈ cells, ¬ inCellHead c a) → (∀ k, m.filling = some k → ¬ inSlab k a) → t.readMem a = s.readMem a) ∧
          ∀ k, m.filling = some k → (vs.get self).length ≤ 512 → s.traced t k m self (vs.get self)

/-- R98: the distance in decimetres of a pair found OPEN, SHORT, IMPEDANCE_HIGH, IMPEDANCE_LOW or CROSS_SHORT, from its
fault position, the decimation, the order and the velocity factor; absent for NORMAL, NOISY and NOT_TESTED. With the
recipe in range, the result itself: from blanking on, the other channel that first reaches the cross threshold, the
lower letter on a tie, makes the pair CROSS_SHORT (R97); else the first position i of the pair's own channel to reach
the mild threshold is the fault position, and the value of largest magnitude in i to i + 7, the earliest on a tie,
gives the status by the strong threshold (R96); with none the pair is NORMAL. -/
def Obligations.DistanceFollowsFormula : Prop :=
  (∀ (r : Recipe) (f : Word) (self : Pair) (tries : Nat) (slab : Option SlabNo) (vs : Pairs (List Int)),
    let found := classify r self vs
    let result := pairResult r f self tries slab vs
    let distance : Nat → Word := fun i => BitVec.ofNat 16 (min 65535
      ((max 0 ((i * r.decimation : Nat) - (r.order * r.decimation / 2 : Nat) : Int)).toNat * f.toNat * 3 / 80))
    (result.status = found.status ∧ (found.status = .normal → result.distance = none) ∧
      (found.status ≠ .normal →
        (found.status = .openEnd ∨ found.status = .short ∨ found.status = .impedanceHigh ∨
          found.status = .impedanceLow ∨ found.status = .crossShort) ∧
        ∃ i, found.position = some i ∧ result.distance = some (distance i))) ∧
    (r.valid = true →
      let reaches : Nat → Pair → Nat → Prop := fun limit q i =>
        r.blanking ≤ i ∧ ∃ v, (vs.get q)[i]? = some v ∧ limit ≤ v.natAbs
      let first : Nat → Pair → Nat → Prop := fun limit q i =>
        reaches limit q i ∧ ∀ j, j < i → ¬ reaches limit q j
      let largestIn : Pair → Nat → Nat → Int → Prop := fun q low n v =>
        ∃ j, low ≤ j ∧ j < low + n ∧ (vs.get q)[j]? = some v ∧ ∀ k w, low ≤ k → k < low + n → (vs.get q)[k]? = some w →
          w.natAbs < v.natAbs ∨ w.natAbs = v.natAbs ∧ j ≤ k
      let gives : PairStatus → Nat → Int → Option Pair → Prop := fun st i v cross =>
        result = ⟨st, some (distance i), BitVec.ofInt 16 v, cross, tries, slab⟩
      (∀ q i v, r.crossCheck = true → q ≠ self → first r.cross q i → largestIn q i 8 v →
        (∀ q' i', q' ≠ self → first r.cross q' i' → i < i' ∨ i = i' ∧ q.code ≤ q'.code) →
        gives .crossShort i v (some q)) ∧
      (r.crossCheck = false ∨ (∀ q i, q ≠ self → ¬ reaches r.cross q i) →
        (∀ i v, first r.mild self i → largestIn self i 8 v →
          ((r.strong : Int) ≤ v → gives .openEnd i v none) ∧
          (v ≤ -(r.strong : Int) → gives .short i v none) ∧
          (0 < v → v < (r.strong : Int) → gives .impedanceHigh i v none) ∧
          (v < 0 → -(r.strong : Int) < v → gives .impedanceLow i v none)) ∧
        ∀ v, (∀ i, ¬ reaches r.mild self i) → largestIn self r.blanking r.window v → (vs.get self).length = r.window →
          result = ⟨.normal, none, BitVec.ofInt 16 v, none, tries, slab⟩))) ∧
  (∀ peak, (noisyResult peak).distance = none) ∧ PairResult.notTested.distance = none

/-- R119: NORMAL, NOISY and NOT_TESTED are fit, the five faults unfit; the qualified set is all four rates with every
pair fit, {100M} with A and B fit and C or D not, and empty with A or B unfit; nothing but the statuses is read. -/
def Obligations.QualifiedSetFollowsStatuses : Prop :=
  ∀ x : Pairs PairResult,
    let fit : PairStatus → Prop := fun st => st = .normal ∨ st = .noisy ∨ st = .notTested
    (fit x.a.status → fit x.b.status → fit x.c.status → fit x.d.status → qualifiedFrom x = 15) ∧
    (fit x.a.status → fit x.b.status → ¬ (fit x.c.status ∧ fit x.d.status) → qualifiedFrom x = 1) ∧
    (¬ (fit x.a.status ∧ fit x.b.status) → qualifiedFrom x = 0)

/-! ## The line watch (R127, R128) -/

/-- WATCH_EXPIRY (R127, R128): once the period has run its length, each due port acts by what it has with the arbiter
(watch late is counter 12), every other port stands, and the word read then is the next interval. The model's choices:
an expiry that is not due has no effect (log entry 3), a request still on its way counts as waiting, so the port is
late (log entry 28), and a late watch makes its edit with the counter saturated as well (log entry 13). -/
def Obligations.WatchExpiryMakesPortsDue : Prop :=
  ∀ s : State, s.working → s.editsClosed →
    (s.watchInterval = 0 ∨ s.watchElapsed ≠ s.watchInterval → exec .watchExpiry s = .next s) ∧
    (s.watchInterval ≠ 0 → s.watchElapsed = s.watchInterval → ∃ t, exec .watchExpiry s = .next t ∧
      t = { s with ports := t.ports, watchInterval := s.readMem 0x0030, watchElapsed := 0 } ∧
      ∀ p : PortNo,
        let x := s.port p
        let due := (∃ f, x.profile = some f ∧ f.watch = true) ∧
          (x.status.state = .idle ∨ x.status.state = .cableHold)
        let granted := ∃ (e : EngineNo) (r : Request), s.grant e = some ⟨r, false⟩ ∧ r.port = p
        (¬ due ∨ s.engineOf p ≠ none → t.port p = x) ∧
        (due → s.engineOf p = none → x.request = none →
          t.port p = { x with request := some .watch, outbox := x.outbox ++ [.request .watch] }) ∧
        (due → s.engineOf p = none → x.request ≠ none → granted → PortMsg.withdraw ∉ x.outbox → t.port p = x) ∧
        (due → s.engineOf p = none → x.request ≠ none → ¬ granted →
          t.port p = { (x.counted 12).edited with sender := x.sender }))

/-! ## Invariants -/

/-- Every step keeps work memory in canonical form, every edit count even (R153), every link history numbered in steps
of one with at most four records (R24), every seed generator other than 0 (R20), every split 0 or 2 to 15 and every
window count below 256 (R42, R43). -/
def Obligations.StepKeepsDataInvariants : Prop :=
  ∀ s t : State, step s = .next t →
    (s.memOk → t.memOk) ∧ (s.editsClosed → t.editsClosed) ∧ (s.historiesOk → t.historiesOk) ∧
    (s.decodersOk → t.decodersOk)

/-- Every step keeps each cell in one place that its custody names, the queue within 16 and each list within 4, and the
running cell at the head of its list (R136, R142, R143). -/
def Obligations.StepKeepsCellsInOnePlace : Prop :=
  ∀ s t : State, step s = .next t → s.jobsOk → t.jobsOk

/-- Every step keeps engines, grants and quiet claims in agreement, with at most one grant a quad (R83, R111, R113) and
no slab in two filling sets (R88), and a part that is not RUNNING at rest (R3, R160, R161); and while it is RUNNING no
engine is free beside a request that may be granted (R111, R115). That a STOPPING part is at
rest already rests on the model's choice to do the four shares of the stop in the STOP itself (log entry 6). -/
def Obligations.StepKeepsOneGrantPerQuad : Prop :=
  ∀ s t : State, step s = .next t → s.grantsOk → (s.runState ≠ .running → s.atRest) →
    t.grantsOk ∧ (t.runState ≠ .running → t.atRest) ∧ (s.grantsMade → t.grantsMade)

/-- Every step keeps profiles in range, a port without one DISABLED or in PROBE and a DISABLED port without one (R5),
and the offer set of a port with one a non-empty part of its allowed set (R6); and recipes in range in job lists,
requests, grants and engines (R85, R121). -/
def Obligations.StepKeepsProfilesInRange : Prop :=
  ∀ s t : State, step s = .next t → (s.profilesOk → t.profilesOk) ∧ (s.recipesOk → t.recipesOk)

/-- The state right after reset satisfies every invariant above. -/
def Obligations.ResetSatisfiesInvariants : Prop :=
  State.reset.memOk ∧ State.reset.editsClosed ∧ State.reset.historiesOk ∧ State.reset.decodersOk ∧
    State.reset.jobsOk ∧ State.reset.grantsOk ∧ State.reset.grantsMade ∧ State.reset.profilesOk ∧
    State.reset.recipesOk ∧ State.reset.atRest

end
end

