-- ==== Sys2Proof/Laws/State.lean ====
section
/-! SUPPORT. One lemma per field per update of State, by computation, and reading a field that an update set. -/

namespace Sys2Proof.Machine

variable (s : State)

@[simp] theorem State.setPort_pending (p : PortNo) (x : Port) : (s.setPort p x).pending = s.pending := rfl
@[simp] theorem State.setPort_resetPin (p : PortNo) (x : Port) : (s.setPort p x).resetPin = s.resetPin := rfl
@[simp] theorem State.setPort_runState (p : PortNo) (x : Port) : (s.setPort p x).runState = s.runState := rfl
@[simp] theorem State.setPort_divisor (p : PortNo) (x : Port) : (s.setPort p x).divisor = s.divisor := rfl
@[simp] theorem State.setPort_lock (p : PortNo) (x : Port) : (s.setPort p x).lock = s.lock := rfl
@[simp] theorem State.setPort_divider (p : PortNo) (x : Port) : (s.setPort p x).divider = s.divider := rfl
@[simp] theorem State.setPort_tick (p : PortNo) (x : Port) : (s.setPort p x).tick = s.tick := rfl
@[simp] theorem State.setPort_mem (p : PortNo) (x : Port) : (s.setPort p x).mem = s.mem := rfl
@[simp] theorem State.setPort_globalNews (p : PortNo) (x : Port) : (s.setPort p x).globalNews = s.globalNews := rfl
@[simp] theorem State.setPort_newsEnable (p : PortNo) (x : Port) : (s.setPort p x).newsEnable = s.newsEnable := rfl
@[simp] theorem State.setPort_intakeQueue (p : PortNo) (x : Port) : (s.setPort p x).intakeQueue = s.intakeQueue := rfl
@[simp] theorem State.setPort_intakeDue (p : PortNo) (x : Port) : (s.setPort p x).intakeDue = s.intakeDue := rfl
@[simp] theorem State.setPort_intakeFlags (p : PortNo) (x : Port) : (s.setPort p x).intakeFlags = s.intakeFlags := rfl
@[simp] theorem State.setPort_intakeErrors (p : PortNo) (x : Port) : (s.setPort p x).intakeErrors = s.intakeErrors := rfl
@[simp] theorem State.setPort_custody (p : PortNo) (x : Port) : (s.setPort p x).custody = s.custody := rfl
@[simp] theorem State.setPort_ready (p : PortNo) (x : Port) : (s.setPort p x).ready = s.ready := rfl
@[simp] theorem State.setPort_engines (p : PortNo) (x : Port) : (s.setPort p x).engines = s.engines := rfl
@[simp] theorem State.setPort_requests (p : PortNo) (x : Port) : (s.setPort p x).requests = s.requests := rfl
@[simp] theorem State.setPort_nextPlace (p : PortNo) (x : Port) : (s.setPort p x).nextPlace = s.nextPlace := rfl
@[simp] theorem State.setPort_grants (p : PortNo) (x : Port) : (s.setPort p x).grants = s.grants := rfl
@[simp] theorem State.setPort_claims (p : PortNo) (x : Port) : (s.setPort p x).claims = s.claims := rfl
@[simp] theorem State.setPort_watchInterval (p : PortNo) (x : Port) : (s.setPort p x).watchInterval = s.watchInterval := rfl
@[simp] theorem State.setPort_watchElapsed (p : PortNo) (x : Port) : (s.setPort p x).watchElapsed = s.watchElapsed := rfl
@[simp] theorem State.setPort_freeCount (p : PortNo) (x : Port) : (s.setPort p x).freeCount = s.freeCount := rfl

@[simp] theorem State.setEngine_pending (e : EngineNo) (x : Engine) : (s.setEngine e x).pending = s.pending := rfl
@[simp] theorem State.setEngine_resetPin (e : EngineNo) (x : Engine) : (s.setEngine e x).resetPin = s.resetPin := rfl
@[simp] theorem State.setEngine_runState (e : EngineNo) (x : Engine) : (s.setEngine e x).runState = s.runState := rfl
@[simp] theorem State.setEngine_divisor (e : EngineNo) (x : Engine) : (s.setEngine e x).divisor = s.divisor := rfl
@[simp] theorem State.setEngine_lock (e : EngineNo) (x : Engine) : (s.setEngine e x).lock = s.lock := rfl
@[simp] theorem State.setEngine_divider (e : EngineNo) (x : Engine) : (s.setEngine e x).divider = s.divider := rfl
@[simp] theorem State.setEngine_tick (e : EngineNo) (x : Engine) : (s.setEngine e x).tick = s.tick := rfl
@[simp] theorem State.setEngine_mem (e : EngineNo) (x : Engine) : (s.setEngine e x).mem = s.mem := rfl
@[simp] theorem State.setEngine_globalNews (e : EngineNo) (x : Engine) : (s.setEngine e x).globalNews = s.globalNews := rfl
@[simp] theorem State.setEngine_newsEnable (e : EngineNo) (x : Engine) : (s.setEngine e x).newsEnable = s.newsEnable := rfl
@[simp] theorem State.setEngine_intakeQueue (e : EngineNo) (x : Engine) : (s.setEngine e x).intakeQueue = s.intakeQueue := rfl
@[simp] theorem State.setEngine_intakeDue (e : EngineNo) (x : Engine) : (s.setEngine e x).intakeDue = s.intakeDue := rfl
@[simp] theorem State.setEngine_intakeFlags (e : EngineNo) (x : Engine) : (s.setEngine e x).intakeFlags = s.intakeFlags := rfl
@[simp] theorem State.setEngine_intakeErrors (e : EngineNo) (x : Engine) : (s.setEngine e x).intakeErrors = s.intakeErrors := rfl
@[simp] theorem State.setEngine_custody (e : EngineNo) (x : Engine) : (s.setEngine e x).custody = s.custody := rfl
@[simp] theorem State.setEngine_ports (e : EngineNo) (x : Engine) : (s.setEngine e x).ports = s.ports := rfl
@[simp] theorem State.setEngine_ready (e : EngineNo) (x : Engine) : (s.setEngine e x).ready = s.ready := rfl
@[simp] theorem State.setEngine_requests (e : EngineNo) (x : Engine) : (s.setEngine e x).requests = s.requests := rfl
@[simp] theorem State.setEngine_nextPlace (e : EngineNo) (x : Engine) : (s.setEngine e x).nextPlace = s.nextPlace := rfl
@[simp] theorem State.setEngine_grants (e : EngineNo) (x : Engine) : (s.setEngine e x).grants = s.grants := rfl
@[simp] theorem State.setEngine_claims (e : EngineNo) (x : Engine) : (s.setEngine e x).claims = s.claims := rfl
@[simp] theorem State.setEngine_watchInterval (e : EngineNo) (x : Engine) : (s.setEngine e x).watchInterval = s.watchInterval := rfl
@[simp] theorem State.setEngine_watchElapsed (e : EngineNo) (x : Engine) : (s.setEngine e x).watchElapsed = s.watchElapsed := rfl
@[simp] theorem State.setEngine_freeCount (e : EngineNo) (x : Engine) : (s.setEngine e x).freeCount = s.freeCount := rfl

@[simp] theorem State.setReady_pending (q : QuadNo) (b : Bool) : (s.setReady q b).pending = s.pending := rfl
@[simp] theorem State.setReady_resetPin (q : QuadNo) (b : Bool) : (s.setReady q b).resetPin = s.resetPin := rfl
@[simp] theorem State.setReady_runState (q : QuadNo) (b : Bool) : (s.setReady q b).runState = s.runState := rfl
@[simp] theorem State.setReady_divisor (q : QuadNo) (b : Bool) : (s.setReady q b).divisor = s.divisor := rfl
@[simp] theorem State.setReady_lock (q : QuadNo) (b : Bool) : (s.setReady q b).lock = s.lock := rfl
@[simp] theorem State.setReady_divider (q : QuadNo) (b : Bool) : (s.setReady q b).divider = s.divider := rfl
@[simp] theorem State.setReady_tick (q : QuadNo) (b : Bool) : (s.setReady q b).tick = s.tick := rfl
@[simp] theorem State.setReady_mem (q : QuadNo) (b : Bool) : (s.setReady q b).mem = s.mem := rfl
@[simp] theorem State.setReady_globalNews (q : QuadNo) (b : Bool) : (s.setReady q b).globalNews = s.globalNews := rfl
@[simp] theorem State.setReady_newsEnable (q : QuadNo) (b : Bool) : (s.setReady q b).newsEnable = s.newsEnable := rfl
@[simp] theorem State.setReady_intakeQueue (q : QuadNo) (b : Bool) : (s.setReady q b).intakeQueue = s.intakeQueue := rfl
@[simp] theorem State.setReady_intakeDue (q : QuadNo) (b : Bool) : (s.setReady q b).intakeDue = s.intakeDue := rfl
@[simp] theorem State.setReady_intakeFlags (q : QuadNo) (b : Bool) : (s.setReady q b).intakeFlags = s.intakeFlags := rfl
@[simp] theorem State.setReady_intakeErrors (q : QuadNo) (b : Bool) : (s.setReady q b).intakeErrors = s.intakeErrors := rfl
@[simp] theorem State.setReady_custody (q : QuadNo) (b : Bool) : (s.setReady q b).custody = s.custody := rfl
@[simp] theorem State.setReady_ports (q : QuadNo) (b : Bool) : (s.setReady q b).ports = s.ports := rfl
@[simp] theorem State.setReady_engines (q : QuadNo) (b : Bool) : (s.setReady q b).engines = s.engines := rfl
@[simp] theorem State.setReady_requests (q : QuadNo) (b : Bool) : (s.setReady q b).requests = s.requests := rfl
@[simp] theorem State.setReady_nextPlace (q : QuadNo) (b : Bool) : (s.setReady q b).nextPlace = s.nextPlace := rfl
@[simp] theorem State.setReady_grants (q : QuadNo) (b : Bool) : (s.setReady q b).grants = s.grants := rfl
@[simp] theorem State.setReady_claims (q : QuadNo) (b : Bool) : (s.setReady q b).claims = s.claims := rfl
@[simp] theorem State.setReady_watchInterval (q : QuadNo) (b : Bool) : (s.setReady q b).watchInterval = s.watchInterval := rfl
@[simp] theorem State.setReady_watchElapsed (q : QuadNo) (b : Bool) : (s.setReady q b).watchElapsed = s.watchElapsed := rfl
@[simp] theorem State.setReady_freeCount (q : QuadNo) (b : Bool) : (s.setReady q b).freeCount = s.freeCount := rfl

@[simp] theorem State.setClaim_pending (q : QuadNo) (b : Bool) : (s.setClaim q b).pending = s.pending := rfl
@[simp] theorem State.setClaim_resetPin (q : QuadNo) (b : Bool) : (s.setClaim q b).resetPin = s.resetPin := rfl
@[simp] theorem State.setClaim_runState (q : QuadNo) (b : Bool) : (s.setClaim q b).runState = s.runState := rfl
@[simp] theorem State.setClaim_divisor (q : QuadNo) (b : Bool) : (s.setClaim q b).divisor = s.divisor := rfl
@[simp] theorem State.setClaim_lock (q : QuadNo) (b : Bool) : (s.setClaim q b).lock = s.lock := rfl
@[simp] theorem State.setClaim_divider (q : QuadNo) (b : Bool) : (s.setClaim q b).divider = s.divider := rfl
@[simp] theorem State.setClaim_tick (q : QuadNo) (b : Bool) : (s.setClaim q b).tick = s.tick := rfl
@[simp] theorem State.setClaim_mem (q : QuadNo) (b : Bool) : (s.setClaim q b).mem = s.mem := rfl
@[simp] theorem State.setClaim_globalNews (q : QuadNo) (b : Bool) : (s.setClaim q b).globalNews = s.globalNews := rfl
@[simp] theorem State.setClaim_newsEnable (q : QuadNo) (b : Bool) : (s.setClaim q b).newsEnable = s.newsEnable := rfl
@[simp] theorem State.setClaim_intakeQueue (q : QuadNo) (b : Bool) : (s.setClaim q b).intakeQueue = s.intakeQueue := rfl
@[simp] theorem State.setClaim_intakeDue (q : QuadNo) (b : Bool) : (s.setClaim q b).intakeDue = s.intakeDue := rfl
@[simp] theorem State.setClaim_intakeFlags (q : QuadNo) (b : Bool) : (s.setClaim q b).intakeFlags = s.intakeFlags := rfl
@[simp] theorem State.setClaim_intakeErrors (q : QuadNo) (b : Bool) : (s.setClaim q b).intakeErrors = s.intakeErrors := rfl
@[simp] theorem State.setClaim_custody (q : QuadNo) (b : Bool) : (s.setClaim q b).custody = s.custody := rfl
@[simp] theorem State.setClaim_ports (q : QuadNo) (b : Bool) : (s.setClaim q b).ports = s.ports := rfl
@[simp] theorem State.setClaim_ready (q : QuadNo) (b : Bool) : (s.setClaim q b).ready = s.ready := rfl
@[simp] theorem State.setClaim_engines (q : QuadNo) (b : Bool) : (s.setClaim q b).engines = s.engines := rfl
@[simp] theorem State.setClaim_requests (q : QuadNo) (b : Bool) : (s.setClaim q b).requests = s.requests := rfl
@[simp] theorem State.setClaim_nextPlace (q : QuadNo) (b : Bool) : (s.setClaim q b).nextPlace = s.nextPlace := rfl
@[simp] theorem State.setClaim_grants (q : QuadNo) (b : Bool) : (s.setClaim q b).grants = s.grants := rfl
@[simp] theorem State.setClaim_watchInterval (q : QuadNo) (b : Bool) : (s.setClaim q b).watchInterval = s.watchInterval := rfl
@[simp] theorem State.setClaim_watchElapsed (q : QuadNo) (b : Bool) : (s.setClaim q b).watchElapsed = s.watchElapsed := rfl
@[simp] theorem State.setClaim_freeCount (q : QuadNo) (b : Bool) : (s.setClaim q b).freeCount = s.freeCount := rfl

@[simp] theorem State.setGrant_pending (e : EngineNo) (g : Option Grant) : (s.setGrant e g).pending = s.pending := rfl
@[simp] theorem State.setGrant_resetPin (e : EngineNo) (g : Option Grant) : (s.setGrant e g).resetPin = s.resetPin := rfl
@[simp] theorem State.setGrant_runState (e : EngineNo) (g : Option Grant) : (s.setGrant e g).runState = s.runState := rfl
@[simp] theorem State.setGrant_divisor (e : EngineNo) (g : Option Grant) : (s.setGrant e g).divisor = s.divisor := rfl
@[simp] theorem State.setGrant_lock (e : EngineNo) (g : Option Grant) : (s.setGrant e g).lock = s.lock := rfl
@[simp] theorem State.setGrant_divider (e : EngineNo) (g : Option Grant) : (s.setGrant e g).divider = s.divider := rfl
@[simp] theorem State.setGrant_tick (e : EngineNo) (g : Option Grant) : (s.setGrant e g).tick = s.tick := rfl
@[simp] theorem State.setGrant_mem (e : EngineNo) (g : Option Grant) : (s.setGrant e g).mem = s.mem := rfl
@[simp] theorem State.setGrant_globalNews (e : EngineNo) (g : Option Grant) : (s.setGrant e g).globalNews = s.globalNews := rfl
@[simp] theorem State.setGrant_newsEnable (e : EngineNo) (g : Option Grant) : (s.setGrant e g).newsEnable = s.newsEnable := rfl
@[simp] theorem State.setGrant_intakeQueue (e : EngineNo) (g : Option Grant) : (s.setGrant e g).intakeQueue = s.intakeQueue := rfl
@[simp] theorem State.setGrant_intakeDue (e : EngineNo) (g : Option Grant) : (s.setGrant e g).intakeDue = s.intakeDue := rfl
@[simp] theorem State.setGrant_intakeFlags (e : EngineNo) (g : Option Grant) : (s.setGrant e g).intakeFlags = s.intakeFlags := rfl
@[simp] theorem State.setGrant_intakeErrors (e : EngineNo) (g : Option Grant) : (s.setGrant e g).intakeErrors = s.intakeErrors := rfl
@[simp] theorem State.setGrant_custody (e : EngineNo) (g : Option Grant) : (s.setGrant e g).custody = s.custody := rfl
@[simp] theorem State.setGrant_ports (e : EngineNo) (g : Option Grant) : (s.setGrant e g).ports = s.ports := rfl
@[simp] theorem State.setGrant_ready (e : EngineNo) (g : Option Grant) : (s.setGrant e g).ready = s.ready := rfl
@[simp] theorem State.setGrant_engines (e : EngineNo) (g : Option Grant) : (s.setGrant e g).engines = s.engines := rfl
@[simp] theorem State.setGrant_requests (e : EngineNo) (g : Option Grant) : (s.setGrant e g).requests = s.requests := rfl
@[simp] theorem State.setGrant_nextPlace (e : EngineNo) (g : Option Grant) : (s.setGrant e g).nextPlace = s.nextPlace := rfl
@[simp] theorem State.setGrant_claims (e : EngineNo) (g : Option Grant) : (s.setGrant e g).claims = s.claims := rfl
@[simp] theorem State.setGrant_watchInterval (e : EngineNo) (g : Option Grant) : (s.setGrant e g).watchInterval = s.watchInterval := rfl
@[simp] theorem State.setGrant_watchElapsed (e : EngineNo) (g : Option Grant) : (s.setGrant e g).watchElapsed = s.watchElapsed := rfl
@[simp] theorem State.setGrant_freeCount (e : EngineNo) (g : Option Grant) : (s.setGrant e g).freeCount = s.freeCount := rfl

@[simp] theorem State.setCustody_pending (c : CellNo) (k : Custody) : (s.setCustody c k).pending = s.pending := rfl
@[simp] theorem State.setCustody_resetPin (c : CellNo) (k : Custody) : (s.setCustody c k).resetPin = s.resetPin := rfl
@[simp] theorem State.setCustody_runState (c : CellNo) (k : Custody) : (s.setCustody c k).runState = s.runState := rfl
@[simp] theorem State.setCustody_divisor (c : CellNo) (k : Custody) : (s.setCustody c k).divisor = s.divisor := rfl
@[simp] theorem State.setCustody_lock (c : CellNo) (k : Custody) : (s.setCustody c k).lock = s.lock := rfl
@[simp] theorem State.setCustody_divider (c : CellNo) (k : Custody) : (s.setCustody c k).divider = s.divider := rfl
@[simp] theorem State.setCustody_tick (c : CellNo) (k : Custody) : (s.setCustody c k).tick = s.tick := rfl
@[simp] theorem State.setCustody_mem (c : CellNo) (k : Custody) : (s.setCustody c k).mem = s.mem := rfl
@[simp] theorem State.setCustody_globalNews (c : CellNo) (k : Custody) : (s.setCustody c k).globalNews = s.globalNews := rfl
@[simp] theorem State.setCustody_newsEnable (c : CellNo) (k : Custody) : (s.setCustody c k).newsEnable = s.newsEnable := rfl
@[simp] theorem State.setCustody_intakeQueue (c : CellNo) (k : Custody) : (s.setCustody c k).intakeQueue = s.intakeQueue := rfl
@[simp] theorem State.setCustody_intakeDue (c : CellNo) (k : Custody) : (s.setCustody c k).intakeDue = s.intakeDue := rfl
@[simp] theorem State.setCustody_intakeFlags (c : CellNo) (k : Custody) : (s.setCustody c k).intakeFlags = s.intakeFlags := rfl
@[simp] theorem State.setCustody_intakeErrors (c : CellNo) (k : Custody) : (s.setCustody c k).intakeErrors = s.intakeErrors := rfl
@[simp] theorem State.setCustody_ports (c : CellNo) (k : Custody) : (s.setCustody c k).ports = s.ports := rfl
@[simp] theorem State.setCustody_ready (c : CellNo) (k : Custody) : (s.setCustody c k).ready = s.ready := rfl
@[simp] theorem State.setCustody_engines (c : CellNo) (k : Custody) : (s.setCustody c k).engines = s.engines := rfl
@[simp] theorem State.setCustody_requests (c : CellNo) (k : Custody) : (s.setCustody c k).requests = s.requests := rfl
@[simp] theorem State.setCustody_nextPlace (c : CellNo) (k : Custody) : (s.setCustody c k).nextPlace = s.nextPlace := rfl
@[simp] theorem State.setCustody_grants (c : CellNo) (k : Custody) : (s.setCustody c k).grants = s.grants := rfl
@[simp] theorem State.setCustody_claims (c : CellNo) (k : Custody) : (s.setCustody c k).claims = s.claims := rfl
@[simp] theorem State.setCustody_watchInterval (c : CellNo) (k : Custody) : (s.setCustody c k).watchInterval = s.watchInterval := rfl
@[simp] theorem State.setCustody_watchElapsed (c : CellNo) (k : Custody) : (s.setCustody c k).watchElapsed = s.watchElapsed := rfl
@[simp] theorem State.setCustody_freeCount (c : CellNo) (k : Custody) : (s.setCustody c k).freeCount = s.freeCount := rfl

@[simp] theorem State.writeMem_pending (a : Nat) (v : Word) : (s.writeMem a v).pending = s.pending := rfl
@[simp] theorem State.writeMem_resetPin (a : Nat) (v : Word) : (s.writeMem a v).resetPin = s.resetPin := rfl
@[simp] theorem State.writeMem_runState (a : Nat) (v : Word) : (s.writeMem a v).runState = s.runState := rfl
@[simp] theorem State.writeMem_divisor (a : Nat) (v : Word) : (s.writeMem a v).divisor = s.divisor := rfl
@[simp] theorem State.writeMem_lock (a : Nat) (v : Word) : (s.writeMem a v).lock = s.lock := rfl
@[simp] theorem State.writeMem_divider (a : Nat) (v : Word) : (s.writeMem a v).divider = s.divider := rfl
@[simp] theorem State.writeMem_tick (a : Nat) (v : Word) : (s.writeMem a v).tick = s.tick := rfl
@[simp] theorem State.writeMem_globalNews (a : Nat) (v : Word) : (s.writeMem a v).globalNews = s.globalNews := rfl
@[simp] theorem State.writeMem_newsEnable (a : Nat) (v : Word) : (s.writeMem a v).newsEnable = s.newsEnable := rfl
@[simp] theorem State.writeMem_intakeQueue (a : Nat) (v : Word) : (s.writeMem a v).intakeQueue = s.intakeQueue := rfl
@[simp] theorem State.writeMem_intakeDue (a : Nat) (v : Word) : (s.writeMem a v).intakeDue = s.intakeDue := rfl
@[simp] theorem State.writeMem_intakeFlags (a : Nat) (v : Word) : (s.writeMem a v).intakeFlags = s.intakeFlags := rfl
@[simp] theorem State.writeMem_intakeErrors (a : Nat) (v : Word) : (s.writeMem a v).intakeErrors = s.intakeErrors := rfl
@[simp] theorem State.writeMem_custody (a : Nat) (v : Word) : (s.writeMem a v).custody = s.custody := rfl
@[simp] theorem State.writeMem_ports (a : Nat) (v : Word) : (s.writeMem a v).ports = s.ports := rfl
@[simp] theorem State.writeMem_ready (a : Nat) (v : Word) : (s.writeMem a v).ready = s.ready := rfl
@[simp] theorem State.writeMem_engines (a : Nat) (v : Word) : (s.writeMem a v).engines = s.engines := rfl
@[simp] theorem State.writeMem_requests (a : Nat) (v : Word) : (s.writeMem a v).requests = s.requests := rfl
@[simp] theorem State.writeMem_nextPlace (a : Nat) (v : Word) : (s.writeMem a v).nextPlace = s.nextPlace := rfl
@[simp] theorem State.writeMem_grants (a : Nat) (v : Word) : (s.writeMem a v).grants = s.grants := rfl
@[simp] theorem State.writeMem_claims (a : Nat) (v : Word) : (s.writeMem a v).claims = s.claims := rfl
@[simp] theorem State.writeMem_watchInterval (a : Nat) (v : Word) : (s.writeMem a v).watchInterval = s.watchInterval := rfl
@[simp] theorem State.writeMem_watchElapsed (a : Nat) (v : Word) : (s.writeMem a v).watchElapsed = s.watchElapsed := rfl
@[simp] theorem State.writeMem_freeCount (a : Nat) (v : Word) : (s.writeMem a v).freeCount = s.freeCount := rfl

@[simp] theorem State.raiseGlobal_pending (f : GlobalFlag) : (s.raiseGlobal f).pending = s.pending := rfl
@[simp] theorem State.raiseGlobal_resetPin (f : GlobalFlag) : (s.raiseGlobal f).resetPin = s.resetPin := rfl
@[simp] theorem State.raiseGlobal_runState (f : GlobalFlag) : (s.raiseGlobal f).runState = s.runState := rfl
@[simp] theorem State.raiseGlobal_divisor (f : GlobalFlag) : (s.raiseGlobal f).divisor = s.divisor := rfl
@[simp] theorem State.raiseGlobal_lock (f : GlobalFlag) : (s.raiseGlobal f).lock = s.lock := rfl
@[simp] theorem State.raiseGlobal_divider (f : GlobalFlag) : (s.raiseGlobal f).divider = s.divider := rfl
@[simp] theorem State.raiseGlobal_tick (f : GlobalFlag) : (s.raiseGlobal f).tick = s.tick := rfl
@[simp] theorem State.raiseGlobal_mem (f : GlobalFlag) : (s.raiseGlobal f).mem = s.mem := rfl
@[simp] theorem State.raiseGlobal_newsEnable (f : GlobalFlag) : (s.raiseGlobal f).newsEnable = s.newsEnable := rfl
@[simp] theorem State.raiseGlobal_intakeQueue (f : GlobalFlag) : (s.raiseGlobal f).intakeQueue = s.intakeQueue := rfl
@[simp] theorem State.raiseGlobal_intakeDue (f : GlobalFlag) : (s.raiseGlobal f).intakeDue = s.intakeDue := rfl
@[simp] theorem State.raiseGlobal_intakeFlags (f : GlobalFlag) : (s.raiseGlobal f).intakeFlags = s.intakeFlags := rfl
@[simp] theorem State.raiseGlobal_intakeErrors (f : GlobalFlag) : (s.raiseGlobal f).intakeErrors = s.intakeErrors := rfl
@[simp] theorem State.raiseGlobal_custody (f : GlobalFlag) : (s.raiseGlobal f).custody = s.custody := rfl
@[simp] theorem State.raiseGlobal_ports (f : GlobalFlag) : (s.raiseGlobal f).ports = s.ports := rfl
@[simp] theorem State.raiseGlobal_ready (f : GlobalFlag) : (s.raiseGlobal f).ready = s.ready := rfl
@[simp] theorem State.raiseGlobal_engines (f : GlobalFlag) : (s.raiseGlobal f).engines = s.engines := rfl
@[simp] theorem State.raiseGlobal_requests (f : GlobalFlag) : (s.raiseGlobal f).requests = s.requests := rfl
@[simp] theorem State.raiseGlobal_nextPlace (f : GlobalFlag) : (s.raiseGlobal f).nextPlace = s.nextPlace := rfl
@[simp] theorem State.raiseGlobal_grants (f : GlobalFlag) : (s.raiseGlobal f).grants = s.grants := rfl
@[simp] theorem State.raiseGlobal_claims (f : GlobalFlag) : (s.raiseGlobal f).claims = s.claims := rfl
@[simp] theorem State.raiseGlobal_watchInterval (f : GlobalFlag) : (s.raiseGlobal f).watchInterval = s.watchInterval := rfl
@[simp] theorem State.raiseGlobal_watchElapsed (f : GlobalFlag) : (s.raiseGlobal f).watchElapsed = s.watchElapsed := rfl
@[simp] theorem State.raiseGlobal_freeCount (f : GlobalFlag) : (s.raiseGlobal f).freeCount = s.freeCount := rfl

@[simp] theorem State.setEngine_port (e : EngineNo) (x : Engine) (q : PortNo) : (s.setEngine e x).port q = s.port q := rfl
@[simp] theorem State.setReady_port (q : QuadNo) (b : Bool) (i : PortNo) : (s.setReady q b).port i = s.port i := rfl
@[simp] theorem State.setClaim_port (q : QuadNo) (b : Bool) (i : PortNo) : (s.setClaim q b).port i = s.port i := rfl
@[simp] theorem State.setGrant_port (e : EngineNo) (g : Option Grant) (q : PortNo) : (s.setGrant e g).port q = s.port q := rfl
@[simp] theorem State.setCustody_port (c : CellNo) (k : Custody) (q : PortNo) : (s.setCustody c k).port q = s.port q := rfl
@[simp] theorem State.writeMem_port (a : Nat) (v : Word) (q : PortNo) : (s.writeMem a v).port q = s.port q := rfl
@[simp] theorem State.raiseGlobal_port (f : GlobalFlag) (q : PortNo) : (s.raiseGlobal f).port q = s.port q := rfl

@[simp] theorem State.setPort_engine (p : PortNo) (x : Port) (f : EngineNo) : (s.setPort p x).engine f = s.engine f := rfl
@[simp] theorem State.setReady_engine (q : QuadNo) (b : Bool) (f : EngineNo) : (s.setReady q b).engine f = s.engine f := rfl
@[simp] theorem State.setClaim_engine (q : QuadNo) (b : Bool) (f : EngineNo) : (s.setClaim q b).engine f = s.engine f := rfl
@[simp] theorem State.setGrant_engine (e : EngineNo) (g : Option Grant) (f : EngineNo) : (s.setGrant e g).engine f = s.engine f := rfl
@[simp] theorem State.setCustody_engine (c : CellNo) (k : Custody) (f : EngineNo) : (s.setCustody c k).engine f = s.engine f := rfl
@[simp] theorem State.writeMem_engine (a : Nat) (v : Word) (f : EngineNo) : (s.writeMem a v).engine f = s.engine f := rfl
@[simp] theorem State.raiseGlobal_engine (f : GlobalFlag) (i : EngineNo) : (s.raiseGlobal f).engine i = s.engine i := rfl

@[simp] theorem State.setPort_isReady (p : PortNo) (x : Port) (r : QuadNo) : (s.setPort p x).isReady r = s.isReady r := rfl
@[simp] theorem State.setEngine_isReady (e : EngineNo) (x : Engine) (r : QuadNo) : (s.setEngine e x).isReady r = s.isReady r := rfl
@[simp] theorem State.setClaim_isReady (q : QuadNo) (b : Bool) (r : QuadNo) : (s.setClaim q b).isReady r = s.isReady r := rfl
@[simp] theorem State.setGrant_isReady (e : EngineNo) (g : Option Grant) (r : QuadNo) : (s.setGrant e g).isReady r = s.isReady r := rfl
@[simp] theorem State.setCustody_isReady (c : CellNo) (k : Custody) (r : QuadNo) : (s.setCustody c k).isReady r = s.isReady r := rfl
@[simp] theorem State.writeMem_isReady (a : Nat) (v : Word) (r : QuadNo) : (s.writeMem a v).isReady r = s.isReady r := rfl
@[simp] theorem State.raiseGlobal_isReady (f : GlobalFlag) (r : QuadNo) : (s.raiseGlobal f).isReady r = s.isReady r := rfl

@[simp] theorem State.setPort_claimed (p : PortNo) (x : Port) (r : QuadNo) : (s.setPort p x).claimed r = s.claimed r := rfl
@[simp] theorem State.setEngine_claimed (e : EngineNo) (x : Engine) (r : QuadNo) : (s.setEngine e x).claimed r = s.claimed r := rfl
@[simp] theorem State.setReady_claimed (q : QuadNo) (b : Bool) (r : QuadNo) : (s.setReady q b).claimed r = s.claimed r := rfl
@[simp] theorem State.setGrant_claimed (e : EngineNo) (g : Option Grant) (r : QuadNo) : (s.setGrant e g).claimed r = s.claimed r := rfl
@[simp] theorem State.setCustody_claimed (c : CellNo) (k : Custody) (r : QuadNo) : (s.setCustody c k).claimed r = s.claimed r := rfl
@[simp] theorem State.writeMem_claimed (a : Nat) (v : Word) (r : QuadNo) : (s.writeMem a v).claimed r = s.claimed r := rfl
@[simp] theorem State.raiseGlobal_claimed (f : GlobalFlag) (r : QuadNo) : (s.raiseGlobal f).claimed r = s.claimed r := rfl

@[simp] theorem State.setPort_grant (p : PortNo) (x : Port) (f : EngineNo) : (s.setPort p x).grant f = s.grant f := rfl
@[simp] theorem State.setEngine_grant (e : EngineNo) (x : Engine) (f : EngineNo) : (s.setEngine e x).grant f = s.grant f := rfl
@[simp] theorem State.setReady_grant (q : QuadNo) (b : Bool) (f : EngineNo) : (s.setReady q b).grant f = s.grant f := rfl
@[simp] theorem State.setClaim_grant (q : QuadNo) (b : Bool) (f : EngineNo) : (s.setClaim q b).grant f = s.grant f := rfl
@[simp] theorem State.setCustody_grant (c : CellNo) (k : Custody) (f : EngineNo) : (s.setCustody c k).grant f = s.grant f := rfl
@[simp] theorem State.writeMem_grant (a : Nat) (v : Word) (f : EngineNo) : (s.writeMem a v).grant f = s.grant f := rfl
@[simp] theorem State.raiseGlobal_grant (f : GlobalFlag) (i : EngineNo) : (s.raiseGlobal f).grant i = s.grant i := rfl

@[simp] theorem State.setPort_custodyOf (p : PortNo) (x : Port) (d : CellNo) : (s.setPort p x).custodyOf d = s.custodyOf d := rfl
@[simp] theorem State.setEngine_custodyOf (e : EngineNo) (x : Engine) (d : CellNo) : (s.setEngine e x).custodyOf d = s.custodyOf d := rfl
@[simp] theorem State.setReady_custodyOf (q : QuadNo) (b : Bool) (d : CellNo) : (s.setReady q b).custodyOf d = s.custodyOf d := rfl
@[simp] theorem State.setClaim_custodyOf (q : QuadNo) (b : Bool) (d : CellNo) : (s.setClaim q b).custodyOf d = s.custodyOf d := rfl
@[simp] theorem State.setGrant_custodyOf (e : EngineNo) (g : Option Grant) (d : CellNo) : (s.setGrant e g).custodyOf d = s.custodyOf d := rfl
@[simp] theorem State.writeMem_custodyOf (a : Nat) (v : Word) (d : CellNo) : (s.writeMem a v).custodyOf d = s.custodyOf d := rfl
@[simp] theorem State.raiseGlobal_custodyOf (f : GlobalFlag) (d : CellNo) : (s.raiseGlobal f).custodyOf d = s.custodyOf d := rfl

@[simp] theorem State.setPort_readMem (p : PortNo) (x : Port) (b : Nat) : (s.setPort p x).readMem b = s.readMem b := rfl
@[simp] theorem State.setEngine_readMem (e : EngineNo) (x : Engine) (b : Nat) : (s.setEngine e x).readMem b = s.readMem b := rfl
@[simp] theorem State.setReady_readMem (q : QuadNo) (b : Bool) (i : Nat) : (s.setReady q b).readMem i = s.readMem i := rfl
@[simp] theorem State.setClaim_readMem (q : QuadNo) (b : Bool) (i : Nat) : (s.setClaim q b).readMem i = s.readMem i := rfl
@[simp] theorem State.setGrant_readMem (e : EngineNo) (g : Option Grant) (b : Nat) : (s.setGrant e g).readMem b = s.readMem b := rfl
@[simp] theorem State.setCustody_readMem (c : CellNo) (k : Custody) (b : Nat) : (s.setCustody c k).readMem b = s.readMem b := rfl
@[simp] theorem State.raiseGlobal_readMem (f : GlobalFlag) (b : Nat) : (s.raiseGlobal f).readMem b = s.readMem b := rfl

theorem State.port_setPort (p : PortNo) (x : Port) (q : PortNo) : (s.setPort p x).port q = if p = q then x else s.port q := by
  simp only [State.port, State.setPort, Fin.getElem_fin, Vector.getElem_set, Fin.ext_iff]

@[simp] theorem State.port_setPort_self (p : PortNo) (x : Port) : (s.setPort p x).port p = x := by
  simp [State.port_setPort]

theorem State.port_setPort_ne (p : PortNo) (x : Port) (q : PortNo) (h : q ≠ p) : (s.setPort p x).port q = s.port q := by
  simp [State.port_setPort, Ne.symm h]

theorem State.engine_setEngine (e : EngineNo) (x : Engine) (f : EngineNo) : (s.setEngine e x).engine f = if e = f then x else s.engine f := by
  simp only [State.engine, State.setEngine, Fin.getElem_fin, Vector.getElem_set, Fin.ext_iff]

@[simp] theorem State.engine_setEngine_self (e : EngineNo) (x : Engine) : (s.setEngine e x).engine e = x := by
  simp [State.engine_setEngine]

theorem State.engine_setEngine_ne (e : EngineNo) (x : Engine) (f : EngineNo) (h : f ≠ e) : (s.setEngine e x).engine f = s.engine f := by
  simp [State.engine_setEngine, Ne.symm h]

theorem State.isReady_setReady (q : QuadNo) (b : Bool) (r : QuadNo) : (s.setReady q b).isReady r = if q = r then b else s.isReady r := by
  simp only [State.isReady, State.setReady, Fin.getElem_fin, Vector.getElem_set, Fin.ext_iff]

@[simp] theorem State.isReady_setReady_self (q : QuadNo) (b : Bool) : (s.setReady q b).isReady q = b := by
  simp [State.isReady_setReady]

theorem State.isReady_setReady_ne (q : QuadNo) (b : Bool) (r : QuadNo) (h : r ≠ q) : (s.setReady q b).isReady r = s.isReady r := by
  simp [State.isReady_setReady, Ne.symm h]

theorem State.claimed_setClaim (q : QuadNo) (b : Bool) (r : QuadNo) : (s.setClaim q b).claimed r = if q = r then b else s.claimed r := by
  simp only [State.claimed, State.setClaim, Fin.getElem_fin, Vector.getElem_set, Fin.ext_iff]

@[simp] theorem State.claimed_setClaim_self (q : QuadNo) (b : Bool) : (s.setClaim q b).claimed q = b := by
  simp [State.claimed_setClaim]

theorem State.claimed_setClaim_ne (q : QuadNo) (b : Bool) (r : QuadNo) (h : r ≠ q) : (s.setClaim q b).claimed r = s.claimed r := by
  simp [State.claimed_setClaim, Ne.symm h]

theorem State.grant_setGrant (e : EngineNo) (g : Option Grant) (f : EngineNo) : (s.setGrant e g).grant f = if e = f then g else s.grant f := by
  simp only [State.grant, State.setGrant, Fin.getElem_fin, Vector.getElem_set, Fin.ext_iff]

@[simp] theorem State.grant_setGrant_self (e : EngineNo) (g : Option Grant) : (s.setGrant e g).grant e = g := by
  simp [State.grant_setGrant]

theorem State.grant_setGrant_ne (e : EngineNo) (g : Option Grant) (f : EngineNo) (h : f ≠ e) : (s.setGrant e g).grant f = s.grant f := by
  simp [State.grant_setGrant, Ne.symm h]

theorem State.custodyOf_setCustody (c : CellNo) (k : Custody) (d : CellNo) : (s.setCustody c k).custodyOf d = if c = d then k else s.custodyOf d := by
  simp only [State.custodyOf, State.setCustody, Fin.getElem_fin, Vector.getElem_set, Fin.ext_iff]

@[simp] theorem State.custodyOf_setCustody_self (c : CellNo) (k : Custody) : (s.setCustody c k).custodyOf c = k := by
  simp [State.custodyOf_setCustody]

theorem State.custodyOf_setCustody_ne (c : CellNo) (k : Custody) (d : CellNo) (h : d ≠ c) : (s.setCustody c k).custodyOf d = s.custodyOf d := by
  simp [State.custodyOf_setCustody, Ne.symm h]

end Sys2Proof.Machine
end

