-- ==== Sys2Proof/Laws/Memory.lean ====
section
/-! SUPPORT. Work memory: a read after a write, and the canonical form that every write keeps. -/

namespace Sys2Proof.Machine

/-! ## Reading -/

/-- Nothing is listed below the first address that the form allows. -/
theorem Memory.read_below {m : Memory} {low : Nat} (h : Memory.wfFrom low m = true) {b : Nat} (hb : b < low) :
    Memory.read m b = Memory.unlisted := by
  induction m generalizing low with
  | nil => rfl
  | cons x rest ih =>
    obtain ⟨k, w⟩ := x
    simp only [Memory.wfFrom, Bool.and_eq_true, decide_eq_true_eq] at h
    rw [Memory.read, if_neg (by omega)]
    exact ih h.2 (by omega)

theorem Memory.read_write_from {m : Memory} {low : Nat} (h : Memory.wfFrom low m = true) (a b : Nat) (v : Word) :
    Memory.read (Memory.write m a v) b = if a = b then v else Memory.read m b := by
  induction m generalizing low with
  | nil => by_cases hv : v = Memory.unlisted <;> by_cases hab : a = b <;> simp [Memory.write, Memory.read, hv, hab]
  | cons x rest ih =>
    obtain ⟨k, w⟩ := x
    simp only [Memory.wfFrom, Bool.and_eq_true, decide_eq_true_eq] at h
    have hk : Memory.read rest k = Memory.unlisted := Memory.read_below h.2 (by omega)
    rcases Nat.lt_trichotomy a k with hak | hak | hak
    · have ha : Memory.read rest a = Memory.unlisted := Memory.read_below h.2 (by omega)
      by_cases hv : v = Memory.unlisted <;> by_cases hab : a = b
      · subst hab
        have hka : k ≠ a := by omega
        simp [Memory.write, hak, hv, Memory.read, ha, hka]
      · simp [Memory.write, hak, hv, hab]
      · subst hab
        simp [Memory.write, hak, hv, Memory.read]
      · simp [Memory.write, hak, hv, Memory.read, hab]
    · subst hak
      by_cases hv : v = Memory.unlisted <;> by_cases hab : a = b
      · subst hab
        simp [Memory.write, hv, hk]
      · simp [Memory.write, hv, Memory.read, hab]
      · subst hab
        simp [Memory.write, hv, Memory.read]
      · simp [Memory.write, hv, Memory.read, hab]
    · have h1 : ¬ a < k := by omega
      have h2 : a ≠ k := by omega
      by_cases hkb : k = b
      · subst hkb
        simp [Memory.write, h1, h2, Memory.read]
      · simp [Memory.write, h1, h2, Memory.read, hkb, ih h.2]

/-- A read of the state after one word is written. -/
theorem State.readMem_writeMem (s : State) (a b : Nat) (v : Word) (h : s.memOk) :
    (s.writeMem a v).readMem b = if a = b then v else s.readMem b :=
  Memory.read_write_from h a b v

/-! ## The canonical form -/

theorem Memory.wfFrom_write {m : Memory} {low : Nat} (h : Memory.wfFrom low m = true) {a : Nat} (v : Word)
    (hlow : low ≤ a) (ha : a < 32768) : Memory.wfFrom low (Memory.write m a v) = true := by
  induction m generalizing low with
  | nil => by_cases hv : v = Memory.unlisted <;> simp [Memory.write, Memory.wfFrom, hv, hlow, ha]
  | cons x rest ih =>
    obtain ⟨k, w⟩ := x
    have h' := h
    simp only [Memory.wfFrom, Bool.and_eq_true, decide_eq_true_eq] at h
    obtain ⟨⟨⟨h1, h2⟩, h3⟩, h4⟩ := h
    rcases Nat.lt_trichotomy a k with hak | hak | hak
    · by_cases hv : v = Memory.unlisted
      · simpa [Memory.write, hak, hv] using h'
      · have hka : a + 1 ≤ k := hak
        simp [Memory.write, hak, hv, Memory.wfFrom, hlow, ha, hka, h2, h3, h4]
    · subst hak
      by_cases hv : v = Memory.unlisted
      · have widen : ∀ (r : Memory) (i j : Nat), j ≤ i → Memory.wfFrom i r = true → Memory.wfFrom j r = true := by
          intro r i j hij hr
          cases r with
          | nil => rfl
          | cons y r =>
            simp only [Memory.wfFrom, Bool.and_eq_true, decide_eq_true_eq] at hr ⊢
            exact ⟨⟨⟨by omega, hr.1.1.2⟩, hr.1.2⟩, hr.2⟩
        simpa [Memory.write, hv] using widen _ _ _ (by omega) h4
      · simp [Memory.write, hv, Memory.wfFrom, hlow, ha, h4]
    · have h5 : ¬ a < k := by omega
      have h6 : a ≠ k := by omega
      simp [Memory.write, h5, h6, Memory.wfFrom, h1, h2, h3, ih h4 (by omega)]

/-- Every write inside the 32,768 words keeps the form. -/
theorem State.memOk_writeMem {s : State} (h : s.memOk) {a : Nat} (v : Word) (ha : a < 32768) : (s.writeMem a v).memOk :=
  Memory.wfFrom_write h v (Nat.zero_le a) ha

theorem State.memOk_writeTicks {s : State} (h : s.memOk) {a : Nat} (t : Ticks) (ha : a + 1 < 32768) :
    (s.writeTicks a t).memOk :=
  State.memOk_writeMem (State.memOk_writeMem h _ (by omega)) _ ha

theorem State.memOk_writeWords {s : State} (h : s.memOk) {a : Nat} (ws : List Word) (ha : a + ws.length ≤ 32768) :
    (s.writeWords a ws).memOk := by
  induction ws generalizing s a with
  | nil => exact h
  | cons w rest ih =>
    simp only [List.length_cons] at ha
    exact ih (State.memOk_writeMem h w (by omega)) (by omega)

/-- The words an ended cell is written with, as one list of writes. -/
theorem State.endCell_eq (s : State) (c : CellNo) (st : CellState) (out : JobOutcome) (why : Reason) (start : Ticks) :
    s.endCell c st out why start =
      ((((((s.writeMem (cellBase c + 3) (packWord [(8, out.code), (0, why.code)])).writeMem (cellBase c + 4)
        (highWord start)).writeMem (cellBase c + 5) (lowWord start)).writeMem (cellBase c + 6)
        (highWord s.tick)).writeMem (cellBase c + 7) (lowWord s.tick)).writeMem (cellBase c) st.code).setCustody c
        .outside := rfl

theorem State.memOk_endCell {s : State} (h : s.memOk) (c : CellNo) (st : CellState) (out : JobOutcome) (why : Reason)
    (start : Ticks) : (s.endCell c st out why start).memOk := by
  have hc := c.isLt
  have base : cellBase c = 0x0400 + 32 * c.val := rfl
  rw [State.endCell_eq, State.memOk, State.setCustody_mem]
  have m1 := State.memOk_writeMem h (a := cellBase c + 3) (packWord [(8, out.code), (0, why.code)]) (by omega)
  have m2 := State.memOk_writeMem m1 (a := cellBase c + 4) (highWord start) (by omega)
  have m3 := State.memOk_writeMem m2 (a := cellBase c + 5) (lowWord start) (by omega)
  have m4 := State.memOk_writeMem m3 (a := cellBase c + 6) (highWord s.tick) (by omega)
  have m5 := State.memOk_writeMem m4 (a := cellBase c + 7) (lowWord s.tick) (by omega)
  exact State.memOk_writeMem m5 st.code (by omega)

theorem State.memOk_writeCellState {s : State} (h : s.memOk) (c : CellNo) (st : CellState) :
    (s.writeCellState c st).memOk := by
  have hc := c.isLt
  have base : cellBase c = 0x0400 + 32 * c.val := rfl
  exact State.memOk_writeMem h st.code (by omega)

theorem State.memOk_freeSlab {s : State} (h : s.memOk) (k : Option SlabNo) : (s.freeSlab k).memOk := by
  cases k with
  | none => exact h
  | some k =>
    have hk := k.isLt
    have owner : ownerAddr k = 0x0080 + k.val := rfl
    exact State.memOk_writeMem h ownerFree (by omega)

theorem State.memOk_updMeas {s : State} (h : s.memOk) (e : EngineNo) (f : Measurement → Measurement) :
    (s.updMeas e f).memOk := by
  unfold State.updMeas
  split
  · rw [State.memOk, State.setEngine_mem]
    exact h
  · exact h

theorem State.memOk_allocateSlab {s : State} (h : s.memOk) (e : EngineNo) : (s.allocateSlab e).memOk := by
  unfold State.allocateSlab
  split
  · rename_i k _
    have hk := k.isLt
    have owner : ownerAddr k = 0x0080 + k.val := rfl
    exact State.memOk_updMeas (State.memOk_writeMem h ownerFilling (by omega)) e _
  · have := State.memOk_updMeas h e fun m => { m with flags := m.flags ||| flagTraceShort }
    exact this

theorem State.memOk_writeTrace {s : State} (h : s.memOk) (k : SlabNo) (m : Measurement) (p : Pair) (vs : List Int) :
    (s.writeTrace k m p vs).memOk := by
  have hk := k.isLt
  have base : slabBase k = 0x2C00 + 512 * k.val := rfl
  have entry : slabEntryBase k = 0x0100 + 4 * k.val := rfl
  have owner : ownerAddr k = 0x0080 + k.val := rfl
  have len : ((vs.take 512).map fun v => (BitVec.ofInt 16 v : Word)).length ≤ 512 := by
    rw [List.length_map, List.length_take]
    omega
  exact State.memOk_writeMem (State.memOk_writeWords (State.memOk_writeWords h _ (by omega)) _
    (by simp only [List.length_cons, List.length_nil]; omega)) ownerHeld (by omega)

/-- Consecutive words read back, and every other word as before. -/
theorem State.readMem_writeWords {s : State} (h : s.memOk) {a : Nat} (ws : List Word) (ha : a + ws.length ≤ 32768)
    (b : Nat) : (s.writeWords a ws).readMem b =
      if a ≤ b ∧ b < a + ws.length then ws.getD (b - a) 0 else s.readMem b := by
  induction ws generalizing s a with
  | nil => rw [if_neg (by simp only [List.length_nil]; omega)]; rfl
  | cons w rest ih =>
    simp only [List.length_cons] at ha ⊢
    rw [State.writeWords, ih (State.memOk_writeMem h w (by omega)) (by omega), State.readMem_writeMem s a b w h]
    by_cases hab : a = b
    · subst hab
      simp
    · by_cases hin : a + 1 ≤ b ∧ b < a + 1 + rest.length
      · have e : b - a = (b - (a + 1)) + 1 := by omega
        rw [if_pos hin, if_pos (by omega), e, List.getD_cons_succ]
      · rw [if_neg hin, if_neg hab, if_neg (by omega)]

/-! ## Cells -/

/-- Two cells share no word. -/
theorem cellBase_ne {c d : CellNo} (h : d ≠ c) {i j : Nat} (hi : i < 32) (hj : j < 32) :
    cellBase c + i ≠ cellBase d + j := by
  have hv : c.val ≠ d.val := fun e => h (Fin.ext e.symm)
  unfold cellBase
  omega

/-- An ended cell reads as R135 says, and nothing else of work memory changes. -/
theorem State.endCell_reads {s : State} (h : s.memOk) (c : CellNo) (st : CellState) (out : JobOutcome) (why : Reason)
    (start : Ticks) (b : Nat) : (s.endCell c st out why start).readMem b =
      if b = cellBase c then st.code
      else if b = cellBase c + 3 then packWord [(8, out.code), (0, why.code)]
      else if b = cellBase c + 4 then highWord start
      else if b = cellBase c + 5 then lowWord start
      else if b = cellBase c + 6 then highWord s.tick
      else if b = cellBase c + 7 then lowWord s.tick
      else s.readMem b := by
  have hc := c.isLt
  have base : cellBase c = 0x0400 + 32 * c.val := rfl
  have m1 := State.memOk_writeMem h (a := cellBase c + 3) (packWord [(8, out.code), (0, why.code)]) (by omega)
  have m2 := State.memOk_writeMem m1 (a := cellBase c + 4) (highWord start) (by omega)
  have m3 := State.memOk_writeMem m2 (a := cellBase c + 5) (lowWord start) (by omega)
  have m4 := State.memOk_writeMem m3 (a := cellBase c + 6) (highWord s.tick) (by omega)
  have m5 := State.memOk_writeMem m4 (a := cellBase c + 7) (lowWord s.tick) (by omega)
  rw [State.endCell_eq, State.setCustody_readMem, State.readMem_writeMem _ _ _ _ m5, State.readMem_writeMem _ _ _ _ m4,
    State.readMem_writeMem _ _ _ _ m3, State.readMem_writeMem _ _ _ _ m2, State.readMem_writeMem _ _ _ _ m1,
    State.readMem_writeMem _ _ _ _ h]
  clear m1 m2 m3 m4 m5
  generalize cellBase c = k
  split_ifs <;> first | rfl | omega

end Sys2Proof.Machine
end

