-- ==== Sys2Proof/Laws/Publication.lean ====
section
/-! SUPPORT. Edits of port pages (R153) and the shape every command shares: what is left when the edits close. -/

namespace Sys2Proof.Machine

/-! ## One port -/

theorem Port.closeEdit_of_even {x : Port} (h : x.editCount.getLsbD 0 = false) : x.closeEdit = x := by
  rw [Port.closeEdit, h, if_neg Bool.false_ne_true]

theorem Port.openEdit_of_odd {x : Port} (h : x.editCount.getLsbD 0 = true) : x.openEdit = x := by
  rw [Port.openEdit, h, if_pos rfl]

theorem Port.openEdit_of_even {x : Port} (h : x.editCount.getLsbD 0 = false) :
    x.openEdit = { x with editCount := x.editCount + 1 } := by
  rw [Port.openEdit, h, if_neg Bool.false_ne_true]

theorem Port.closeEdit_of_odd {x : Port} (h : x.editCount.getLsbD 0 = true) :
    x.closeEdit = { x with editCount := x.editCount + 1 } := by
  rw [Port.closeEdit, h, if_pos rfl]

theorem evenCount_succ (n : Word) : (n + 1).getLsbD 0 = !n.getLsbD 0 := by
  have h1 : (1 : Word).toNat = 1 := rfl
  rw [BitVec.getLsbD, BitVec.getLsbD, BitVec.toNat_add, h1, Nat.testBit_zero, Nat.testBit_zero]
  rcases Nat.mod_two_eq_zero_or_one n.toNat with h | h
  · have e : (n.toNat + 1) % 2 ^ 16 % 2 = 1 := by omega
    rw [e, h]; rfl
  · have e : (n.toNat + 1) % 2 ^ 16 % 2 = 0 := by omega
    rw [e, h]; rfl

theorem Port.openEdit_isOdd (x : Port) : x.openEdit.editCount.getLsbD 0 = true := by
  cases h : x.editCount.getLsbD 0
  · rw [Port.openEdit_of_even h, evenCount_succ, h]; rfl
  · rw [Port.openEdit_of_odd h, h]

theorem Port.closeEdit_isEven (x : Port) : x.closeEdit.editCount.getLsbD 0 = false := by
  cases h : x.editCount.getLsbD 0
  · rw [Port.closeEdit_of_even h, h]
  · rw [Port.closeEdit_of_odd h, evenCount_succ, h]; rfl

/-- One edit of an even page is the count two higher. -/
theorem Port.closeEdit_openEdit {x : Port} (h : x.editCount.getLsbD 0 = false) : x.openEdit.closeEdit = x.edited := by
  have e : x.editCount + 1 + 1 = x.editCount + 2 := by rw [BitVec.add_assoc]; rfl
  rw [Port.closeEdit_of_odd x.openEdit_isOdd, Port.openEdit_of_even h, Port.edited, ← e]

@[simp] theorem Port.openEdit_openEdit (x : Port) : x.openEdit.openEdit = x.openEdit :=
  Port.openEdit_of_odd x.openEdit_isOdd

/-! ## The page of a port written -/

/-- A port that became y, with the event's edit open if its page changed. -/
theorem State.updPort_eq (s : State) (p : PortNo) (f : Port → Port) :
    s.updPort p f = s.setPort p
      (if Port.samePage (s.port p) (f (s.port p)) then f (s.port p) else (f (s.port p)).openEdit) := rfl

theorem State.updPort_of_same {s : State} {p : PortNo} {f : Port → Port}
    (h : Port.samePage (s.port p) (f (s.port p)) = true) : s.updPort p f = s.setPort p (f (s.port p)) := by
  rw [State.updPort_eq, if_pos h]

theorem State.updPort_of_changed {s : State} {p : PortNo} {f : Port → Port}
    (h : Port.samePage (s.port p) (f (s.port p)) = false) : s.updPort p f = s.setPort p (f (s.port p)).openEdit := by
  rw [State.updPort_eq, if_neg (by simp [h])]

/-- The page shows another state word, so it has changed. -/
theorem Port.samePage_of_status_ne {x y : Port} (h : x.status ≠ y.status) : Port.samePage x y = false := by
  simp [Port.samePage, h]

/-- The page shows the same when status, presence of a profile, list, history and report are the same. -/
theorem Port.samePage_of_eq {x y : Port} (h1 : x.status = y.status) (h2 : x.profile = y.profile) (h3 : x.jobs = y.jobs)
    (h4 : x.history = y.history) (h5 : x.report = y.report) : Port.samePage x y = true := by
  simp [Port.samePage, h1, h2, h3, h4, h5]

theorem Port.samePage_openEdit_left (x y : Port) : Port.samePage x.openEdit y = Port.samePage x y := by
  unfold Port.openEdit
  split_ifs <;> rfl

/-- A second change of a port in one event that does not touch the edit count: the page has changed if either changed
it. -/
theorem State.updPort_updPort (s : State) (p : PortNo) (f g : Port → Port)
    (hg : ∀ x : Port, g x.openEdit = (g x).openEdit) :
    (s.updPort p f).updPort p g = s.setPort p
      (if Port.samePage (s.port p) (f (s.port p)) && Port.samePage (f (s.port p)) (g (f (s.port p)))
        then g (f (s.port p)) else (g (f (s.port p))).openEdit) := by
  have same : ∀ x y : Port, Port.samePage x y.openEdit = Port.samePage x y := by
    intro x y
    unfold Port.openEdit
    split_ifs <;> rfl
  have h1 : ∀ x : Port, (s.setPort p x).port p = x := fun x => by
    simp only [State.port, State.setPort, Fin.getElem_fin, Vector.getElem_set_self]
  have h2 : ∀ x y : Port, (s.setPort p x).setPort p y = s.setPort p y := fun x y => by
    simp only [State.setPort, Vector.set_set]
  rw [State.updPort_eq s p f, State.updPort_eq, h1, h2]
  cases h : Port.samePage (s.port p) (f (s.port p)) with
  | true => simp
  | false => simp [hg, Port.samePage_openEdit_left, same]

/-! ## Replacing a port -/

@[simp] theorem State.setPort_setPort (s : State) (p : PortNo) (x y : Port) :
    (s.setPort p x).setPort p y = s.setPort p y := by
  simp [State.setPort]

@[simp] theorem State.setPort_port (s : State) (p : PortNo) : s.setPort p (s.port p) = s := by
  simp [State.setPort, State.port]

theorem State.ext_ports {s t : State} (h : t = { s with ports := t.ports }) (hp : ∀ p, t.port p = s.port p) : t = s := by
  have e : t.ports = s.ports := by
    apply Vector.ext
    intro i hi
    exact hp ⟨i, hi⟩
  rw [h, e]

/-! ## Edits close -/

theorem State.port_closeEdits (s : State) (p : PortNo) : s.closeEdits.port p = (s.port p).closeEdit := by
  simp [State.closeEdits, State.port]

theorem State.editsClosed_closeEdits (s : State) : s.closeEdits.editsClosed := fun p => by
  rw [State.port_closeEdits]
  exact Port.closeEdit_isEven _

theorem State.closeEdits_eq {s : State} (h : s.editsClosed) : s.closeEdits = s :=
  State.ext_ports rfl fun p => by rw [State.port_closeEdits, Port.closeEdit_of_even (h p)]

theorem State.closeEdits_setPort {s : State} (h : s.editsClosed) (p : PortNo) (x : Port) :
    (s.setPort p x).closeEdits = s.setPort p x.closeEdit := by
  refine State.ext_ports rfl fun q => ?_
  rw [State.port_closeEdits, State.port_setPort, State.port_setPort]
  split_ifs
  · rfl
  · exact Port.closeEdit_of_even (h q)

theorem State.editsClosed_of_ports {s t : State} (h : s.editsClosed) (e : t.ports = s.ports) : t.editsClosed := by
  intro p
  have : t.port p = s.port p := by simp [State.port, e]
  rw [this]
  exact h p

/-- With the pages as in a state whose edits are closed there is nothing to close. -/
theorem State.closeEdits_of_ports {s t : State} (h : s.editsClosed) (e : t.ports = s.ports) : t.closeEdits = t :=
  State.closeEdits_eq (State.editsClosed_of_ports h e)

/-- At the close a changed page has had one edit. -/
theorem State.closeEdits_updPort_changed {s : State} (h : s.editsClosed) {p : PortNo} {f : Port → Port}
    (hf : (f (s.port p)).editCount = (s.port p).editCount) (hc : Port.samePage (s.port p) (f (s.port p)) = false) :
    (s.updPort p f).closeEdits = s.setPort p (f (s.port p)).edited := by
  rw [State.updPort_of_changed hc, State.closeEdits_setPort h, Port.closeEdit_openEdit]
  rw [hf]
  exact h p

/-- At the close a page that shows the same has had no edit. -/
theorem State.closeEdits_updPort_same {s : State} (h : s.editsClosed) {p : PortNo} {f : Port → Port}
    (hf : (f (s.port p)).editCount = (s.port p).editCount) (hc : Port.samePage (s.port p) (f (s.port p)) = true) :
    (s.updPort p f).closeEdits = s.setPort p (f (s.port p)) := by
  rw [State.updPort_of_same hc, State.closeEdits_setPort h, Port.closeEdit_of_even]
  rw [hf]
  exact h p

/-! ## Taking a command -/

theorem State.take_asserted {s : State} (h : s.resetPin = true) (f : State → State) : s.take f = .next s := by
  simp [State.take, h]

theorem State.take_released {s : State} (h : s.resetPin = false) (f : State → State) :
    s.take f = .next (f s).closeEdits := by
  simp [State.take, h]

theorem State.take_working {s : State} (h : s.working) (f : State → State) :
    (s.take fun s => s.ifRunning f) = .next (f s).closeEdits := by
  rw [State.take_released h.1, State.ifRunning, if_pos h.2]

/-- A command that leaves the state alone is answered by the same state. -/
theorem State.take_unchanged {s : State} (h : s.editsClosed) {f : State → State} (e : f s = s) : s.take f = .next s := by
  unfold State.take
  split_ifs
  · rfl
  · rw [e, State.closeEdits_eq h]

/-- A command that changes no page. -/
theorem State.take_plain {s : State} (h : s.resetPin = false) (hc : s.editsClosed) {f : State → State}
    (e : (f s).ports = s.ports) : s.take f = .next (f s) := by
  rw [State.take_released h, State.closeEdits_of_ports hc e]

/-- A command that changes one port and nothing else. -/
theorem State.take_setPort {s : State} (h : s.working) (hc : s.editsClosed) {f : State → State} {p : PortNo} {x : Port}
    (e : f s = s.setPort p x) : (s.take fun s => s.ifRunning f) = .next (s.setPort p x.closeEdit) := by
  rw [State.take_working h, e, State.closeEdits_setPort hc]

/-- Every command that is taken leaves each edit closed (R153). -/
theorem State.editsClosed_take {s t : State} {f : State → State} (h : s.editsClosed) (e : s.take f = .next t) :
    t.editsClosed := by
  unfold State.take at e
  split_ifs at e <;> injection e with e <;> subst e
  · exact h
  · exact State.editsClosed_closeEdits _

end Sys2Proof.Machine
end

