-- ==== Sys2Proof/Laws/Frames.lean ====
section
/-! SUPPORT. What each shared operation leaves alone, and the cases in which it leaves everything alone. -/

namespace Sys2Proof.Machine

variable (s : State)

/-! ## A change of one port -/

@[simp] theorem State.updPort_intakeDue (p : PortNo) (f : Port → Port) : (s.updPort p f).intakeDue = s.intakeDue := rfl
@[simp] theorem State.updPort_pending (p : PortNo) (f : Port → Port) : (s.updPort p f).pending = s.pending := rfl
@[simp] theorem State.updPort_resetPin (p : PortNo) (f : Port → Port) : (s.updPort p f).resetPin = s.resetPin := rfl
@[simp] theorem State.updPort_runState (p : PortNo) (f : Port → Port) : (s.updPort p f).runState = s.runState := rfl
@[simp] theorem State.updPort_tick (p : PortNo) (f : Port → Port) : (s.updPort p f).tick = s.tick := rfl
@[simp] theorem State.updPort_mem (p : PortNo) (f : Port → Port) : (s.updPort p f).mem = s.mem := rfl
@[simp] theorem State.updPort_custody (p : PortNo) (f : Port → Port) : (s.updPort p f).custody = s.custody := rfl
@[simp] theorem State.updPort_engines (p : PortNo) (f : Port → Port) : (s.updPort p f).engines = s.engines := rfl
@[simp] theorem State.updPort_grants (p : PortNo) (f : Port → Port) : (s.updPort p f).grants = s.grants := rfl
@[simp] theorem State.updPort_claims (p : PortNo) (f : Port → Port) : (s.updPort p f).claims = s.claims := rfl
@[simp] theorem State.updPort_requests (p : PortNo) (f : Port → Port) : (s.updPort p f).requests = s.requests := rfl
@[simp] theorem State.updPort_intakeQueue (p : PortNo) (f : Port → Port) :
    (s.updPort p f).intakeQueue = s.intakeQueue := rfl
@[simp] theorem State.updPort_isReady (p : PortNo) (f : Port → Port) (q : QuadNo) :
    (s.updPort p f).isReady q = s.isReady q := rfl
@[simp] theorem State.updPort_engineOf (p q : PortNo) (f : Port → Port) :
    (s.updPort p f).engineOf q = s.engineOf q := rfl
@[simp] theorem State.setPort_engineOf (p q : PortNo) (x : Port) : (s.setPort p x).engineOf q = s.engineOf q := rfl

/-- Another port is as it was. -/
theorem State.port_updPort_ne {p q : PortNo} (h : q ≠ p) (f : Port → Port) : (s.updPort p f).port q = s.port q :=
  State.port_setPort_ne s p _ q h

/-- The port itself is what the change makes of it, but for the edit count. -/
theorem State.port_updPort_self (p : PortNo) (f : Port → Port) :
    (s.updPort p f).port p = f (s.port p) ∨ (s.updPort p f).port p = (f (s.port p)).openEdit := by
  rw [State.updPort_eq, State.port_setPort_self]
  split_ifs
  · exact .inl rfl
  · exact .inr rfl

/-- A change that leaves the port as it was leaves everything as it was. -/
theorem State.updPort_id {s : State} {p : PortNo} {f : Port → Port} (h : f (s.port p) = s.port p) :
    s.updPort p f = s := by
  have e : Port.samePage (s.port p) (s.port p) = true := Port.samePage_of_eq rfl rfl rfl rfl rfl
  rw [State.updPort_eq, h, if_pos e, State.setPort_port]

/-- A property of ports that no edit count decides holds after a change that gives it. -/
theorem State.updPort_keeps {s : State} (P : Port → Prop) (hP : ∀ x : Port, P x → P x.openEdit) {p : PortNo}
    {f : Port → Port} (hf : P (f (s.port p))) (h : ∀ q, q ≠ p → P (s.port q)) (q : PortNo) :
    P ((s.updPort p f).port q) := by
  by_cases hq : q = p
  · subst hq
    rcases s.port_updPort_self q f with e | e
    · rw [e]; exact hf
    · rw [e]; exact hP _ hf
  · rw [s.port_updPort_ne hq]
    exact h q hq

/-! ## Operations done for a list in order -/

theorem State.forEach_nil {α : Type} (f : State → α → State) : s.forEach [] f = s := rfl

theorem State.forEach_cons {α : Type} (x : α) (xs : List α) (f : State → α → State) :
    s.forEach (x :: xs) f = (f s x).forEach xs f := rfl

/-- What every turn keeps, the whole keeps. -/
theorem State.forEach_keeps {α : Type} (P : State → Prop) (f : State → α → State) (hf : ∀ s x, P s → P (f s x)) :
    ∀ (xs : List α) {s : State}, P s → P (s.forEach xs f)
  | [], _, h => h
  | x :: xs, s, h => State.forEach_keeps P f hf xs (hf s x h)

/-- Turns that each leave the state alone leave it alone. -/
theorem State.forEach_id {α : Type} {s : State} {f : State → α → State} {xs : List α} (h : ∀ x ∈ xs, f s x = s) :
    s.forEach xs f = s := by
  induction xs with
  | nil => rfl
  | cons x xs ih =>
    rw [State.forEach_cons, h x List.mem_cons_self]
    exact ih fun y hy => h y (List.mem_cons_of_mem _ hy)

/-! ## A tick -/

/-- With no entry owed, a TICK is the tick at every block but intake (R158, log entry 5). -/
theorem exec_tick_blocks {s : State} (h : s.working) (hd : s.intakeDue = false) :
    exec .tick s = .next ({ s.tickBlocks with intakeDue := !s.intakeQueue.isEmpty } : State).closeEdits := by
  show (s.take fun s => s.ifRunning State.takeTick) = _
  rw [State.take_working h, State.takeTick, hd, if_neg Bool.false_ne_true]

/-- With an entry owed, a TICK is intake's entry (R139, log entry 5). -/
theorem exec_tick_entry {s : State} (h : s.working) (hd : s.intakeDue = true) :
    exec .tick s = .next ({ s with intakeDue := false } : State).intakeTake.closeEdits := by
  show (s.take fun s => s.ifRunning State.takeTick) = _
  rw [State.take_working h, State.takeTick, if_pos hd]

/-! ## Jobs -/

/-- Where a job runs, or the list is empty, nothing starts (R143). -/
theorem State.startJobs_settled {s : State} {p : PortNo} (h : (s.port p).settled) : s.startJobs p = s := by
  unfold State.startJobs
  cases hj : (s.port p).jobs with
  | nil => rfl
  | cons j rest =>
    rcases h with h | h
    · rw [hj] at h
      cases h
    · rw [List.length_cons, State.startJobsUpTo, if_neg]
      simp [h]

/-- A sequence that no TRAIN job began ends without touching a cell (R10). -/
theorem State.endTrain_other {s : State} {p : PortNo} (h : (s.port p).runsTrain = false) (out : JobOutcome) :
    s.endTrain p out = s := by
  rw [State.endTrain, h]
  rfl

theorem Port.runsTrain_jobless {x : Port} (h : x.jobless) : x.runsTrain = false := by
  simp [Port.runsTrain, h.2]

/-- A jobless port has nothing to end and nothing to start. -/
theorem State.endTrain_jobless {s : State} {p : PortNo} (h : (s.port p).jobless) (out : JobOutcome) :
    s.endTrain p out = s :=
  State.endTrain_other (Port.runsTrain_jobless h) out

/-! ## The arbiter -/

/-- With no request the grant rule grants nothing (R111). -/
theorem State.applyGrantRule_noRequests {s : State} (h : s.requests = []) : s.applyGrantRule = s := by
  have e : s.pickRequest = none := by simp [State.pickRequest, h]
  unfold State.applyGrantRule State.grantUpTo
  rw [e]
  cases s.freeEngine <;> rfl

/-- With no engine free the grant rule grants nothing (R111). -/
theorem State.applyGrantRule_noEngine {s : State} (h : ∀ e, (s.engine e).meas ≠ none ∨ s.grant e ≠ none) :
    s.applyGrantRule = s := by
  have e : s.freeEngine = none := by
    unfold State.freeEngine
    rw [List.find?_eq_none]
    intro f _
    rcases h f with hf | hf <;> simp [hf]
  unfold State.applyGrantRule State.grantUpTo
  rw [e]

/-- What a single grant keeps, the grant rule keeps. -/
theorem State.applyGrantRule_keeps (P : State → Prop)
    (hP : ∀ (s : State) (e : EngineNo) (r : Request), s.freeEngine = some e → s.pickRequest = some r → P s →
      P (s.makeGrant e r)) {s : State} (h : P s) : P s.applyGrantRule := by
  suffices H : ∀ (n : Nat) (s : State), P s → P (State.grantUpTo n s) from H 4 s h
  intro n
  induction n with
  | zero => exact fun _ h => h
  | succ n ih =>
    intro s h
    unfold State.grantUpTo
    split
    · rename_i e r he hr
      exact ih _ (hP s e r he hr h)
    · exact h

/-- The grant rule touches the request list, the grant table and the claims alone. -/
theorem State.applyGrantRule_frame : s.applyGrantRule = { s with
    requests := s.applyGrantRule.requests, grants := s.applyGrantRule.grants, claims := s.applyGrantRule.claims } :=
  State.applyGrantRule_keeps
    (fun t => t = { s with requests := t.requests, grants := t.grants, claims := t.claims })
    (fun t e r _ _ h => by
      show t.makeGrant e r = { s with
        requests := (t.makeGrant e r).requests, grants := (t.makeGrant e r).grants, claims := (t.makeGrant e r).claims }
      conv_lhs => rw [h]
      rfl)
    rfl

/-- No request of the list is eligible (R111). -/
theorem State.pickRequest_eq_none {s : State} :
    s.pickRequest = none ↔ ∀ r ∈ s.requests, s.eligible r = false := by
  unfold State.pickRequest
  constructor
  · intro h r hr
    split at h
    · cases h
    · simpa using List.find?_eq_none.mp h r hr
  · intro h
    rw [List.find?_eq_none.mpr fun r hr => by simp [h r hr]]
    exact List.find?_eq_none.mpr fun r hr => by simp [h r hr]

/-- No engine is FREE without a grant decided for it (R111). -/
theorem State.freeEngine_eq_none {s : State} :
    s.freeEngine = none ↔ ∀ e, (s.engine e).meas ≠ none ∨ s.grant e ≠ none := by
  simp only [State.freeEngine, List.find?_eq_none, List.mem_finRange, true_implies, Bool.and_eq_true,
    Option.isNone_iff_eq_none, not_and_or, ne_eq]

theorem State.isFree_of_freeEngine {s : State} {e : EngineNo} (h : s.freeEngine = some e) :
    (s.engine e).meas = none ∧ s.grant e = none := by
  simpa [State.freeEngine] using List.find?_some h

/-- After a grant the engine granted is no longer free, and no other has become free (R111 step 4). -/
theorem State.free_makeGrant {s : State} {e f : EngineNo} {r : Request}
    (h : ((s.makeGrant e r).engine f).meas = none ∧ (s.makeGrant e r).grant f = none) :
    f ≠ e ∧ (s.engine f).meas = none ∧ s.grant f = none := by
  have hg : (s.makeGrant e r).grant f = if e = f then some ⟨r, false⟩ else s.grant f := by
    simp [State.makeGrant, State.grant, State.setGrant, State.setClaim, Vector.getElem_set, Fin.ext_iff]
  rw [hg] at h
  by_cases hef : e = f
  · rw [if_pos hef] at h
    cases h.2
  · rw [if_neg hef] at h
    exact ⟨fun h' => hef h'.symm, h.1, h.2⟩

/-- The grant rule ends with no engine free or no eligible request (R111): four grants hold every engine. -/
theorem State.applyGrantRule_ends : s.applyGrantRule.freeEngine = none ∨ s.applyGrantRule.pickRequest = none := by
  have H : ∀ (n : Nat) (s : State) (l : List EngineNo), l.length ≤ n →
      (∀ e, (s.engine e).meas = none ∧ s.grant e = none → e ∈ l) →
      (State.grantUpTo n s).freeEngine = none ∨ (State.grantUpTo n s).pickRequest = none := by
    intro n
    induction n with
    | zero =>
      intro s l hl h
      refine .inl (State.freeEngine_eq_none.mpr fun e => ?_)
      rw [List.eq_nil_of_length_eq_zero (Nat.le_zero.mp hl)] at h
      by_contra hc
      rw [not_or, not_not, not_not] at hc
      exact List.not_mem_nil (h e hc)
    | succ n ih =>
      intro s l hl h
      unfold State.grantUpTo
      split
      · rename_i e r he hr
        have hm := h e (State.isFree_of_freeEngine he)
        refine ih _ (l.erase e) (by rw [List.length_erase_of_mem hm]; omega) fun f hf => ?_
        obtain ⟨hne, hfree⟩ := State.free_makeGrant hf
        exact (List.mem_erase_of_ne hne).mpr (h f hfree)
      · rename_i hx
        cases he : s.freeEngine with
        | none => exact .inl rfl
        | some e =>
          cases hr : s.pickRequest with
          | none => exact .inr rfl
          | some r => exact absurd hr (hx e r he)
  exact H 4 s (List.finRange 4) (by simp) fun e _ => List.mem_finRange e

/-- A port with no request has nothing to withdraw (R114). -/
theorem State.withdraw_none {s : State} {p : PortNo} (h : (s.port p).request = none) : s.withdraw p = s :=
  State.updPort_id (by simp only [h])

/-! ## Engines -/

/-- A change of what an engine holds changes that engine alone, and whether it is held stays. -/
theorem State.updMeas_some {s : State} {e : EngineNo} {m : Measurement} (h : (s.engine e).meas = some m)
    (f : Measurement → Measurement) :
    s.updMeas e f = s.setEngine e { s.engine e with meas := some (f m) } := by
  rw [State.updMeas, h]

theorem State.updMeas_none {s : State} {e : EngineNo} (h : (s.engine e).meas = none) (f : Measurement → Measurement) :
    s.updMeas e f = s := by
  rw [State.updMeas, h]

/-- No chip is sent on the line of a port that no engine holds, nor outside SHOOTING (R86). -/
theorem State.pulseOn_free {s : State} {p : PortNo} (h : s.engineOf p = none) (q : Pair) (t : Nat) :
    s.pulseOn p q t = none := by
  rw [State.pulseOn, h]

theorem State.pulseOn_held {s : State} {p : PortNo} {e : EngineNo} {m : Measurement} (h : s.engineOf p = some e)
    (hm : (s.engine e).meas = some m) (q : Pair) (t : Nat) : s.pulseOn p q t = m.driveOn q t := by
  rw [State.pulseOn, h]
  simp only [hm, Option.bind_some]

theorem Measurement.driveOn_silent {m : Measurement} (h : ∀ n k acc, m.phase ≠ .shooting n k acc) (q : Pair) (t : Nat) :
    m.driveOn q t = none := by
  unfold Measurement.driveOn
  split
  · rename_i n k acc hp
    exact absurd hp (h n k acc)
  · rfl
  · rfl

theorem Measurement.driveOn_shooting {m : Measurement} {n k : Nat} {acc : Pairs Accumulators}
    (h : m.phase = .shooting n k acc) (q : Pair) (t : Nat) :
    m.driveOn q t = if m.pair = some q then m.pattern[t / m.recipe.chipDivider]? else none := by
  unfold Measurement.driveOn
  rw [h]
  rfl

end Sys2Proof.Machine
end

