-- ==== Sys2Proof/Laws/Ports.lean ====
section
/-! SUPPORT. What the operations on one port make of it, in the terms of Safety. -/

namespace Sys2Proof.Machine

/-! ## Counters -/

theorem satInc_eq_oneMore (n : Word) : satInc n = oneMore n := by
  have e : (BitVec.allOnes 16 : Word) = 0xFFFF := rfl
  simp only [satInc, oneMore, e]
  split_ifs with h
  · exact h
  · rfl

theorem Port.bump_eq_counted (x : Port) (c : Counter) : x.bump c = x.counted c.index := by
  simp only [Port.bump, Port.counted, satInc_eq_oneMore, Status.counter, Fin.getElem_fin]

/-- A count changes no other counter. -/
theorem Port.counter_bump_ne (x : Port) {c d : Counter} (h : c.index ≠ d.index) :
    (x.bump c).status.counter d = x.status.counter d := by
  have hv : c.index.val ≠ d.index.val := fun e => h (Fin.ext e)
  simp only [Port.bump, Status.counter, Fin.getElem_fin, Vector.getElem_set, if_neg hv]

/-! ## Entering a state -/

/-- A state whose line is QUIET is entered as `leftFor` says. -/
theorem Port.enter_eq_leftFor (x : Port) {st : PortState} (h1 : st.sends = false) (h2 : st.isData = false) :
    x.enter st = x.leftFor st := by
  cases st <;> first | rfl | exact absurd h1 (by decide) | exact absurd h2 (by decide)

theorem Port.enter_state (x : Port) (st : PortState) : (x.enter st).status.state = st := rfl

theorem Port.enter_jobs (x : Port) (st : PortState) :
    (x.enter st).jobs = x.jobs ∧ (x.enter st).status.running = x.status.running := ⟨rfl, rfl⟩

theorem Port.enter_history (x : Port) (st : PortState) :
    (x.enter st).history = x.history ∧ (x.enter st).recordCount = x.recordCount := ⟨rfl, rfl⟩

theorem Port.enter_edits (x : Port) (st : PortState) : (x.enter st).editCount = x.editCount := rfl

/-- Entry to DISABLED of a port without a profile (R21). -/
theorem Port.disable_eq_disabledNow (x : Port) (h : x.profile = none) : x.disable = x.disabledNow := by
  have e : { x.disable with profile := none } = x.disabledNow := rfl
  rw [← e, ← h]
  rfl

/-- An abort of activity and the entry of a state whose line is QUIET (R15). -/
theorem Port.enter_stopActivity (x : Port) {st : PortState} (h1 : st.sends = false) (h2 : st.isData = false) :
    x.stopActivity.enter st = x.cutShort.leftFor st := by
  rw [Port.enter_eq_leftFor _ h1 h2]
  unfold Port.stopActivity Port.cutShort Port.leftFor
  cases x.status.state <;> simp [PortState.inAttempt]

/-! ## Attempts -/

/-- The word built for page 0 (R33, R34). -/
theorem Port.content_zero (x : Port) :
    x.content 0 = pageZeroWord (x.status.offerSet &&& x.status.qualSet) x.prof.claim x.status.seed := by
  have key : ∀ (rates : BitVec 4) (c : Fin 4) (seed : BitVec 5),
      (packWord [(14, 0), (13, 1)] ||| packWord [(7, rates.toNat), (5, c.val), (0, seed.toNat)] : Word) =
        0x2000 ||| (rates.setWidth 16 <<< 7) ||| (BitVec.ofNat 16 c.val <<< 5) ||| seed.setWidth 16 := by
    decide +kernel
  have flag : flagBit (decide ((0 : PageNo).val < 1 + x.prof.extraCount)) = 1 := by
    have h : (0 : PageNo).val < 1 + x.prof.extraCount := by
      show 0 < 1 + x.prof.extraCount
      omega
    rw [decide_eq_true h]
    rfl
  have claim : ∃ c : Fin 4, c.val = x.prof.claim.code := by
    cases x.prof.claim
    exacts [⟨0, rfl⟩, ⟨1, rfl⟩, ⟨2, rfl⟩, ⟨3, rfl⟩]
  obtain ⟨c, hc⟩ := claim
  unfold Port.content Port.payload pageZeroWord
  rw [flag, if_pos rfl, ← hc]
  exact key _ c _

/-- An attempt begins as `attemptBegun` says, but for the edit that publishes it. -/
theorem Port.edited_beginAttempt (x : Port) : x.beginAttempt.edited = x.attemptBegun := by
  simp only [Port.beginAttempt, Port.buildPage, Port.content_zero]
  unfold Port.attemptBegun
  simp only [← Port.bump_eq_counted x .attempts, ← show Counter.attempts.index = 0 from rfl]
  simp [Port.edited, Port.bump, Port.enter, PortState.sends, PortState.isData, PortState.listens, Port.freshSeed,
    Port.prof, Status.counter, Timers.stopped, Monitor.zero, Exchange.start, Counter.index]
  by_cases h : (x.profile.getD Profile.none).offerTimeout = 0 <;> simp [h]

/-- A deferred attempt (R8), with the edit that publishes it. -/
theorem Port.edited_beginBackoff (x : Port) :
    (x.beginBackoff (Config.backoffUnit * max x.status.attempts 1)).edited = x.deferred := rfl

/-! ## Link history (R24) -/

theorem Port.writeRecord_eq_recorded (x : Port) (h : x.history.length ≤ 4) (tick : Ticks) (down : Option DownReason) :
    x.writeRecord tick down = x.recorded tick down x.link := by
  have e : x.history.drop (x.history.length - 3) = if x.history.length < 4 then x.history else x.history.tail := by
    split_ifs with hl
    · have : x.history.length - 3 = 0 := by omega
      rw [this, List.drop_zero]
    · have : x.history.length - 3 = 1 := by omega
      rw [this, List.drop_one]
  unfold Port.writeRecord Port.recorded
  rw [e]

/-! ## Starts behind an end (R143, R144) -/

@[simp] theorem jobsStarting_nil (linked : Bool) : jobsStarting linked [] = [] := rfl

theorem jobsStarting_train {j : Job} {f : Profile} (h : j.work = .train f) (linked : Bool) (rest : List Job) :
    jobsStarting linked (j :: rest) = [(j, none)] := by simp [jobsStarting, h]

theorem jobsStarting_hold {j : Job} (h : j.work = .hold) (linked : Bool) (rest : List Job) :
    jobsStarting linked (j :: rest) = (j, some 9) :: jobsStarting false rest := by simp [jobsStarting, h]

theorem jobsStarting_diagnose {j : Job} {r : Recipe} {i : Bool} (h : j.work = .diagnose r i) (linked : Bool)
    (rest : List Job) : jobsStarting linked (j :: rest) =
      if linked = true ∧ i = false then (j, some 8) :: jobsStarting linked rest else [(j, none)] := by
  simp [jobsStarting, h]

@[simp] theorem Port.jobsStarted_nil (tick : Ticks) (ready : Bool) (x : Port) :
    Port.jobsStarted tick ready [] x = { x with jobs := [] } := rfl

theorem Port.jobsStarted_train {j : Job} {f : Profile} (h : j.work = .train f) (tick : Ticks) (ready : Bool)
    (rest : List Job) (x : Port) : Port.jobsStarted tick ready (j :: rest) x =
      { x.trainStarted j.cell f tick ready with jobs := { j with start := tick } :: rest } := by
  simp [Port.jobsStarted, h]

theorem Port.jobsStarted_hold {j : Job} (h : j.work = .hold) (tick : Ticks) (ready : Bool) (rest : List Job) (x : Port) :
    Port.jobsStarted tick ready (j :: rest) x = Port.jobsStarted tick ready rest (x.heldDown tick) := by
  simp [Port.jobsStarted, h]

@[simp] theorem startedCells_nil (z : Port) : startedCells z [] = [] := rfl

/-- With no job behind it, an end leaves the port as it is, with an empty list and one edit. -/
theorem State.runsOn_nil (s t : State) (p : PortNo) (z : Port) : s.runsOn t p [] z ↔
    t.port p = { z with jobs := [], editCount := (s.port p).editCount + 2 } := by
  simp [State.runsOn]

@[simp] theorem State.canRunOn_nil (s : State) (z : Port) : s.canRunOn z [] := .inl rfl

end Sys2Proof.Machine
end

