-- ==== Sys2Proof/Tests/Slice0.lean ====
section
/-! SUPPORT. Tests: the well-formedness checks, the manual's worked examples, one small step of each kind of command,
and for every statement with hypotheses a state and operands that meet them, clause by clause at the ends of ranges. -/

set_option Elab.async false
set_option synthInstance.maxHeartbeats 400000
set_option synthInstance.maxSize 1000

namespace Sys2Proof.Tests

open Sys2Proof.Machine

/-! ## States the tests start from -/

/-- A profile in range, every number at its least but the attempt limit and the verify threshold. -/
def prof : Profile :=
  { allowed := 15, claim := .preferLead, precheck := false, autoRetrain := false, downshift := true, watch := false,
    attemptLimit := 2, offerTimeout := 10, lockTimeout := 1, verifyWindow := 1, verifyThreshold := 0,
    monitorWindow := 1, monitorThreshold := 1, badLimit := 1, dropHold := 1, roleHold := 0, extraCount := 0,
    extra1 := 0, extra2 := 0 }

def retrainProf : Profile := { prof with autoRetrain := true }

def rec : Recipe :=
  { pairSet := 3, crossCheck := true, pattern := 0, chipDivider := 1, order := 1, decimation := 1, window := 16,
    blanking := 0, shift := 0, mild := 1, strong := 1, cross := 1, shots := 1, trace := false }

/-- A port under the profile in a state, in its first attempt. -/
def portIn (st : PortState) : Port :=
  { Port.reset 0 with
    profile := some prof
    status := { Status.reset with state := st, offerSet := 15, attempts := 1 } }

/-- A port in PROBE for the DIAGNOSE job in cell 2, alone in its list. -/
def probing : Port :=
  { portIn .probe with
    jobs := [⟨2, 7, .diagnose rec false, 5⟩], status := { (portIn .probe).status with running := some 2 } }

/-- A port with a full link history. -/
def storied (x : Port) : Port := { x with history := List.replicate 4 ⟨0, none, 0, .r1G, .lead, 1, 0⟩ }

/-- A running part, every quad ready, with this port 0. -/
def at0 (x : Port) : State :=
  { State.reset with runState := .running, ready := Vector.replicate 12 true }.setPort 0 x

/-- The same with no quad ready. -/
def unready (x : Port) : State := { State.reset with runState := .running }.setPort 0 x

/-- The same with cell c alone in the queue, holding these words, and intake's entry due. -/
def withCell (s : State) (c : CellNo) (ws : List Word) : State :=
  { s with intakeQueue := [c], intakeDue := true }.setCustody c .intake |>.writeWords (cellBase c) ws

/-- A part in which no engine is granted and no quad claimed. -/
theorem grantsOk_free {s : State} (h1 : ∀ e, (s.engine e).meas = none) (h2 : ∀ e, s.grant e = none)
    (h3 : ∀ q, s.claimed q = false) : s.grantsOk where
  measuring e m h := by rw [h1 e] at h; cases h
  accepted e g h := by rw [h2 e] at h; cases h
  claim q := ⟨fun h => absurd h (by simp [h3 q]), fun ⟨e, g, h, _⟩ => absurd h (by simp [h2 e])⟩
  onePerQuad e f g h hg := by rw [h2 e] at hg; cases hg
  oneFilling e f m n k hm := by rw [h1 e] at hm; cases hm

/-- An engine measures exactly while its grant is accepted, for the port granted. -/
def agree : Option Measurement → Option Grant → Bool
  | some m, some g => g.accepted && decide (g.request.port = m.holder)
  | some _, none => false
  | none, some g => !g.accepted
  | none, none => true

/-- The quad an engine is granted to. -/
def grantedQuad (s : State) (e : EngineNo) : Option QuadNo := (s.grant e).map fun g => quadOf g.request.port

/-- The slab an engine fills. -/
def fillingOf (s : State) (e : EngineNo) : Option SlabNo := (s.engine e).meas.bind Measurement.filling

/-- The grant invariant in a form that a small state decides. -/
abbrev GrantsAgree (s : State) : Prop :=
  (∀ e, agree (s.engine e).meas (s.grant e) = true) ∧ (∀ q, s.claimed q = true ↔ ∃ e, grantedQuad s e = some q) ∧
    (∀ e f, grantedQuad s e = grantedQuad s f → e = f ∨ grantedQuad s e = none) ∧
    ∀ e f, fillingOf s e = fillingOf s f → e = f ∨ fillingOf s e = none

theorem grantsOk_of_agree {s : State} (h : GrantsAgree s) : s.grantsOk := by
  obtain ⟨h1, h2, h3, h4⟩ := h
  have quad {e : EngineNo} {g : Grant} (hg : s.grant e = some g) : grantedQuad s e = some (quadOf g.request.port) := by
    rw [grantedQuad, hg]; rfl
  have slab {e : EngineNo} {m : Measurement} (hm : (s.engine e).meas = some m) : fillingOf s e = m.filling := by
    rw [fillingOf, hm]; rfl
  constructor
  · intro e m hm
    have h := h1 e
    rw [hm] at h
    cases hg : s.grant e with
    | none => rw [hg] at h; cases h
    | some g =>
      rw [hg] at h
      simp only [agree, Bool.and_eq_true, decide_eq_true_eq] at h
      exact ⟨g, rfl, h.1, h.2⟩
  · intro e g hg ha hm
    have h := h1 e
    rw [hm, hg] at h
    simp [agree, ha] at h
  · intro q
    rw [h2 q]
    constructor
    · rintro ⟨e, he⟩
      cases hg : s.grant e with
      | none => rw [grantedQuad, hg] at he; cases he
      | some g => exact ⟨e, g, hg, Option.some.inj ((quad hg).symm.trans he)⟩
    · rintro ⟨e, g, hg, rfl⟩
      exact ⟨e, quad hg⟩
  · intro e f g g' hg hg' he
    rcases h3 e f (by rw [quad hg, quad hg', he]) with h | h
    · exact h
    · rw [quad hg] at h; cases h
  · intro e f m n k hm hn hk hk'
    rcases h4 e f (by rw [slab hm, slab hn, hk, hk']) with h | h
    · exact h
    · rw [slab hm, hk] at h; cases h

/-- Engine 0 has port p with measurement m, and the port waits for no other; in a form that a small state decides. -/
abbrev Busy (s : State) (m : Measurement) (p : PortNo) : Prop :=
  GrantsAgree s ∧ (s.engine 0).meas = some m ∧ m.holder = p ∧ (s.port p).request = none

theorem measures_of_busy {s : State} {m : Measurement} {p : PortNo} (h : Busy s m p) : s.measures 0 m p :=
  ⟨grantsOk_of_agree h.1, h.2⟩

/-- Port 0's JOB request. -/
def jobAsk : Request := ⟨0, .job rec 7, .first, 0, 0⟩

/-- A measurement of pair A on port 0 in this phase, decimation 2. -/
def meas (ph : Phase) : Measurement :=
  { holder := 0, source := .job, tag := some 7, recipe := { rec with decimation := 2 }, velocity := 70, sequence := 1,
    startTick := 0, pattern := [true], pair := some .a, phase := ph, filling := none, results := Pairs.all none,
    flags := 0 }

/-- The same filling slab 39. -/
def tracing (ph : Phase) : Measurement :=
  { meas ph with filling := some 39, recipe := { (meas ph).recipe with trace := true } }

/-- Engine 0 measures this port 0. -/
def busy (x : Port) (m : Measurement) : State :=
  ((at0 x).setEngine 0 ⟨some m, 0⟩ |>.setGrant 0 (some ⟨jobAsk, true⟩)).setClaim 0 true

/-- Accumulators of 0. -/
def zeros : Pairs Accumulators := Pairs.all (List.replicate 16 0)

/-- What the state after a command is. -/
def after (c : Instr) (s : State) : State :=
  match exec c s with
  | .next t => t
  | .fault _ => s
  | .refused _ => s

/-! ## Well-formedness: each check turns an ill-formed command away -/

theorem test_wellFormed_refuses_own_words :
    ([(1, 0), (2, 1), (2, 2), (2, 0xFFFD), (3, 0), (4, 0), (5, 0), (0x20, 0), (0x1401, 0), (0x2B81, 0)] :
      List (Addr × Word)).all (fun x => !(Instr.hostWrite x.1 x.2).wellFormed) = true := by decide +kernel

theorem test_wellFormed_takes_other_words :
    ([(0, 0), (2, 0), (2, 3), (6, 0), (0x30, 5), (0x1400, 0), (0x1402, 0), (0x2C01, 0), (0x7FFF, 1)] :
      List (Addr × Word)).all (fun x => (Instr.hostWrite x.1 x.2).wellFormed) = true := by decide +kernel

theorem test_wellFormed_transitions :
    (Instr.receiveTransition 0 5 []).wellFormed = false ∧ (Instr.receiveTransition 0 5 [true, true]).wellFormed = false ∧
      (Instr.receiveTransition 0 5 [true, false, true]).wellFormed = true := by decide

theorem test_wellFormed_bits :
    (Instr.quietTry 0 ⟨2 ^ 2048, 0, 0, 0⟩).wellFormed = false ∧ (Instr.quietTry 0 ⟨0, 0, 0, 2 ^ 2048 - 1⟩).wellFormed = true ∧
      (Instr.shot 0 ⟨0, 2 ^ 32768, 0, 0⟩).wellFormed = false ∧ (Instr.shot 0 ⟨0, 0, 2 ^ 32768 - 1, 0⟩).wellFormed = true := by
  decide +kernel

theorem test_no_word_spells_a_command : decodeTableWord 16 0x1234 = none ∧
    State.reset.withFetchWord 16 0x1234 = State.reset := ⟨rfl, rfl⟩

/-! ## The manual's worked examples -/

/-- 2.6: bins 4 to 6 and 9 to 11 give split 7; bins 3 to 16 fail. -/
theorem test_example_split : findSplit 0x0738 = some 7 ∧ findSplit 0xFFFC = none := by decide

/-- 2.6: the first intervals of a burst under split 7 give cells 1, 0, 0, 1, 0. -/
theorem test_example_intervals :
    (([10, 5, 6, 9, 10] : List Nat).foldl BurstIn.readInterval (beginBurst true 0 7)).cells =
      [false, true, false, false, true] := by decide

/-- 3.10: PREFER_LEAD on both sides, seeds 19 and 11; rates {1G, 2.5G} against all four. -/
theorem test_example_resolution :
    resolveRole .preferLead .preferLead 19 11 = .settled .lead ∧ resolveRole .preferLead .preferLead 11 19 = .settled .follow ∧
      RateSet.highest (capRates (6 &&& 15) 0x0600) = some .r2G5 := by decide

/-- 5.10: order 2, decimation 4, velocity 70; positions 30 and 55. -/
theorem test_example_distance : distanceOf { rec with order := 2, decimation := 4 } 70 30 = 304 ∧
    distanceOf { rec with order := 2, decimation := 4 } 70 55 = 567 := by decide

/-- 5.10: pair A of the example is OPEN at position 30 with peak 410. -/
theorem test_example_self :
    selfFinding { rec with mild := 120, strong := 300, blanking := 12 }
      (List.replicate 30 0 ++ [176, 342, 410, 388, 251, 97, 12, -40]) = ⟨.openEnd, some 30, 410, none⟩ := by
  decide +kernel

/-! ## One step of each kind of command -/

theorem test_fillDone : (after .fillDone State.reset).runState = .stopped ∧
    ((after .fillDone State.reset).port 47).editCount = 2 := by decide +kernel

theorem test_run_and_stop :
    (after .run { State.reset with runState := .stopped }).lock = true ∧
      (after .stop (at0 (portIn .linked))).runState = .stopping ∧
      ((after .stop (at0 (portIn .linked))).port 0).status.state = .disabled := by decide +kernel

theorem test_handIn : (after (.handIn 127) (at0 (portIn .idle))).intakeQueue = [127] ∧
    (after (.handIn 128) (at0 (portIn .idle))).intakeFlags = 4 := by decide +kernel

theorem test_hostRead : State.hostRead { State.reset with runState := .stopped } 0 = 0x57A1 ∧
    State.hostRead { at0 (portIn .linked) with lock := true } 2 = 0x0102 ∧
    State.hostRead (at0 (portIn .linked)) 0x1402 = 0x0085 := by decide +kernel

/-- A frame that writes 5 to NEWS ENABLE. -/
theorem test_frame : frameCommands (wordBits 0x0005 ++ wordBits 5) = [.newsEnableWrite 5] := by decide +kernel

/-- A TRAIN cell with least parameters: the port is in its first attempt, the cell RUNNING. -/
theorem test_train :
    let t := after .tick (withCell (at0 (Port.reset 0)) 127
      [1, 0x0100, 7, 0, 0, 0, 0, 0, 0x002F, 1, 0, 1, 1, 0, 1, 1, 1, 1])
    (t.port 0).status.state = .offer ∧ (t.port 0).status.attempts = 1 ∧ t.cellWord 127 0 = 3 ∧
      (t.port 0).status.ours[0] = some 0x27C0 := by decide +kernel

/-- A HOLD cell ends DONE / HELD on its start. -/
theorem test_hold :
    let t := after .tick (withCell (at0 (portIn .idle)) 0 [1, 0x0300])
    (t.port 0).status.state = .disabled ∧ t.cellWord 0 0 = 4 ∧ t.cellWord 0 3 = 0x0900 ∧ t.custodyOf 0 = .outside := by
  decide +kernel

/-- A lock rise in LOCK_WAIT opens the window. -/
theorem test_lockRise :
    ((after (.lockRise 0) (at0 { portIn .verify with
      status := { (portIn .verify).status with sub := .lockWait } })).port 0).status.sub = .window := by decide +kernel

/-! ## What the statements assume can hold: run control and host writes

`meets_X` gives states and operands that meet the hypotheses of statement X, one clause after another. -/

/-- The pin released and every edit closed. -/
abbrev Open (s : State) : Prop := s.resetPin = false ∧ s.editsClosed

/-- RUNNING and every edit closed. -/
abbrev Ready (s : State) : Prop := s.working ∧ s.editsClosed

def idle0 : State := at0 (portIn .idle)
def stopped : State := { idle0 with runState := .stopped }

theorem meets_EmptyQueueIsOneClockPeriod :
    (stopped.pending = [] ∧ stopped.editsClosed ∧ ¬ stopped.working) ∧
    (let s := { idle0 with divider := 24998 };
      s.pending = [] ∧ Ready s ∧ s.intakeDue = false ∧ s.divider.toNat + 1 < s.divisor.toNat) ∧
    (let s := { idle0 with divider := 24999 };
      s.pending = [] ∧ Ready s ∧ s.divisor.toNat ≤ s.divider.toNat + 1) ∧
    (let s := { idle0 with intakeDue := true };
      s.pending = [] ∧ Ready s ∧ s.intakeDue = true) := by decide +kernel

theorem meets_AssertedResetPinStopsThePart : ∀ levels, Instr.run ≠ .pinReset levels := by
  intro levels h
  cases h

theorem meets_FillDoneEntersStopped : (Open State.reset ∧ State.reset.runState = .filling) ∧
    (Open idle0 ∧ idle0.runState ≠ .filling) := by decide +kernel

theorem meets_RunStartsTheStoppedPart : (Open stopped ∧ stopped.runState = .stopped) ∧
    (Open idle0 ∧ idle0.runState ≠ .stopped) := by decide +kernel

/-- A part at work with cells in every place: 0 and 1 queued, 2 running and 3 listed at port 0, 4 running at port 1. -/
def held : State :=
  let job : CellNo → Job := fun c => ⟨c, 7, .train prof, 5⟩
  let x : PortNo → List Job → Port := fun p js =>
    { portIn .linked with
      seedGen := BitVec.ofNat 16 (p.val + 1), jobs := js
      status := { (portIn .linked).status with running := js.head?.map Job.cell } }
  { (((((at0 (x 0 [job 2, job 3])).setPort 1 (x 1 [job 4])).setCustody 0 .intake).setCustody 1 .intake).setCustody 2
    .running |>.setCustody 3 .listed |>.setCustody 4 .running) with intakeQueue := [0, 1] }

theorem held_grantsOk : held.grantsOk :=
  grantsOk_free (by decide +kernel) (by decide +kernel) (by decide +kernel)

theorem held_jobsOk : held.jobsOk := by
  have lists : ∀ p : PortNo, p = 0 ∨ p = 1 ∨ (held.port p).jobs = [] := by decide +kernel
  have in0 : ∀ c, held.inList 0 c → c = 2 ∨ c = 3 := by decide +kernel
  have in1 : ∀ c, held.inList 1 c → c = 4 := by decide +kernel
  have none_in : ∀ {p c}, (held.port p).jobs = [] → ¬ held.inList p c := by
    intro p c h hc
    rw [State.inList, h] at hc
    cases hc
  refine ⟨by decide +kernel, by decide +kernel, by decide +kernel, by decide +kernel, by decide +kernel, ?_, ?_, ?_,
    by decide +kernel⟩
  · intro p q c hp hq
    rcases lists p with rfl | rfl | e
    · rcases lists q with rfl | rfl | e'
      · rfl
      · have h1 := in1 c hq
        subst h1
        rcases in0 4 hp with h | h <;> cases h
      · exact absurd hq (none_in e')
    · rcases lists q with rfl | rfl | e'
      · have h1 := in1 c hp
        subst h1
        rcases in0 4 hq with h | h <;> cases h
      · rfl
      · exact absurd hq (none_in e')
    · exact absurd hp (none_in e)
  · intro p c hp
    rcases lists p with rfl | rfl | e
    · rcases in0 c hp with rfl | rfl <;> decide +kernel
    · have h1 := in1 c hp
      subst h1
      decide +kernel
    · exact absurd hp (none_in e)
  · have places : ∀ c : CellNo, held.custodyOf c = .running ∨ held.custodyOf c = .listed → c = 2 ∨ c = 3 ∨ c = 4 := by
      decide +kernel
    intro c hc
    rcases places c hc with rfl | rfl | rfl
    exacts [⟨0, by decide +kernel⟩, ⟨0, by decide +kernel⟩, ⟨1, by decide +kernel⟩]

theorem meets_StopBringsThePartToRest : (held.working ∧ held.memOk ∧ held.grantsOk) ∧
    ((0 : CellNo) ∈ held.intakeQueue ∧ held.inList 0 2 ∧ held.inList 0 3 ∧ (held.port 0).status.state = .linked ∧
      (held.port 0).history.length ≤ 4 ∧ held.custodyOf 2 = .running ∧ held.custodyOf 3 = .listed) ∧ held.jobsOk ∧
    let s := ((busy probing (tracing (.finishing 1 zeros))).setGrant 3 (some ⟨{ jobAsk with port := 47 }, false⟩)).setClaim
      11 true
    s.working ∧ s.memOk ∧ s.grantsOk ∧ s.slabFilling 39 = true ∧ (s.engine 3).meas = none ∧ s.grant 3 ≠ none :=
  ⟨⟨by decide +kernel, by decide +kernel, held_grantsOk⟩, by decide +kernel, held_jobsOk, by decide +kernel,
    by decide +kernel, grantsOk_of_agree (by decide +kernel), by decide +kernel⟩

/-- A part that is STOPPING and at rest. -/
def resting : State := { State.reset with runState := .stopping }

theorem resting_atRest : resting.atRest :=
  ⟨by decide +kernel, by decide +kernel, by decide +kernel, rfl, ⟨rfl, rfl⟩⟩

theorem meets_StopDoneEntersStopped : (Open resting ∧ resting.runState = .stopping ∧ resting.atRest) ∧
    (Open stopped ∧ stopped.runState ≠ .stopping) ∧
    (Open { resting with requests := [⟨0, .watch, .second, 0, 0⟩] } ∧ Open { resting with intakeQueue := [0] }) ∧
    (Open (resting.setEngine 3 ⟨some (meas (.finishing 1 zeros)), 0⟩) ∧
      Open (resting.setGrant 0 (some ⟨jobAsk, false⟩)) ∧ Open (resting.setClaim 11 true)) ∧
    (Open (resting.setPort 47 (portIn .idle)) ∧
      Open (resting.setPort 0 { Port.reset 0 with jobs := [⟨2, 7, .hold, 5⟩] })) :=
  ⟨⟨by decide +kernel, rfl, resting_atRest⟩, by decide +kernel⟩

theorem meets_TimebaseWritableUntilLocked : Open State.reset ∧ Open stopped ∧ Open { stopped with lock := true } := by
  decide +kernel

theorem meets_HandInIsJudged : Open State.reset ∧ Open stopped ∧ Open resting ∧
    (Open idle0 ∧ idle0.runState = .running ∧ 128 ≤ (128 : Word).toNat ∧ (127 : Word) = BitVec.ofNat 16 (127 : CellNo).val ∧
      idle0.custodyOf 127 = .outside ∧ idle0.intakeQueue.length < 16) ∧
    (let s := { idle0 with intakeQueue := List.replicate 16 0 };
      Open s ∧ s.custodyOf 127 = .outside ∧ 16 ≤ s.intakeQueue.length) ∧
    (let s := { idle0 with intakeQueue := List.replicate 15 0 };
      Open s ∧ s.custodyOf 127 = .outside ∧ s.intakeQueue.length < 16) ∧
    (Open held ∧ held.custodyOf 0 ≠ .outside) := by decide +kernel

theorem meets_StatusClearAndEnableWrite : Open stopped ∧ stopped.runState ≠ .filling ∧ Open State.reset ∧
    State.reset.runState = .filling := by decide +kernel

theorem meets_NewsClearClearsOnes : Open stopped ∧ stopped.runState ≠ .filling ∧ Open State.reset ∧
    (0x10 : Word).getLsbD 4 = true ∧ (0xFFEF : Word).getLsbD 4 = false := by decide +kernel

theorem meets_HostWriteByRegion : stopped.writable ∧ stopped.editsClosed ∧ stopped.memOk ∧
    ([0x30, 0x31, 0x40, 0x4A, 0x80, 0xA7, 0x400, 0x13FF, 0x7C00, 0x7FFF] : List Addr).all
      (fun a => !hasOwnRow a 1 && hostWritable a.toNat) = true ∧
    ([0, 6, 0x2F, 0x32, 0x3F, 0x4B, 0x7F, 0xA8, 0x3FF, 0x1400, 0x1402, 0x2BFF, 0x2C00, 0x7BFF] : List Addr).all
      (fun a => !hasOwnRow a 1 && !hostWritable a.toNat) = true ∧
    (State.reset.runState = .filling ∧ State.reset.editsClosed) := by decide +kernel

theorem meets_HostReadsRegisters : State.reset.runState = .filling ∧ stopped.writable ∧
    (let s := { stopped with intakeQueue := List.replicate 16 0 }; s.writable ∧ s.intakeQueue.length ≤ 16) ∧
    ((∃ m, ((busy probing (meas (.finishing 1 zeros))).engine 0).meas = some m ∧ m.pair = some .a) ∧
      (stopped.engine 0).meas = none) ∧
    ((portIn .idle).status.resolved = none ∧ (portIn .idle).status.running = none ∧ probing.status.running = some 2 ∧
      probing.jobs[0]? ≠ none ∧ probing.jobs[3]? = none ∧ (storied probing).history[3]? ≠ none ∧
      probing.history[0]? = none) ∧
    (probing.report.source = none ∧ PairResult.notTested.crossPair = none ∧ PairResult.notTested.slab = none) :=
  ⟨by decide +kernel, by decide +kernel, by decide +kernel, ⟨⟨_, rfl, rfl⟩, by decide +kernel⟩, by decide +kernel,
    by decide +kernel⟩

theorem meets_WriteFrameMakesHostWrites : (stopped.editsClosed ∧ fieldOf 5 0 2 = 1 ∧ fieldOf 6 0 2 = 2) ∧
    ([] : List Bool).length < 16 ∧ (List.replicate 15 true).length < 16 ∧ ([] : List Bool).length ≤ 16 * 0 ∧
    (List.replicate 32 true).length ≤ 16 * 2 ∧ 16 * 1 + 15 < 32 := by decide

/-! ## Ticks and intake -/

theorem meets_TickMovesEveryBlock :
    let s := at0 { portIn .linked with sender := ⟨some 11, false, none⟩, unlockTotal := 0xFFFFFFFF }
    Ready s ∧ s.intakeDue = false ∧ (s.port 0).status.state = .linked ∧ (s.port 0).lockUp = false ∧
      ((s.port 1).status.state ≠ .linked ∨ (s.port 1).lockUp = true) ∧
      let due := { s with intakeDue := true }
      Ready due ∧ due.intakeDue = true ∧ due.intakeQueue = [] := by decide +kernel

/-- A queue whose head is a cell with these first two words and this parameter 0. -/
def offered (c : CellNo) (w0 w1 p0 : Word) : State := withCell idle0 c [w0, w1, 7, 0, 0, 0, 0, 0, p0]

/-- Port 0 with four entries in its list. -/
def full : Port :=
  let job : CellNo → Job := fun c => ⟨c, 7, .hold, 5⟩
  { portIn .probe with
    jobs := [job 2, job 3, job 4, job 5], status := { (portIn .probe).status with running := some 2 } }

/-- Parameters of TRAIN and of DIAGNOSE in range, and a HOLD, for the cell at the head. -/
def trainWords : List Word := [1, 0x0100, 7, 0, 0, 0, 0, 0, 0x002F, 1, 0, 1, 1, 0, 1, 1, 1, 1]
def diagnoseWords : List Word := [1, 0x0200, 7, 0, 0, 0, 0, 0, 0x0003, 1, 1, 1, 16, 0, 0, 1, 1, 1, 1]
def holdWords : List Word := [1, 0x0300, 7]

/-- The entry due is a cell that is READY with this kind for this port value. -/
abbrev ReadyCell (s : State) (c : CellNo) (kind port : Nat) : Prop :=
  s.entryDue c [] ∧ s.memOk ∧ s.cellWord c 0 = 1 ∧ (s.cellWord c 1).toNat / 256 = kind ∧
    (s.cellWord c 1).toNat % 256 = port

theorem meets_IntakeTurnsCellsAway :
    ((offered 0 0 0 0).entryDue 0 [] ∧ (offered 0 0 0 0).cellWord 0 0 ≠ 1) ∧
    ReadyCell (offered 0 1 0x0030 0) 0 0 48 ∧ ReadyCell (offered 127 1 0x05FF 0) 127 5 255 ∧
    ReadyCell (offered 0 1 0x002F 0) 0 0 47 ∧ ReadyCell (offered 0 1 0x0130 0) 0 1 48 ∧
    ReadyCell (offered 0 1 0x03FF 0) 0 3 255 ∧
    (ReadyCell (offered 0 1 0x0100 0) 0 1 0 ∧
      (Profile.ofWords ((offered 0 1 0x0100 0).cellParam 0)).valid = false) ∧
    (ReadyCell (offered 0 1 0x022F 0) 0 2 47 ∧
      (Recipe.ofWords ((offered 0 1 0x022F 0).cellParam 0)).valid = false) ∧
    (ReadyCell (offered 5 1 0x0400 128) 5 4 0 ∧ 128 ≤ ((offered 5 1 0x0400 128).cellParam 5 0).toNat) ∧
    (ReadyCell (offered 5 1 0x0400 5) 5 4 0 ∧ ((offered 5 1 0x0400 5).cellParam 5 0).toNat = (5 : CellNo).val) ∧
    (let s := withCell (at0 full) 0 trainWords;
      ReadyCell s 0 1 0 ∧ (s.port 0).jobs.length = 4 ∧ (Profile.ofWords (s.cellParam 0)).valid = true) ∧
    (let s := withCell (at0 full) 0 diagnoseWords;
      ReadyCell s 0 2 0 ∧ (s.port 0).jobs.length = 4 ∧ (Recipe.ofWords (s.cellParam 0)).valid = true) ∧
    (let s := withCell (at0 full) 0 holdWords;
      ReadyCell s 0 3 0 ∧ (s.port 0).jobs.length = 4) := by decide +kernel

/-- Three entries, the first running. -/
def three : Port := { full with jobs := full.jobs.take 3 }

theorem meets_IntakeAppendsBehindRunningJob :
    (let s := withCell (at0 three) 0 trainWords;
      ReadyCell s 0 1 0 ∧ (Profile.ofWords (s.cellParam 0)).valid = true ∧ (s.port 0).jobs.length < 4 ∧
        (s.port 0).status.running ≠ none) ∧
    (let s := withCell (at0 three) 0 diagnoseWords;
      ReadyCell s 0 2 0 ∧ (Recipe.ofWords (s.cellParam 0)).valid = true ∧ (s.port 0).jobs.length < 4) ∧
    (let s := withCell (at0 three) 0 holdWords;
      ReadyCell s 0 3 0 ∧ (s.port 0).jobs.length < 4) := by decide +kernel

/-- A TRAIN cell at the head of the queue, in range, for a jobless port 0. -/
abbrev TrainsAt (s : State) : Prop :=
  ReadyCell s 0 1 0 ∧ (s.cellWord 0 1).toNat = 0x100 + (0 : PortNo).val ∧
    (Profile.ofWords (s.cellParam 0)).valid = true ∧ (s.port 0).jobless ∧ (s.port 0).history.length ≤ 4

/-- `trainWords` with precheck QUICK. -/
def quickWords : List Word := trainWords.set 8 0x006F

theorem meets_TrainJobStartsAttempt :
    (let s := withCell (at0 (Port.reset 0)) 0 trainWords; TrainsAt s ∧ s.engineOf 0 = none) ∧
    (let s := withCell (at0 (storied { portIn .linked with request := some .watch })) 0 trainWords;
      TrainsAt s ∧ s.engineOf 0 = none) ∧
    (let s := withCell (at0 (Port.reset 0)) 0 quickWords;
      TrainsAt s ∧ s.engineOf 0 = none ∧ (Profile.ofWords (s.cellParam 0)).precheck = true) ∧
    (let s := withCell (unready (portIn .offer)) 0 trainWords;
      TrainsAt s ∧ s.engineOf 0 = none ∧ s.isReady (quadOf 0) = false) ∧
    (let s := withCell (busy (portIn .check) (tracing (.shooting 1 0 zeros))) 0 trainWords;
      TrainsAt s ∧ s.measures 0 (tracing (.shooting 1 0 zeros)) 0) :=
  ⟨by decide +kernel, by decide +kernel, by decide +kernel, by decide +kernel, by decide +kernel,
    measures_of_busy (by decide +kernel)⟩

/-- R37: a TRAIN start from IDLE into OFFER leaves the burst in progress. -/
theorem test_train_keeps_burst :
    ((after .tick (withCell (at0 { portIn .idle with decoder := ⟨some (beginBurst true 5 7), 1, 0⟩ }) 0
      trainWords)).port 0).decoder.burst = some (beginBurst true 5 7) := by decide +kernel

/-- A DIAGNOSE cell at the head of the queue, in range, for a jobless port 0. -/
abbrev DiagnosesAt (s : State) : Prop :=
  ReadyCell s 0 2 0 ∧ (s.cellWord 0 1).toNat = 0x200 + (0 : PortNo).val ∧
    (Recipe.ofWords (s.cellParam 0)).valid = true ∧ (s.port 0).jobless ∧ (s.port 0).history.length ≤ 4

/-- `diagnoseWords` with intrusive allowed. -/
def intrusiveWords : List Word := diagnoseWords.set 8 0x0043

theorem meets_DiagnoseJobStarts :
    (let s := withCell (at0 { portIn .idle with request := some .watch }) 0 diagnoseWords;
      DiagnosesAt s ∧ (s.port 0).status.state ≠ .linked ∧ s.engineOf 0 = none) ∧
    (let s := withCell (at0 (storied (portIn .linked))) 0 intrusiveWords;
      DiagnosesAt s ∧ (s.port 0).status.state = .linked ∧ (s.cellParam 0 0).getLsbD 6 = true ∧
        (s.port 0).request = none ∧ s.engineOf 0 = none) ∧
    (let s := withCell (busy (portIn .cableHold) (tracing (.finishing 1 zeros))) 0 diagnoseWords;
      DiagnosesAt s ∧ (s.port 0).status.state ≠ .linked ∧ s.measures 0 (tracing (.finishing 1 zeros)) 0) ∧
    (let s := withCell (at0 (portIn .linked)) 0 diagnoseWords;
      DiagnosesAt s ∧ (s.port 0).status.state = .linked ∧ (s.cellParam 0 0).getLsbD 6 = false) :=
  ⟨by decide +kernel, by decide +kernel,
    ⟨by decide +kernel, by decide +kernel, measures_of_busy (by decide +kernel)⟩, by decide +kernel⟩

/-- A HOLD cell at the head of the queue, for a jobless port 0. -/
abbrev HoldsAt (s : State) : Prop :=
  ReadyCell s 0 3 0 ∧ (s.cellWord 0 1).toNat = 0x300 + (0 : PortNo).val ∧ (s.port 0).jobless ∧
    (s.port 0).history.length ≤ 4

theorem meets_HoldJobDisablesPort :
    (let s := withCell idle0 0 holdWords; HoldsAt s ∧ s.engineOf 0 = none) ∧
    (let s := withCell (at0 (storied { portIn .linked with request := some .watch })) 0 holdWords;
      HoldsAt s ∧ s.engineOf 0 = none) ∧
    (let s := withCell (busy (portIn .idle) (tracing (.quietCheck 2 .waiting))) 0 holdWords;
      HoldsAt s ∧ s.measures 0 (tracing (.quietCheck 2 .waiting)) 0) :=
  ⟨by decide +kernel, by decide +kernel, by decide +kernel, measures_of_busy (by decide +kernel)⟩

/-- A CANCEL of cell 1 by cell 0, with the target's first two words. -/
def cancels (w0 w1 : Word) : State := (offered 0 1 0x0400 1).writeWords (cellBase 1) [w0, w1]

theorem meets_CancelOfCellOutside :
    (let s := cancels 4 0x0100;
      ReadyCell s 0 4 0 ∧ (s.cellParam 0 0).toNat = (1 : CellNo).val ∧ s.custodyOf 1 = .outside ∧
        s.cellWord 1 0 = 4 ∧ (s.cellWord 1 1).toNat % 256 = (0 : PortNo).val) ∧
    (let s := cancels 6 0x012F;
      ReadyCell s 0 4 0 ∧ s.custodyOf 1 = .outside ∧ (s.cellWord 1 1).toNat % 256 = (47 : PortNo).val) ∧
    (let s := cancels 3 0x0100;
      ReadyCell s 0 4 0 ∧ s.custodyOf 1 = .outside ∧
        ¬ (s.cellWord 1 0 = 4 ∨ s.cellWord 1 0 = 5 ∨ s.cellWord 1 0 = 6)) ∧
    (let s := cancels 5 0x0130;
      ReadyCell s 0 4 0 ∧ s.custodyOf 1 = .outside ∧ 48 ≤ (s.cellWord 1 1).toNat % 256) ∧
    (let s := cancels 7 0x0130;
      ReadyCell s 0 4 0 ∧ s.custodyOf 1 = .outside ∧ 48 ≤ (s.cellWord 1 1).toNat % 256) := by decide +kernel

/-- `held`, with intake's entry due and the head of its queue a CANCEL of cell d. -/
def cancelling (d : Word) : State :=
  { held with intakeDue := true, mem := (held.writeWords (cellBase 0) [1, 0x0400, 7, 0, 0, 0, 0, 0, d]).mem }

theorem cancelling_jobsOk (d : Word) : (cancelling d).jobsOk :=
  ⟨held_jobsOk.1, held_jobsOk.2, held_jobsOk.3, held_jobsOk.4, held_jobsOk.5, held_jobsOk.6, held_jobsOk.7,
    held_jobsOk.8, held_jobsOk.9⟩

/-- The job invariant reads the queue, the custodies, the lists' cells and the running cells alone. -/
theorem jobsOk_of_same {s t : State} (h : s.jobsOk) (hq : t.intakeQueue = s.intakeQueue)
    (hc : ∀ c, t.custodyOf c = s.custodyOf c)
    (hj : ∀ p, (t.port p).jobs.map Job.cell = (s.port p).jobs.map Job.cell)
    (hr : ∀ p, (t.port p).status.running = (s.port p).status.running) : t.jobsOk := by
  have hl : ∀ p c, t.inList p c ↔ s.inList p c := fun p c => by rw [State.inList, State.inList, hj p]
  have hh : ∀ p, (t.port p).jobs.head?.map Job.cell = (s.port p).jobs.head?.map Job.cell := fun p => by
    rw [← List.head?_map, ← List.head?_map, hj p]
  refine ⟨by rw [hq]; exact h.1, by rw [hq]; exact h.2, fun c => by rw [hq, hc c]; exact h.3 c, fun p => ?_,
    fun p => by rw [hj p]; exact h.5 p, fun p q c a b => h.6 p q c ((hl p c).mp a) ((hl q c).mp b), fun p c a => ?_,
    fun c a => ?_, fun p => by rw [hr p, hh p]; exact h.9 p⟩
  · have e := congrArg List.length (hj p)
    rw [List.length_map, List.length_map] at e
    rw [e]
    exact h.4 p
  · rw [hc c, State.isHead, hh p]
    exact h.7 p c ((hl p c).mp a)
  · rw [hc c] at a
    obtain ⟨p, hp⟩ := h.8 c a
    exact ⟨p, (hl p c).mpr hp⟩

/-- The TRAIN job of cell 3, which waits behind another. -/
def nextJob : Job := ⟨3, 7, .train prof, 5⟩

/-- `held`, with port 0 this one, running this work in cell 2, the job of cell 3 behind it, and port 1 in BACKOFF. -/
def behind (w : Work) (x : Port) : State :=
  (held.setPort 1 { held.port 1 with status := { (held.port 1).status with state := .backoff } }).setPort 0
    { x with jobs := [⟨2, 7, w, 5⟩, nextJob], status := { x.status with running := some 2 } }

theorem behind_port (w : Work) (x : Port) (p : PortNo) :
    ((behind w x).port p).jobs.map Job.cell = (held.port p).jobs.map Job.cell ∧
      ((behind w x).port p).status.running = (held.port p).status.running := by
  by_cases h0 : p = 0
  · subst h0
    rw [behind, State.port_setPort_self]
    exact ⟨rfl, rfl⟩
  · rw [behind, State.port_setPort_ne _ _ _ _ h0]
    by_cases h1 : p = 1
    · subst h1
      rw [State.port_setPort_self]
      exact ⟨rfl, rfl⟩
    · rw [State.port_setPort_ne _ _ _ _ h1]
      exact ⟨rfl, rfl⟩

theorem behind_jobsOk (w : Work) (x : Port) : (behind w x).jobsOk :=
  jobsOk_of_same held_jobsOk rfl (fun _ => rfl) (fun p => (behind_port w x p).1) fun p => (behind_port w x p).2

theorem behind_canRunOn (w : Work) (x z : Port) (h : z.history.length ≤ 4) : (behind w x).canRunOn z [nextJob] := by
  refine .inr ⟨behind_jobsOk w x, ?_, h, ?_⟩
  · exact ⟨held_grantsOk.1, held_grantsOk.2, held_grantsOk.3, held_grantsOk.4, held_grantsOk.5⟩
  · intro j hj f hf
    rw [List.mem_singleton.mp hj] at hf
    cases hf
    decide

/-- A running TRAIN job of cell 2 may end on port x with the job of cell 3 behind it. -/
abbrev Behind (x : Port) : Prop :=
  let s := behind (.train prof) x
  Ready s ∧ s.memOk ∧ (s.port 0).jobs = ⟨2, 7, .train prof, 5⟩ :: [nextJob] ∧ (s.port 0).status.running = some 2 ∧
    (s.port 0).history.length ≤ 3 ∧ s.engineOf 0 = none

/-- Engine 0 measures port x, which runs this work in cell 2 with the job of cell 3 behind it. -/
def behindBusy (w : Work) (x : Port) (m : Measurement) : State :=
  ((behind w x).setEngine 0 ⟨some m, 0⟩ |>.setGrant 0 (some ⟨jobAsk, true⟩)).setClaim 0 true

/-- Only what a measuring engine may touch differs from `behind`. -/
theorem behindBusy_jobsOk (w : Work) (x : Port) (m : Measurement) : (behindBusy w x m).jobsOk :=
  jobsOk_of_same (behind_jobsOk w x) rfl (fun _ => rfl) (fun _ => rfl) fun _ => rfl

/-- A measurement of port 1. -/
def tracing1 : Measurement := { tracing (.finishing 1 zeros) with holder := 1 }

/-- `cancelling 4`, with the running job of port 1 this one, and engine 0 measuring port 1. -/
def cancellingBusy (w : Work) : State :=
  let s := cancelling 4
  (((s.setPort 1 { s.port 1 with jobs := [⟨4, 7, w, 5⟩], status := { (s.port 1).status with state := .probe } }).setEngine
    0 ⟨some tracing1, 0⟩).setGrant 0 (some ⟨{ jobAsk with port := 1 }, true⟩)).setClaim 0 true

theorem meets_CancelOfHeldCell : (∀ d, (cancelling d).jobsOk) ∧
    (let s := cancelling 1;
      s.entryDue 0 [1] ∧ s.memOk ∧ s.cellWord 0 0 = 1 ∧ (s.cellWord 0 1).toNat / 256 = 4 ∧
        (s.cellParam 0 0).toNat = (1 : CellNo).val ∧ s.custodyOf 1 = .intake ∧
        (s.cellWord 1 1).toNat % 256 = (0 : PortNo).val) ∧
    (let s := cancelling 3;
      s.entryDue 0 [1] ∧ s.memOk ∧ s.cellWord 0 0 = 1 ∧ (s.cellWord 0 1).toNat / 256 = 4 ∧
        (s.cellParam 0 0).toNat = (3 : CellNo).val ∧ s.custodyOf 3 = .listed ∧ s.inList 0 3) ∧
    (let s := cancelling 4;
      s.entryDue 0 [1] ∧ s.memOk ∧ s.cellWord 0 0 = 1 ∧ (s.cellWord 0 1).toNat / 256 = 4 ∧
        (s.cellParam 0 0).toNat = (4 : CellNo).val ∧ (s.port 1).jobs = [(⟨4, 7, .train prof, 5⟩ : Job)] ∧
        s.engineOf 1 = none) ∧
    (let s := cancelling 2;
      s.entryDue 0 [1] ∧ s.memOk ∧ s.cellWord 0 0 = 1 ∧ (s.cellParam 0 0).toNat = (2 : CellNo).val ∧
        (s.port 0).jobs = [(⟨2, 7, .train prof, 5⟩ : Job), ⟨3, 7, .train prof, 5⟩] ∧ prof.allowed ≠ 0 ∧
        s.engineOf 0 = none) ∧
    ∀ w ∈ [Work.train prof, .diagnose rec false],
      let s := cancellingBusy w
      (s.entryDue 0 [1] ∧ s.memOk ∧ s.cellWord 0 0 = 1 ∧ (s.cellParam 0 0).toNat = (4 : CellNo).val ∧
        (s.port 1).jobs = [(⟨4, 7, w, 5⟩ : Job)] ∧ w ≠ .hold) ∧ s.jobsOk ∧ s.measures 0 tracing1 1 := by
  refine ⟨cancelling_jobsOk, by decide +kernel, by decide +kernel, by decide +kernel, by decide +kernel, ?_⟩
  have each : ∀ w ∈ [Work.train prof, .diagnose rec false],
      (∀ c, (cancellingBusy w).custodyOf c = (cancelling 4).custodyOf c) ∧
      (∀ p, ((cancellingBusy w).port p).jobs.map Job.cell = ((cancelling 4).port p).jobs.map Job.cell) ∧
      ∀ p, ((cancellingBusy w).port p).status.running = ((cancelling 4).port p).status.running := by decide +kernel
  intro w hw
  obtain ⟨h1, h2, h3⟩ := each w hw
  refine ⟨?_, jobsOk_of_same (cancelling_jobsOk 4) rfl h1 h2 h3, measures_of_busy ?_⟩
  · revert w
    decide +kernel
  · revert w
    decide +kernel

/-! ## Attempts -/

def offerDue : Port := { portIn .offer with timers := { Timers.stopped with offer := some 0 } }
def lockDue : Port := { portIn .verify with timers := { Timers.stopped with lock := some 0 } }
def inWindow : Port := { portIn .verify with
  status := { (portIn .verify).status with sub := .window, resolved := some ⟨.r1G, .lead⟩ }, lockUp := true }
def windowDue : Port := { inWindow with
  timers := { Timers.stopped with verify := some 0 }, monitor := ⟨1, 0, 0⟩ }

/-- The same port in its last attempt. -/
def last (x : Port) : Port := { x with status := { x.status with attempts := 2 } }

/-- The same port running the TRAIN job in cell 2. -/
def training (x : Port) : Port :=
  { x with jobs := [⟨2, 7, .train prof, 5⟩], status := { x.status with running := some 2 } }

/-- A CANCEL of cell 2, the TRAIN job of port 0 whose verify window ends at the tick, with intake's entry due. -/
def racing : State :=
  ((withCell (at0 (training { windowDue with monitor := Monitor.zero })) 0 [1, 0x0400, 7, 0, 0, 0, 0, 0, 2]).setCustody 2
    .running).writeMem (cellBase 2 + 1) 0x0100

/-- R149, the ending first: the job ends DONE / LINKED, and the CANCEL is answered TOO_LATE. -/
theorem test_ending_before_cancel :
    let t := after .tick (after (.verifyWindowEnd 0) racing)
    t.cellWord 2 0 = 4 ∧ t.cellWord 2 3 = 0x0100 ∧ t.cellWord 0 0 = 4 ∧ t.cellWord 0 3 = 0x0B00 ∧
      (t.port 0).status.state = .linked := by decide +kernel

/-- R149, the cancel first: the job is CANCELLED, and the window never ends. -/
theorem test_cancel_before_ending :
    let t := after (.verifyWindowEnd 0) (after .tick racing)
    t.cellWord 2 0 = 6 ∧ t.cellWord 2 3 = 6 ∧ t.cellWord 0 3 = 0x0A00 ∧ (t.port 0).status.state = .disabled := by
  decide +kernel

/-- Attempts are left, and no job waits to start. -/
abbrev MayRetry (x : Port) : Prop :=
  Ready (at0 x) ∧ ((at0 x).port 0).settled ∧ ((at0 x).port 0).status.attempts < ((at0 x).port 0).prof.attemptLimit

theorem meets_FailedAttemptBacksOff :
    (MayRetry { offerDue with profile := some retrainProf } ∧ offerDue.timers.offer = some 0) ∧
    (MayRetry (training lockDue) ∧ lockDue.timers.lock = some 0) ∧
    (MayRetry inWindow ∧ inWindow.status.sub = .window ∧ inWindow.lockUp = true ∧ (at0 inWindow).engineOf 0 = none) ∧
    (MayRetry windowDue ∧ windowDue.timers.verify = some 0 ∧
      windowDue.prof.verifyThreshold < windowDue.monitor.verifyCount.toNat) := by decide +kernel

theorem meets_LastFailureEndsInIdle :
    (Ready (at0 offerDue) ∧ (at0 offerDue).memOk ∧ offerDue.prof.autoRetrain = false ∧ offerDue.jobless) ∧
    (let x := last { offerDue with profile := some retrainProf };
      Ready (at0 x) ∧ x.prof.attemptLimit ≤ x.status.attempts ∧ x.jobless) ∧
    (let x := training offerDue;
      Ready (at0 x) ∧ x.jobs = [(⟨2, 7, .train prof, 5⟩ : Job)] ∧ x.status.running = some 2) ∧
    (Ready (at0 (last lockDue)) ∧ (last lockDue).jobless ∧ (last lockDue).timers.lock = some 0) ∧
    (Ready (at0 (last inWindow)) ∧ (last inWindow).lockUp = true ∧ (at0 (last inWindow)).engineOf 0 = none) ∧
    (Ready (at0 (last windowDue)) ∧
      (last windowDue).prof.attemptLimit ≤ (last windowDue).status.attempts) ∧
    (∀ x ∈ [lockDue, inWindow, windowDue], let y := training (last x);
      Ready (at0 y) ∧ (at0 y).memOk ∧ y.prof.attemptLimit ≤ y.status.attempts ∧
        y.jobs = [(⟨2, 7, .train prof, 5⟩ : Job)] ∧ y.status.running = some 2) ∧
    Behind offerDue ∧ Behind (last windowDue) := by decide +kernel

/-- A port whose charged rate has this count, in this offer set. -/
def failing (n : BitVec 8) (offers : RateSet) : Port :=
  { portIn .verify with status := { (portIn .verify).status with
    failCounts := Vector.replicate 4 n, offerSet := offers } }

theorem meets_ChargeAppliesDownshiftTest :
    let left : Port → RateSet := fun x => x.status.offerSet &&& ~~~((1 : BitVec 4) <<< Rate.r5G.code.val)
    (left (failing 1 15) ≠ 0 ∧ (failing 1 15).prof.downshift = true ∧ (failing 1 15).capRemoved = false) ∧
    left (failing 255 8) = 0 ∧ (failing 255 8).status.failCounts[(3 : Fin 4)] = 255 := by decide +kernel

def backingOff : Port :=
  { portIn .backoff with timers := { Timers.stopped with backoff := some 0 }, backoffLen := 24 }

theorem meets_BackoffExpiryStartsAttempt :
    (Ready idle0 ∧ (idle0.port 0).status.state ≠ .backoff) ∧
    (Ready (unready backingOff) ∧ (unready backingOff).isReady (quadOf 0) = false ∧
      backingOff.timers.backoff = some 0) ∧
    (let s := at0 backingOff;
      Ready s ∧ s.isReady (quadOf 0) = true ∧ (s.port 0).status.offerSet &&& (s.port 0).status.qualSet ≠ 0 ∧
        (s.port 0).settled) ∧
    (let s := at0 { backingOff with status := { backingOff.status with qualSet := 0 } };
      Ready s ∧ s.isReady (quadOf 0) = true ∧ (s.port 0).status.offerSet &&& (s.port 0).status.qualSet = 0 ∧
        (s.port 0).jobless) ∧
    (let s := at0 (training { backingOff with status := { backingOff.status with qualSet := 0 } });
      Ready s ∧ s.memOk ∧ s.isReady (quadOf 0) = true ∧ (s.port 0).status.offerSet &&& (s.port 0).status.qualSet = 0 ∧
        (s.port 0).jobs = [(⟨2, 7, .train prof, 5⟩ : Job)] ∧ (s.port 0).status.running = some 2) ∧
    Behind { backingOff with status := { backingOff.status with qualSet := 0 } } := by decide +kernel

def roleHolding (f : Profile) : Port :=
  { portIn .roleHold with profile := some f, timers := { Timers.stopped with roleHold := some 0 } }

theorem meets_RoleHoldExpiryBeginsSequence :
    (Ready (at0 (roleHolding prof)) ∧ (roleHolding prof).prof.autoRetrain = false) ∧
    (let s := at0 (roleHolding { retrainProf with precheck := true });
      Ready s ∧ (s.port 0).settled ∧ (s.port 0).request = none ∧ (s.port 0).prof.precheck = true) ∧
    (let s := at0 (roleHolding retrainProf);
      Ready s ∧ (s.port 0).settled ∧ (s.port 0).request = none ∧ (s.port 0).prof.precheck = false ∧
        (s.port 0).status.offerSet &&& (s.port 0).status.qualSet ≠ 0 ∧ s.isReady (quadOf 0) = true) ∧
    (let s := unready { roleHolding retrainProf with request := some .watch };
      Ready s ∧ (s.port 0).jobless ∧ s.isReady (quadOf 0) = false) ∧
    (let x := roleHolding retrainProf
      let s := at0 { x with status := { x.status with qualSet := 0 } };
      Ready s ∧ (s.port 0).jobless ∧ (s.port 0).status.offerSet &&& (s.port 0).status.qualSet = 0) := by
  decide +kernel

/-! ## Bursts and pages -/

def due (x : Port) : Port := { x with sender := ⟨some 0, true, none⟩ }

theorem meets_BurstDueIsSentOrSkipped :
    (Ready idle0 ∧ (idle0.port 0).status.state ≠ .offer ∧ (idle0.port 0).status.state ≠ .exchange) ∧
    (Ready (at0 { portIn .offer with sender := ⟨some 0, true, some 0⟩ })) ∧
    (let s := (at0 (due { portIn .exchange with
        status := { (portIn .exchange).status with counters := Vector.replicate 13 0xFFFF } })).setClaim 0 true;
      Ready s ∧ s.claimed (quadOf 0) = true ∧ (s.port 0).status.counters[2] = 0xFFFF) ∧
    (let s := (at0 (due (portIn .offer))).setClaim 0 true;
      Ready s ∧ s.claimed (quadOf 0) = true ∧ (s.port 0).status.counters[2] ≠ 0xFFFF) ∧
    (let s := at0 (due (portIn .offer));
      Ready s ∧ s.claimed (quadOf 0) = false ∧ (s.port 0).sender.onLine = none ∧ (s.port 0).sender.due = true) := by
  decide +kernel

/-- A port in EXCHANGE, matched at page k with n acknowledge bursts sent, whose acknowledge burst for page k is on the
line. -/
def acking (k : PageNo) (n : Nat) (seen : Bool) (ours partner : Vector (Option Word) 4) : Port :=
  { portIn .exchange with
    sender := ⟨some 3, false, some (OfferWord.onLine (BitVec.ofNat 16 (16384 * k.val)) true)⟩
    exch := { Exchange.start with isMatched := true, ack := true, ackSent := n, seen := seen }
    status := { (portIn .exchange).status with page := k, ours := ours, partner := partner } }

/-- The word on the line of `acking`. -/
def ackWord (k : PageNo) : Word := OfferWord.onLine (BitVec.ofNat 16 (16384 * k.val)) true

/-- The burst on the line is the third acknowledge burst of the current page, and the partner is seen. -/
abbrev Completes (x : Port) (k : PageNo) : Prop :=
  Ready (at0 x) ∧ x.settled ∧ x.sender.onLine = some (ackWord k) ∧ x.status.state = .exchange ∧ x.status.page = k ∧
    x.exch.isMatched = true ∧ x.exch.ackSent = 2 ∧ x.exch.seen = true ∧ (ackWord k).getLsbD 12 = true ∧
    ((ackWord k).extractLsb' 14 2).toFin = k

def noWords : Vector (Option Word) 4 := Vector.replicate 4 none

theorem meets_BurstSentCountsAcknowledge :
    (Ready idle0 ∧ (idle0.port 0).settled ∧ (idle0.port 0).sender.onLine = none) ∧
    (Ready (at0 (acking 3 3 true noWords noWords)) ∧ ¬ (acking 3 3 true noWords noWords).exch.ackSent < 3) ∧
    (let x := acking 3 1 true noWords noWords;
      Ready (at0 x) ∧ x.settled ∧ x.exch.ackSent < 2 ∧ x.status.page = 3) ∧
    (let x := acking 0 2 false noWords noWords;
      Ready (at0 x) ∧ x.exch.ackSent < 3 ∧ x.exch.seen = false) := by decide +kernel

/-- The ends of the range of splits, and a word of each acknowledge flag. -/
theorem meets_SentBurstIsReadBack :
    ([(0x27C0, false), (0xFFFF, true), (0, true)] : List (Word × Bool)).all (fun x =>
      let w := OfferWord.onLine x.1 x.2
      ([5, 8] : List Nat).all fun split =>
        match readTransitions split (burstTransitions w) with
        | some b => decide (b.verdict = .valid w)
        | none => false) = true := by decide +kernel

theorem meets_CompletedPageMovesOn :
    (let x := acking 0 2 true (noWords.set 0 (some 0x2000)) noWords;
      Completes x 0 ∧ x.status.ours[(0 : PageNo)] ≠ none ∧ (x.status.ours[(0 : PageNo)].getD 0).getLsbD 13 = true ∧
        x.status.ours[(1 : PageNo)] = none) ∧
    (let x := acking 2 2 true (noWords.set 2 (some 0x8000)) (noWords.set 2 (some 0xA000));
      Completes x 2 ∧ x.status.ours[(2 : PageNo)] ≠ none ∧
        (x.status.partner[(2 : PageNo)].getD 0).getLsbD 13 = true ∧ x.status.ours[(3 : PageNo)] = none) := by
  decide +kernel

/-- The words of two ends at page 1, with these page-0 words and this page-1 word of the partner. -/
def ending (o0 q0 q1 : Word) : Port :=
  acking 1 2 true ((noWords.set 0 (some o0)).set 1 (some 0x4000)) ((noWords.set 0 (some q0)).set 1 (some q1))

/-- No more pages on either side, and these are the words the resolution reads. -/
abbrev Resolves (o0 q0 q1 : Word) : Prop :=
  Completes (ending o0 q0 q1) 1 ∧ ((ending o0 q0 q1).status.ours[(1 : PageNo)].getD 0).getLsbD 13 = false ∧
    ((ending o0 q0 q1).status.partner[(1 : PageNo)].getD 0).getLsbD 13 = false ∧
    (ending o0 q0 q1).status.ours[(0 : PageNo)] = some o0 ∧ (ending o0 q0 q1).status.partner[(0 : PageNo)] = some q0 ∧
    (ending o0 q0 q1).status.partner[(1 : PageNo)] = some q1

theorem meets_ExchangeEndResolvesLink :
    (Resolves 0x27D3 0x27CB 0x4600 ∧ resolveRole .preferLead .preferLead 19 11 = .settled .lead) ∧
    (Resolves 0x27D3 0x27CB 0x4000 ∧ resolveRole .preferLead .preferLead 19 11 = .settled .lead) ∧
    (Resolves 0x2053 0x27CB 0x4600 ∧ (ending 0x2053 0x27CB 0x4600).jobless ∧
      (0x2053 : Word).extractLsb' 7 4 &&& (0x27CB : Word).extractLsb' 7 4 = 0) ∧
    (Resolves 0x2780 0x2780 0x4600 ∧ (ending 0x2780 0x2780 0x4600).jobless ∧
      resolveRole .forceLead .forceLead 0 0 = .fault) ∧
    (let x := acking 3 2 true ((noWords.set 0 (some 0x27D3)).set 3 (some 0xE000))
        ((noWords.set 0 (some 0x27CB)).set 1 (some 0x4600));
      Completes x 3) ∧
    (Resolves 0x27D3 0x27D3 0x4600 ∧ resolveRole .preferLead .preferLead 19 19 = .clash ∧
      ∀ n, n = 5 ∨ n = 6 → let x := ending 0x27D3 0x27D3 0x4600
        Completes { x with exch := { x.exch with clashes := n } } 1) ∧
    ∀ x ∈ [ending 0x27D3 0x27CB 0x4600, ending 0x2053 0x27CB 0x4600, ending 0x2780 0x2780 0x4600,
        ending 0x27D3 0x27D3 0x4600], let y := training x
      Completes y 1 ∧ (at0 y).memOk ∧ y.jobs = [(⟨2, 7, .train prof, 5⟩ : Job)] ∧ y.status.running = some 2 := by
  refine ⟨by decide +kernel, by decide +kernel, by decide +kernel, by decide +kernel, by decide +kernel,
    ⟨by decide +kernel, by decide +kernel, ?_⟩, by decide +kernel⟩
  rintro n (rfl | rfl) <;> decide +kernel

theorem meets_ExchangeEndResolvesLink_behind : Behind (ending 0x2053 0x27CB 0x4600) := by decide +kernel

theorem meets_RolesResolveByTable :
    let x := ending 0x27D3 0x27CB 0x4600
    resolveRole (OfferWord.claim (x.status.ours[0].getD 0)) (OfferWord.claim (x.status.partner[0].getD 0))
      (OfferWord.seed (x.status.ours[0].getD 0)) (OfferWord.seed (x.status.partner[0].getD 0)) = .settled .lead ∧
    resolveRole .preferLead .preferLead 1 0 = .settled .lead ∧ (0 : BitVec 5).toNat < (1 : BitVec 5).toNat := by
  decide +kernel

/-! ## The decoder -/

/-- A port in OFFER with this burst in progress, last transition at sample 100. -/
def hearing (split : Nat) (half bad : Bool) (count : Nat) (working : BitVec 16) : Port :=
  { portIn .offer with decoder := ⟨some ⟨[true], half, 100, split, bad⟩, count, working⟩ }

/-- The decoder runs inside a window, and the interval is 1 to 16 samples. -/
abbrev Hears (x : Port) (n : Nat) : Prop :=
  Ready (at0 x) ∧ (at0 x).decoderRuns 0 = true ∧ x.decoder.windowCount < 255 ∧ 100 < n ∧ n ≤ 100 + 16

theorem meets_TransitionIsTimedAndRead :
    Ready idle0 ∧ ([] : List Bool).length % 2 = 0 ∧ (at0 (portIn .linked)).decoderRuns 0 = false ∧
    (let x := { portIn .offer with decoder := ⟨none, 254, 0⟩ };
      Ready (at0 x) ∧ (at0 x).decoderRuns 0 = true ∧ x.decoder.windowCount < 255 ∧ x.decoder.burst = none) ∧
    Hears (hearing 0 false false 254 0) 101 ∧ Hears (hearing 7 false true 254 0) 116 ∧
    (Hears (hearing 8 false false 0 0) 116 ∧ 2 * 8 ≤ 116 - 100) ∧
    (Hears (hearing 7 true false 0 0) 107 ∧ Hears (hearing 7 false false 0 0) 113) ∧
    (Hears (hearing 2 false false 0 0) 101 ∧ Hears (hearing 7 true false 0 0) 106) := by decide +kernel

theorem meets_WindowEndDecidesSplit :
    (let x := { portIn .offer with decoder := ⟨none, 255, 0x0738⟩ };
      Ready (at0 x) ∧ (at0 x).decoderRuns 0 = true ∧ findSplit 0x0738 = some 7) ∧
    (Ready (at0 (hearing 7 false false 255 1)) ∧ (at0 (hearing 7 false false 255 1)).decoderRuns 0 = true ∧
      (hearing 7 false false 255 1).decoder.working ||| (1 <<< (103 - 100 - 1)) = 5 ∧ findSplit 5 = some 2) ∧
    (Ready (at0 (hearing 7 false false 255 0x3FFF)) ∧
      (hearing 7 false false 255 0x3FFF).decoder.working ||| (1 <<< (116 - 100 - 1)) = 0xBFFF ∧
      findSplit 0xBFFF = some 15) ∧
    (Ready (at0 (hearing 7 false false 255 0)) ∧
      (hearing 7 false false 255 0).decoder.working ||| (1 <<< (101 - 100 - 1)) = 1 ∧ findSplit 1 = none) := by
  decide +kernel

/-- The cells of a burst of a word, newest first, with split 7. -/
def heard (w : Word) : BurstIn := ⟨(true :: wordBits w).reverse, true, 100, 7, false⟩

def listening (st : PortState) (b : BurstIn) : Port := { portIn st with decoder := ⟨some b, 3, 0⟩ }

theorem meets_EndedBurstIsHandedOn :
    (Ready idle0 ∧ (idle0.port 0).settled ∧ (idle0.port 0).decoder.burst = none) ∧
    (let x := listening .offer { heard 0x27C0 with split := 0 };
      Ready (at0 x) ∧ (at0 x).decoderRuns 0 = true) ∧
    (let x := listening .exchange { heard 0x27C0 with bad := true };
      Ready (at0 x) ∧ (at0 x).decoderRuns 0 = true ∧ ({ heard 0x27C0 with bad := true } : BurstIn).verdict = .bad ∧
        x.status.counters[1] ≠ 0xFFFF ∧ x.exch.isMatched = false) ∧
    (Ready (at0 (listening .offer (heard 0x27C9))) ∧ (at0 (listening .offer (heard 0x27C9))).decoderRuns 0 = true ∧
      (heard 0x27C9).verdict = .valid 0x27C9) ∧
    (Ready (at0 (listening .idle (heard 0x27C9))) ∧ (at0 (listening .idle (heard 0x27C9))).decoderRuns 0 = true ∧
      (portIn .idle).prof.autoRetrain = false) ∧
    (let x := { listening .idle (heard 0x27C9) with profile := some retrainProf, request := some .watch };
      Ready (at0 x) ∧ (at0 x).decoderRuns 0 = true ∧ x.prof.autoRetrain = true ∧ x.jobless) := by decide +kernel

/-- In EXCHANGE at page k with this run, having restarted n times, a burst of word w has just been heard. -/
def matching (k : PageNo) (w : Word) (run : Option Word) (count n : Nat) : Port :=
  { listening .exchange (heard w) with
    exch := { Exchange.start with runWord := run, runCount := count, restarts := n }
    status := { (portIn .exchange).status with page := k } }

abbrev Matches (k : PageNo) (w : Word) (run : Option Word) (count n : Nat) : Prop :=
  let x := matching k w run count n
  Ready (at0 x) ∧ x.settled ∧ (at0 x).decoderRuns 0 = true ∧ (heard w).verdict = .valid w ∧ x.exch.isMatched = false

/-- In EXCHANGE at page k, matched with this word after n acknowledge bursts, a burst of word w has just been heard. -/
def matchedAt (k : PageNo) (r w : Word) (n : Nat) (ours : Vector (Option Word) 4) : Port :=
  { listening .exchange (heard w) with
    exch := { Exchange.start with isMatched := true, ack := true, ackSent := n }
    status := { (portIn .exchange).status with page := k, ours := ours, partner := noWords.set k (some r) } }

abbrev Hearing (x : Port) (w : Word) : Prop :=
  Ready (at0 x) ∧ x.settled ∧ (at0 x).decoderRuns 0 = true ∧ (heard w).verdict = .valid w ∧ x.exch.isMatched = true

/-- At page 1, the last of both ends, with three acknowledge bursts sent and these words, the partner's acknowledge of
our page has just been heard. -/
def hearingLast (o0 q0 q1 : Word) : Port :=
  let x := matchedAt 1 q1 (q1 ^^^ 0x1800) 3 ((noWords.set 0 (some o0)).set 1 (some 0x4000))
  { x with status := { x.status with partner := (noWords.set 0 (some q0)).set 1 (some q1) } }

/-- The last page completes with these words. -/
abbrev HearsLast (o0 q0 q1 : Word) : Prop :=
  let x := hearingLast o0 q0 q1
  Hearing x (q1 ^^^ 0x1800) ∧ x.exch.ackSent = 3 ∧ x.status.page = 1 ∧ (q1 ^^^ 0x1800).getLsbD 12 = true ∧
    ((q1 ^^^ 0x1800).extractLsb' 14 2).toFin = (1 : PageNo) ∧ q1 &&& 0xE7FF = (q1 ^^^ 0x1800) &&& 0xE7FF ∧
    (x.status.ours[(1 : PageNo)].getD 0).getLsbD 13 = false ∧
    (x.status.partner[(1 : PageNo)].getD 0).getLsbD 13 = false ∧ x.status.ours[(0 : PageNo)] = some o0 ∧
    x.status.partner[(0 : PageNo)] = some q0 ∧ x.status.partner[(1 : PageNo)] = some q1 ∧ x.jobless

theorem meets_PartnerWordIsMatched :
    (Matches 3 0x27C9 none 0 3 ∧ ((0x27C9 : Word).extractLsb' 14 2).toNat + 1 < (3 : PageNo).val) ∧
    (Matches 0 0x8800 none 0 4 ∧ (0 : PageNo).val + 1 < ((0x8800 : Word).extractLsb' 14 2).toNat) ∧
    (Matches 2 0xC000 none 0 0 ∧ ((0xC000 : Word).extractLsb' 14 2).toNat = (2 : PageNo).val + 1) ∧
    Hearing (matchedAt 0 0x27C9 0x27C9 2 noWords) 0x27C9 ∧ (0x27C9 : Word).getLsbD 12 = false ∧
    (Hearing (matchedAt 0 0x27C9 0x3FC9 2 noWords) 0x3FC9 ∧ (0x3FC9 : Word).getLsbD 12 = true) ∧
    (let x := matchedAt 2 0x8800 0xC000 3 (noWords.set 2 (some 0xA000));
      Hearing x 0xC000 ∧ x.status.ours[(3 : PageNo)] = none ∧
        (x.status.ours[(2 : PageNo)].getD 0).getLsbD 13 = true) ∧
    (Hearing (matchedAt 0 0x27CA 0x27C9 0 noWords) 0x27C9 ∧ (0x27CA : Word) &&& 0xE7FF ≠ (0x27C9 : Word) &&& 0xE7FF) ∧
    (Matches 3 0x8800 none 0 0 ∧ ((0x8800 : Word).extractLsb' 14 2).toNat + 1 = (3 : PageNo).val) ∧
    (Matches 0 0x27C9 none 0 0 ∧ ((0x27C9 : Word).extractLsb' 14 2).toFin = (0 : PageNo)) ∧
    (Matches 0 0x27C9 (some 0x3FC9) 1 0 ∧ (0x3FC9 : Word) &&& 0xE7FF = (0x27C9 : Word) &&& 0xE7FF) ∧
    Matches 0 0x27C9 (some 0x27C9) 2 0 ∧
    (Matches 0 0x27C9 (some 0x27CA) 2 3 ∧ (0x27CA : Word) &&& 0xE7FF ≠ (0x27C9 : Word) &&& 0xE7FF ∧
      (matching 0 0x27C9 (some 0x27CA) 2 3).status.counters[3] ≠ 0xFFFF) ∧
    (Matches 0 0x27C9 (some 0x27CA) 2 4 ∧
      (matching 0 0x27C9 (some 0x27CA) 2 4).status.attempts <
        (matching 0 0x27C9 (some 0x27CA) 2 4).prof.attemptLimit) ∧
    (∀ x ∈ [last (matching 0 0x27C9 (some 0x27CA) 2 4), last (matching 3 0x27C9 none 0 4)],
      Ready (at0 x) ∧ x.exch.restarts = 4 ∧ x.prof.attemptLimit ≤ x.status.attempts ∧ x.jobless) ∧
    HearsLast 0x27D3 0x27CB 0x4E00 ∧ HearsLast 0x2053 0x27CB 0x4E00 ∧ HearsLast 0x2780 0x2780 0x4E00 ∧
    HearsLast 0x27D3 0x27D3 0x4E00 ∧ Behind (hearingLast 0x2053 0x27CB 0x4E00) := by
  decide +kernel

/-- R52, R57, R63: the partner's acknowledge of the last page, heard after our three, takes the port to VERIFY. -/
theorem test_partner_completes_last_page :
    ((after (.burstEnd 0) (at0 (hearingLast 0x27D3 0x27CB 0x4E00))).port 0).status.state = .verify := by decide +kernel

theorem meets_ExchangeBreakReturnsToOffer :
    (Ready idle0 ∧ (idle0.port 0).status.state ≠ .exchange) ∧
    (let x := { portIn .exchange with timers := { Timers.stopped with brk := some 0 } };
      Ready (at0 x) ∧ x.status.state = .exchange ∧ x.timers.brk = some 0) := by decide +kernel

/-! ## Verification and monitoring -/

def lockWaiting : Port :=
  { portIn .verify with status := { (portIn .verify).status with sub := .lockWait } }

theorem meets_LockAndErrorEvents :
    (Ready idle0 ∧ (idle0.port 0).status.state ≠ .verify ∧ (idle0.port 0).status.state ≠ .linked) ∧
    (Ready (at0 lockWaiting) ∧ (at0 lockWaiting).engineOf 0 = none ∧ lockWaiting.lockUp = false) ∧
    (Ready (at0 { inWindow with errTotal := 0xFFFFFFFF, monitor := ⟨0xFFFF, 0, 0⟩ }) ∧
      (at0 inWindow).engineOf 0 = none) ∧
    (Ready (at0 { portIn .linked with lockUp := true }) ∧ (at0 (portIn .linked)).engineOf 0 = none) ∧
    (Ready (at0 (portIn .linked)) ∧ (portIn .linked).lockUp = false) := by decide +kernel

theorem meets_VerifiedPortIsLinked :
    (let x := { windowDue with monitor := Monitor.zero };
      Ready (at0 x) ∧ (at0 x).memOk ∧ x.history.length ≤ 4 ∧ x.status.state = .verify ∧ x.timers.verify = some 0 ∧
        x.monitor.verifyCount.toNat ≤ x.prof.verifyThreshold ∧ x.jobless) ∧
    (let x := training { windowDue with
        monitor := Monitor.zero, history := List.replicate 4 ⟨0, none, 0, .r1G, .lead, 1, 0⟩ };
      Ready (at0 x) ∧ (at0 x).memOk ∧ x.history.length ≤ 4 ∧ x.jobs = [(⟨2, 7, .train prof, 5⟩ : Job)] ∧
        x.status.running = some 2) ∧
    Behind { windowDue with monitor := Monitor.zero } := by decide +kernel

/-- R143, R144: behind the TRAIN job that ends LINKED, a DIAGNOSE that may not break the link ends LINK_UP (8), a HOLD
ends HELD (9), and the next DIAGNOSE runs, all on one event. -/
theorem test_ends_run_through :
    let x := training { windowDue with monitor := Monitor.zero }
    let t := after (.verifyWindowEnd 0) (at0 { x with
      jobs := x.jobs ++ [⟨3, 7, .diagnose rec false, 5⟩, ⟨4, 7, .hold, 5⟩, ⟨5, 7, .diagnose rec false, 5⟩] })
    t.cellWord 2 3 = 0x0100 ∧ t.cellWord 3 3 = 0x0800 ∧ t.cellWord 4 3 = 0x0900 ∧ t.cellWord 5 0 = 3 ∧
      (t.port 0).status.state = .probe ∧ (t.port 0).status.running = some 5 ∧ (t.port 0).editCount = 2 := by
  decide +kernel

/-- A LINKED port whose monitor timer and drop hold are due, with this error count. -/
def monitored (f : Profile) (errors : Word) : Port :=
  { portIn .linked with
    profile := some f, timers := { Timers.stopped with monitor := some 0, drop := some 0 }, monitor := ⟨0, errors, 0⟩ }

abbrev Watched (x : Port) : Prop :=
  Ready (at0 x) ∧ x.history.length ≤ 4 ∧ x.jobless ∧ x.status.state = .linked ∧ x.timers.monitor = some 0 ∧
    x.timers.drop = some 0

theorem meets_LinkMonitorKeepsOrDropsLink :
    (Watched (monitored prof 0) ∧ (0 : Word).toNat < prof.monitorThreshold) ∧
    (Watched (monitored { prof with badLimit := 2 } 1) ∧ prof.monitorThreshold ≤ (1 : Word).toNat ∧ 0 + 1 < 2) ∧
    (Watched (monitored prof 1) ∧ prof.badLimit ≤ 0 + 1 ∧ prof.autoRetrain = false) ∧
    (Watched (monitored { retrainProf with precheck := true } 1) ∧ retrainProf.autoRetrain = true) ∧
    Watched (monitored retrainProf 0) := by decide +kernel

/-! ## Readiness and the arbiter -/

/-- The port waits quietly, whatever its quad's readiness. -/
abbrev Calm (s : State) (p : PortNo) : Prop :=
  (s.port p).settled ∧ ((s.port p).status.state = .disabled ∨ (s.port p).status.state = .backoff ∨
    (s.port p).status.state = .roleHold ∨ s.engineOf p = none ∧ ((s.port p).status.state = .check ∨
      (s.port p).status.state = .probe ∨ (s.port p).status.state = .idle ∨ (s.port p).status.state = .cableHold))

def watchAsk : Request := ⟨0, .watch, .second, 0, 0⟩

/-- Every engine granted, to ports of the last four quads. -/
def allGranted (s : State) : State :=
  (((s.setGrant 0 (some ⟨{ watchAsk with port := 32 }, false⟩)).setGrant 1
    (some ⟨{ watchAsk with port := 36 }, false⟩)).setGrant 2 (some ⟨{ watchAsk with port := 40 }, false⟩)).setGrant 3
      (some ⟨{ watchAsk with port := 44 }, false⟩)

/-- READINESS_FALL of quad 0 meets port 0 alone, the other ports of the quad being calm. -/
abbrev FallsOn (s : State) : Prop :=
  Open s ∧ s.isReady 0 = true ∧ s.runState = .running ∧ ∀ p', quadOf p' = 0 → p' ≠ 0 → Calm s p'

theorem meets_ReadinessChangesAct :
    ((Open (unready (portIn .idle)) ∧ (unready (portIn .idle)).isReady 0 = false) ∧
    (Open stopped ∧ stopped.isReady 0 = true ∧ stopped.runState ≠ .running) ∧
    (Open State.reset ∧ State.reset.isReady 0 = false ∧ State.reset.runState ≠ .running) ∧
    (Open idle0 ∧ idle0.isReady 0 = true ∧ idle0.runState = .running ∧ ∀ p, quadOf p = 0 → Calm idle0 p) ∧
    (let s := at0 (portIn .verify);
      FallsOn s ∧ (s.port 0).settled ∧ (s.port 0).status.attempts < (s.port 0).prof.attemptLimit) ∧
    (let x := last (portIn .verify);
      FallsOn (at0 x) ∧ x.jobless ∧ x.prof.attemptLimit ≤ x.status.attempts ∧ FallsOn (behind (.train prof) x) ∧
        Behind x) ∧
    (∀ f ∈ [prof, retrainProf], let s := at0 (storied { portIn .linked with profile := some f });
      FallsOn s ∧ (s.port 0).jobless ∧ (s.port 0).history.length ≤ 4) ∧
    (let s := unready (portIn .idle);
      Open s ∧ s.isReady 0 = false ∧ s.runState = .running ∧ s.requests = []) ∧
    (let s := allGranted (unready (portIn .idle));
      Open s ∧ s.isReady 0 = false ∧ s.runState = .running ∧ ∀ e, ¬ s.isFree e) ∧
    (let s := { unready (portIn .idle) with requests := [watchAsk] };
      Open s ∧ s.isReady 0 = false ∧ quadOf watchAsk.port = 0 ∧ s.claimed 0 = false ∧ (s.engine 0).meas = none ∧
        s.grant 0 = none)) ∧
    (let m := tracing (.finishing 1 zeros);
      let s := behindBusy (.diagnose rec false) (portIn .probe) m;
      (FallsOn s ∧ s.memOk ∧ (s.port 0).jobs = ⟨2, 7, .diagnose rec false, 5⟩ :: [nextJob]) ∧ s.jobsOk ∧
        s.measures 0 m 0) ∧
    ∀ x ∈ [portIn .check, probing, portIn .idle, portIn .cableHold],
      let m := tracing (.finishing 1 zeros)
      (FallsOn (busy x m) ∧ (busy x m).memOk ∧ x.settled) ∧ (busy x m).measures 0 m 0 := by
  refine ⟨by decide +kernel, ⟨by decide +kernel, behindBusy_jobsOk _ _ _, measures_of_busy (by decide +kernel)⟩, ?_⟩
  have each : ∀ x ∈ [portIn .check, probing, portIn .idle, portIn .cableHold],
      let m := tracing (.finishing 1 zeros)
      (FallsOn (busy x m) ∧ (busy x m).memOk ∧ x.settled) ∧ Busy (busy x m) m 0 := by decide +kernel
  exact fun x hx => ⟨(each x hx).1, measures_of_busy (each x hx).2⟩

/-- Port 0 has sent this to the arbiter, and nothing before it. -/
def sent (m : PortMsg) : Port := { portIn .idle with outbox := [m] }

theorem meets_PostedRequestIsListedOrGranted :
    (let s := allGranted (at0 (sent (.request .watch)));
      Ready s ∧ (s.port 0).outbox = [.request .watch] ∧ ∀ e, (s.engine e).meas ≠ none ∨ s.grant e ≠ none) ∧
    (let s := unready (sent (.request .precheck));
      Ready s ∧ s.requests = [] ∧ s.isReady (quadOf 0) = false) ∧
    (let s := (at0 (sent (.request .watch))).setGrant 0 (some ⟨{ watchAsk with port := 44 }, false⟩);
      Ready s ∧ s.requests = [] ∧ s.claimed (quadOf 0) = false ∧ s.isReady (quadOf 0) = true ∧
        (s.engine 1).meas = none ∧ s.grant 1 = none ∧ ∀ f, f < 1 → (s.engine f).meas ≠ none ∨ s.grant f ≠ none) ∧
    (Ready idle0 ∧ (idle0.port 0).outbox = []) ∧
    (∀ cls ∈ [ReqClass.first, .second], let r := { watchAsk with cls := cls };
      let s := { idle0 with requests := [] ++ r :: [{ watchAsk with port := 1 }] };
      s.isFree 0 ∧ s.grantable r ∧ (∀ f, ¬ f < (0 : EngineNo)) ∧ ¬ s.grantsDone) ∧ idle0.grantsDone ∧
    ({ idle0 with requests := [watchAsk] } : State).pickRequest = some watchAsk ∧
    ({ idle0 with requests := [watchAsk, { watchAsk with port := 4, cls := .first }] } : State).pickRequest =
      some { watchAsk with port := 4, cls := .first } := by decide +kernel

theorem meets_WithdrawalAndRaise :
    (let s := { at0 (sent .withdraw) with requests := [watchAsk] };
      Ready s ∧ (s.port 0).outbox = [.withdraw] ∧ ∃ r ∈ s.requests, r.port = 0) ∧
    (let s := { (at0 (sent .withdraw)).setGrant 0 (some ⟨watchAsk, false⟩) with requests := [{ watchAsk with port := 1 }] };
      Ready s ∧ (∀ r ∈ s.requests, r.port ≠ 0) ∧ s.grant 0 = some ⟨watchAsk, false⟩ ∧ watchAsk.port = 0 ∧
        ∀ f, ¬ f < (0 : EngineNo)) ∧
    (let s := { at0 (sent .withdraw) with requests := [{ watchAsk with port := 1 }] };
      Ready s ∧ (∀ r ∈ s.requests, r.port ≠ 0) ∧ ∀ e, s.grant e = none) ∧
    (Ready idle0 ∧ idle0.watchInterval = 0) ∧
    (let s := { idle0 with watchInterval := 1, tick := 2, requests := [watchAsk] };
      Ready s ∧ s.watchInterval ≠ 0 ∧ s.watchInterval.toNat < (s.tick - watchAsk.arrival).toNat) := by decide +kernel

/-! ## Engines -/

/-- Work memory with this velocity factor, chip divider of the quick recipe and length of pattern 0, and these owner
words. -/
def loadMem (v div n : Word) (owners : Memory) : Memory :=
  ([(0x31, v), (0x40, 3), (0x41, div), (0x42, 1), (0x43, 1), (0x44, 16), (0x47, 1), (0x48, 1), (0x49, 1), (0x4A, 1)] ++
    owners ++ [(0x7C00, n), (0x7C01, 0x8000)]).filter fun x => decide (x.2 ≠ 0)

/-- Every slab HELD but k. -/
def heldBut (k : Nat) : Memory :=
  (List.range 40).filterMap fun i => if i = k then none else some (0x80 + i, 2)

/-- Engine 0 is granted this request of port 0, with this work memory. -/
def grantedFor (k : ReqKind) (x : Port) (m : Memory) : State :=
  { ((at0 { x with request := some k }).setGrant 0 (some ⟨{ jobAsk with kind := k }, false⟩)).setClaim 0 true with
    mem := m }

/-- The grant stands, and the quad is ready. -/
abbrev MayLoad (s : State) (k : ReqKind) : Prop :=
  Ready s ∧ s.memOk ∧ s.grant 0 = some ⟨{ jobAsk with kind := k }, false⟩ ∧ (s.port 0).request ≠ none ∧
    PortMsg.withdraw ∉ (s.port 0).outbox ∧ s.isReady (quadOf 0) = true

/-- The quick recipe for all four pairs. -/
def quick (s : State) : Recipe :=
  { Recipe.ofWords (fun i => s.readMem (0x0040 + i)) with pairSet := 15, trace := false }

theorem meets_GrantLoadsEngine :
    (let s := grantedFor (.job rec 7) (sent .withdraw) (loadMem 50 1 1 []);
      Ready s ∧ s.grant 0 = some ⟨jobAsk, false⟩ ∧ PortMsg.withdraw ∈ (s.port 0).outbox) ∧
    (let s := (grantedFor (.job rec 7) (portIn .probe) (loadMem 50 1 1 [])).setReady 0 false;
      Ready s ∧ (s.port 0).request ≠ none ∧ PortMsg.withdraw ∉ (s.port 0).outbox ∧ s.isReady (quadOf 0) = false) ∧
    ([50, 90] : List Word).all (fun v =>
      let s := grantedFor (.job rec 7) (portIn .probe) (loadMem v 1 1 [])
      MayLoad s (.job rec 7) ∧ rec.trace = false ∧
        firstPair rec = some .a ∧ 50 ≤ (s.readMem 0x0031).toNat ∧ (s.readMem 0x0031).toNat ≤ 90 ∧
        1 ≤ (s.readMem 0x7C00).toNat ∧ (s.readMem 0x7C00).toNat ≤ 2032 ∧
        [true].length = (s.readMem 0x7C00).toNat ∧ (s.readMem (0x7C00 + 1 + 0 / 16)).getLsbD (15 - 0 % 16) = true) =
      true ∧
    (∀ k ∈ [ReqKind.precheck, .watch], let s := grantedFor k (portIn .check) (loadMem 50 1 1 []);
      MayLoad s k ∧ (quick s).valid = true ∧ firstPair (quick s) = some .a) := by decide +kernel

theorem meets_GrantLoadsEngine_traced :
    let k := ReqKind.job { rec with trace := true } 7
    (let s := grantedFor k probing (loadMem 90 1 1 (heldBut 39));
      MayLoad s k ∧ s.readMem (ownerAddr 39) = 0 ∧ ∀ l : SlabNo, l < 39 → s.readMem (ownerAddr l) ≠ 0) ∧
    (let s := grantedFor k probing (loadMem 90 1 1 (heldBut 40));
      MayLoad s k ∧ ∀ l : SlabNo, s.readMem (ownerAddr l) ≠ 0) := by decide +kernel

theorem meets_GrantLoadsEngine_fault :
    ([49, 91] : List Word).all (fun v =>
      let s := grantedFor (.job rec 7) probing (loadMem v 1 1 [])
      MayLoad s (.job rec 7) ∧ (s.port 0).status.state = .probe ∧ s.readMem 0x0031 = v ∧
        (s.port 0).jobs = [(⟨2, 7, .diagnose rec false, 5⟩ : Job)]) = true ∧
    ([0, 2033] : List Word).all (fun n =>
      let s := grantedFor .precheck (portIn .check) (loadMem 50 1 n [])
      MayLoad s .precheck ∧ (s.port 0).status.state = .check ∧ (s.port 0).jobless ∧
        s.readMem 0x7C00 = n) = true ∧
    (let s := grantedFor .precheck (training (portIn .check)) (loadMem 50 1 0 []);
      MayLoad s .precheck ∧ (s.port 0).status.state = .check ∧ (s.port 0).settled ∧
        (s.port 0).jobs = [(⟨2, 7, .train prof, 5⟩ : Job)] ∧ (s.port 0).status.offerSet ≠ 0 ∧
        s.readMem 0x7C00 = 0) ∧
    (let s := grantedFor .watch (portIn .idle) (loadMem 50 0 1 []);
      MayLoad s .watch ∧ (quick s).valid = false) := by decide +kernel

/-- A load fault whose DIAGNOSE job has another behind it. -/
theorem meets_GrantLoadsEngine_fault_behind :
    let s : State := { ((behind (.diagnose rec false) { portIn .probe with request := some (.job rec 7) }).setGrant 0
      (some ⟨jobAsk, false⟩)).setClaim 0 true with mem := loadMem 49 1 1 [] }
    (MayLoad s (.job rec 7) ∧ (s.port 0).status.state = .probe ∧ s.readMem 0x0031 = 49 ∧ s.engineOf 0 = none ∧
      (s.port 0).jobs = ⟨2, 7, .diagnose rec false, 5⟩ :: [nextJob]) ∧ s.jobsOk ∧ s.grantsOk :=
  ⟨by decide +kernel, jobsOk_of_same (behind_jobsOk _ _) rfl (fun _ => rfl) (fun _ => rfl) fun _ => rfl,
    grantsOk_of_agree (by decide +kernel)⟩

/-- Engine 0 measures port 0, which is in PROBE for the DIAGNOSE job in cell 2, alone in its list. -/
def measuring (m : Measurement) : State := busy { probing with profile := none } m

theorem meets_QuietCheckPassesOrEndsNoisy :
    ((Ready (measuring (meas (.quietCheck 2 .due))) ∧
      ((measuring (meas (.quietCheck 2 .due))).engine 0).meas = some (meas (.quietCheck 2 .due))) ∧
    (Ready (measuring (meas (.quietCheck 0 .capturing))) ∧
      ∀ j, j < 32 → ¬ 2 ^ 1 ≤ 2 * (sinc 0x5555555555555555 2 1 ((j + 1) * 2 - 1)).natAbs) ∧
    (Ready (measuring (meas (.quietCheck 1 .capturing))) ∧ 2 ^ 1 ≤ 2 * (sinc 3 2 1 ((0 + 1) * 2 - 1)).natAbs) ∧
    (Ready (measuring (meas (.quietCheck 2 .capturing))) ∧
      nextPair (meas (.quietCheck 2 .capturing)).recipe .a = some .b)) ∧
    (let m := tracing (.quietCheck 2 .capturing);
      (Ready (measuring m) ∧ (measuring m).memOk ∧ m.recipe.trace = true ∧ m.pair = some .a ∧
        nextPair m.recipe .a = some .b) ∧ (measuring m).grantsOk) ∧
    (let m := { tracing (.quietCheck 2 .capturing) with pair := some .b };
      Ready (measuring m) ∧ (measuring m).memOk ∧ nextPair m.recipe .b = none ∧
        (measuring m).grant 0 = some ⟨jobAsk, true⟩ ∧ jobAsk.port = m.holder ∧
        (probing.status.state = .probe ∧ probing.jobs = [(⟨2, 7, .diagnose rec false, 5⟩ : Job)])) :=
  ⟨by decide +kernel, ⟨by decide +kernel, grantsOk_of_agree (by decide +kernel)⟩, by decide +kernel⟩

theorem meets_ShotAddsFilteredOutputs :
    (Ready (measuring (meas (.shooting 1 0 zeros))) ∧
      ((measuring (meas (.shooting 1 0 zeros))).engine 0).meas = some (meas (.shooting 1 0 zeros)) ∧
      ∀ q ∈ Pair.list, (zeros.get q).length = (meas (.shooting 1 0 zeros)).recipe.window) ∧
    ((∀ i, i ≤ 1 → (3 : Nat).testBit i = true) ∧ 1 * (2 - 1) ≤ 1) ∧
    idle0.engineOf 0 = none ∧ (measuring (meas (.shooting 1 0 zeros))).grantsOk ∧
    (let m := meas (.shooting 1 0 zeros);
      m.holder = 0 ∧ m.recipe.valid = true ∧ m.pair = some .a ∧
        0 * m.recipe.chipDivider ≤ 0 ∧ 0 < (0 + 1) * m.recipe.chipDivider ∧
        m.pattern.length * m.recipe.chipDivider ≤ 1) ∧
    (measuring (meas (.quietCheck 2 .due))).grantsOk :=
  ⟨by decide +kernel, by decide +kernel, by decide +kernel, grantsOk_of_agree (by decide +kernel), by decide +kernel,
    grantsOk_of_agree (by decide +kernel)⟩

/-- R86: while it shoots, the engine drives the pair under test with the chip under way, and that pair alone. -/
theorem test_pulseOn :
    (measuring (meas (.shooting 1 0 zeros))).pulseOn 0 .a 0 = some true ∧
      (measuring (meas (.shooting 1 0 zeros))).pulseOn 0 .b 0 = none ∧
      (measuring (meas (.shooting 1 0 zeros))).pulseOn 0 .a 1 = none ∧
      (measuring (meas (.quietCheck 0 .capturing))).pulseOn 0 .a 0 = none := by decide +kernel

/-- Accumulators one of which passes the range of a word. -/
def overRange : Pairs Accumulators := { zeros with a := 0x8000 :: List.replicate 15 0 }

theorem meets_CompletedPairIsRecordedAndTraced :
    (∀ acc ∈ [zeros, overRange], let m := meas (.finishing 1 acc)
      Ready (measuring m) ∧ (measuring m).memOk ∧ ((measuring m).engine 0).meas = some m ∧ m.pair = some .a ∧
        m.filling = none ∧ m.recipe.trace = false ∧ nextPair m.recipe .a = some .b) ∧
    (∃ v ∈ overRange.get .a, 32767 < v.toInt / 2 ^ 0) ∧
    (let m := tracing (.finishing 1 zeros);
      (Ready (measuring m) ∧ (measuring m).memOk ∧ ((measuring m).engine 0).meas = some m ∧
        m.recipe.trace = true ∧ (zeros.get .a).length ≤ 512) ∧ (measuring m).grantsOk ∧
        ((measuring m).readMem (ownerAddr 0) = 0 ∧ (measuring m).slabFilling 0 = false ∧ ∀ k' : SlabNo, ¬ k' < 0)) ∧
    (let m := tracing (.finishing 1 zeros);
      let s := { measuring m with mem := heldBut 40 }
      Ready s ∧ s.memOk ∧ GrantsAgree s ∧ ∀ k : SlabNo, s.readMem (ownerAddr k) ≠ 0) :=
  ⟨by decide +kernel, ⟨0x8000, List.mem_cons_self, by decide +kernel⟩,
    ⟨by decide +kernel, grantsOk_of_agree (by decide +kernel), by decide +kernel⟩, by decide +kernel⟩

/-- A measurement of this source in its last pair, its earlier pairs found like this. -/
def lastOf (source : Source) (found : PairStatus) : Measurement :=
  { meas (.finishing 1 zeros) with
    source := source, pair := some .b
    results := { (Pairs.all none : Pairs (Option PairResult)) with a := some { PairResult.notTested with status := found } } }

/-- The last pair of a measurement of port 0 is finishing. -/
abbrev Ends (s : State) (m : Measurement) : Prop :=
  Ready s ∧ s.memOk ∧ (s.engine 0).meas = some m ∧ s.grant 0 = some ⟨jobAsk, true⟩ ∧ jobAsk.port = m.holder ∧
    m.phase = .finishing 1 zeros ∧ m.pair = some .b ∧ nextPair m.recipe .b = none

/-- The qualified set that port 0 takes from the measurement. -/
def qualOf (m : Measurement) : RateSet :=
  qualifiedFrom (({ m with
    results := m.results.set .b (some (pairResult m.recipe m.velocity .b 1 none (zeros.map fun l => l.map BitVec.toInt))) } :
      Measurement).reportWith 0 0).pairs

theorem meets_LastPairEndsDiagnose :
    (let m := lastOf .job .normal;
      let s := measuring m;
      Ends s m ∧ (s.port 0).status.state = .probe ∧ (s.port 0).profile = none ∧
        (s.port 0).jobs = [(⟨2, 7, .diagnose rec false, 5⟩ : Job)]) ∧
    (let m := lastOf .job .normal;
      Ends (busy probing m) m ∧ probing.profile = some prof) ∧
    (let m := { lastOf .job .normal with filling := some 39 };
      Ends (busy probing m) m ∧ probing.jobs = [(⟨2, 7, .diagnose rec false, 5⟩ : Job)] ∧
        (zeros.get .b).length ≤ 512) ∧
    (let m := lastOf .precheck .openEnd;
      let x := portIn .check;
      let y : Port := { x with
        jobs := [⟨2, 7, .train prof, 5⟩], status := { x.status with running := some 2 } };
      Ends (busy x m) m ∧ x.jobless ∧ Ends (busy y m) m ∧ y.status.state = .check ∧
        y.status.offerSet &&& qualOf m = 0) ∧
    (∀ x ∈ [portIn .check, training (portIn .check)], let m := lastOf .precheck .normal;
      Ends (busy x m) m ∧ x.settled ∧ x.status.offerSet &&& qualOf m ≠ 0) ∧
    (let m := lastOf .watch .noisy;
      let x := { portIn .idle with profile := some retrainProf };
      Ends (busy x m) m ∧ x.jobless ∧ x.report.sequence = 0 ∧ x.prof.autoRetrain = true) ∧
    (let m := lastOf .watch .normal;
      let x := { portIn .cableHold with profile := some retrainProf, report := m.reportWith 0 1 };
      Ends (busy x m) m ∧ x.jobless ∧ x.report.sequence ≠ 0 ∧ x.status.offerSet &&& qualOf m ≠ 0) := by
  decide +kernel

/-- The measurement that ends the job of cell 2, with the job of cell 3 behind it. -/
theorem meets_LastPairEndsDiagnose_behind :
    (let m := lastOf .job .normal;
      let s := behindBusy (.diagnose rec false) (portIn .probe) m;
      (Ends s m ∧ (s.port 0).jobs = ⟨2, 7, .diagnose rec false, 5⟩ :: [nextJob]) ∧ s.jobsOk ∧ s.grantsOk) ∧
    (let m := lastOf .precheck .openEnd;
      let s := behindBusy (.train prof) (portIn .check) m;
      (Ends s m ∧ (s.port 0).status.running = some 2 ∧ (s.port 0).status.offerSet &&& qualOf m = 0) ∧ s.jobsOk ∧
        s.grantsOk) ∧
    (let m := { tracing (.quietCheck 2 .capturing) with pair := some .b };
      let s := behindBusy (.diagnose rec false) (portIn .probe) m;
      (Ready s ∧ s.memOk ∧ (s.engine 0).meas = some m ∧ s.grant 0 = some ⟨jobAsk, true⟩) ∧ s.jobsOk ∧ s.grantsOk) :=
  ⟨⟨by decide +kernel, behindBusy_jobsOk _ _ _, grantsOk_of_agree (by decide +kernel)⟩,
    ⟨by decide +kernel, behindBusy_jobsOk _ _ _, grantsOk_of_agree (by decide +kernel)⟩,
    ⟨by decide +kernel, behindBusy_jobsOk _ _ _, grantsOk_of_agree (by decide +kernel)⟩⟩

/-- A window of 16 positions, 0 but for this value at the last. -/
def blip (v : Int) : List Int := List.replicate 15 0 ++ [v]

/-- The last position is the first to reach the limit, and holds the largest magnitude. -/
abbrev FirstAtLast (limit : Nat) (v : Int) : Prop :=
  (blip v)[15]? = some v ∧ limit ≤ v.natAbs ∧
    ∀ x ∈ (blip v).zipIdx, x.2 = 15 ∨ ¬ limit ≤ x.1.natAbs ∧ x.1.natAbs < v.natAbs

/-- Each clause on the result is met: a crossing at the last position, tied between two channels; a value at and beside
the strong threshold of either sign; and no value at all. -/
theorem meets_DistanceFollowsFormula :
    ((classify rec .a (Pairs.all [0, 1])).status ≠ .normal ∧ (classify rec .a (Pairs.all [0, 0])).status = .normal) ∧
    (rec.valid = true ∧ rec.crossCheck = true ∧ rec.blanking ≤ 15 ∧ FirstAtLast rec.cross 5 ∧
      FirstAtLast rec.cross (-5) ∧
      (classify rec .a ⟨blip 0, blip 5, blip (-5), blip 0⟩).crossPair = some .b) ∧
    (let r : Recipe := { rec with crossCheck := false, strong := 2 };
      r.valid = true ∧ r.blanking ≤ 15 ∧ ∀ v ∈ [(2 : Int), -2, 1, -1], FirstAtLast r.mild v) ∧
    ((blip 0).length = rec.window ∧ ∀ x ∈ blip 0, ¬ rec.mild ≤ x.natAbs ∧ ¬ rec.cross ≤ x.natAbs) := by decide +kernel

theorem meets_QualifiedSetFollowsStatuses :
    let result : PairStatus → PairResult := fun st => { PairResult.notTested with status := st }
    (let x : Pairs PairResult := ⟨result .normal, result .noisy, result .notTested, result .normal⟩;
      x.a.status = .normal ∧ x.b.status = .noisy ∧ x.c.status = .notTested ∧ x.d.status = .normal) ∧
    (let x : Pairs PairResult := ⟨result .normal, result .normal, result .normal, result .openEnd⟩;
      x.a.status = .normal ∧ x.b.status = .normal ∧ x.d.status = .openEnd) ∧
    (let x : Pairs PairResult := ⟨result .short, result .normal, result .normal, result .normal⟩;
      x.a.status = .short) := by decide +kernel

/-! ## The line watch and the invariants -/

def watchProf : Profile := { prof with watch := true }

/-- A period of one tick has run, with this port 0. -/
def expired (x : Port) : State := { at0 x with watchInterval := 1, watchElapsed := 1 }

theorem meets_WatchExpiryMakesPortsDue :
    (Ready idle0 ∧ idle0.watchInterval = 0) ∧ (Ready { idle0 with watchInterval := 2, watchElapsed := 1 }) ∧
    (let s := expired { portIn .idle with profile := some watchProf };
      Ready s ∧ s.watchInterval ≠ 0 ∧ s.watchElapsed = s.watchInterval ∧ (s.port 0).profile = some watchProf ∧
        watchProf.watch = true ∧ (s.port 0).status.state = .idle ∧ s.engineOf 0 = none ∧ (s.port 0).request = none ∧
        (s.port 1).profile = none) ∧
    (let s := (expired { portIn .cableHold with profile := some watchProf, request := some .watch }).setGrant 3
        (some ⟨watchAsk, false⟩);
      Ready s ∧ (s.port 0).request ≠ none ∧ s.grant 3 = some ⟨watchAsk, false⟩ ∧ watchAsk.port = 0 ∧
        PortMsg.withdraw ∉ (s.port 0).outbox ∧ s.engineOf 0 = none) ∧
    (let s := expired { portIn .cableHold with profile := some watchProf, request := some .watch };
      Ready s ∧ (s.port 0).request ≠ none ∧ (∀ e, s.grant e = none) ∧ s.engineOf 0 = none) := by decide +kernel

theorem meets_StepKeepsDataInvariants :
    (∃ t, step held = .next t) ∧ held.memOk ∧ held.editsClosed ∧ held.historiesOk ∧ held.decodersOk :=
  ⟨⟨_, rfl⟩, by decide +kernel⟩

theorem meets_StepKeepsCellsInOnePlace : (∃ t, step held = .next t) ∧ held.jobsOk := ⟨⟨_, rfl⟩, held_jobsOk⟩

theorem meets_StepKeepsOneGrantPerQuad :
    (∃ t, step held = .next t) ∧ held.grantsOk ∧ (held.runState ≠ .running → held.atRest) ∧ held.grantsMade ∧
      let s := { held with requests := [{ watchAsk with port := 4 }], claims := Vector.replicate 12 true }
      s.grantsMade ∧ s.isFree 3 :=
  ⟨⟨_, rfl⟩, held_grantsOk, fun h => absurd rfl h, by decide +kernel⟩

/-- R115: at the release of engine 0 by the last pair of port 0, a request of the same quad is granted that engine. -/
theorem test_release_grants_next :
    let ask := { watchAsk with port := 1 }
    let t := after (.pairCompletion 0) { measuring (lastOf .job .normal) with requests := [ask] }
    (t.engine 0).meas = none ∧ t.grant 0 = some ⟨ask, false⟩ ∧ t.claimed 0 = true ∧ t.requests = [] := by decide +kernel

theorem meets_StepKeepsProfilesInRange_profiles : (∃ t, step held = .next t) ∧ held.profilesOk := by
  refine ⟨⟨_, rfl⟩, ?_, ?_, by decide +kernel, by decide +kernel⟩
  · have all : ∀ p : PortNo, ∀ j ∈ (held.port p).jobs, j.work = .train prof := by decide +kernel
    intro p j f hj hf
    rw [all p j hj] at hf
    cases hf
    decide +kernel
  · have all : ∀ p : PortNo, (held.port p).profile = none ∨ (held.port p).profile = some prof ∧
        (held.port p).status.offerSet ≠ 0 ∧ (held.port p).status.offerSet &&& ~~~prof.allowed = 0 := by decide +kernel
    intro p f hf
    rcases all p with h | ⟨h, h1, h2⟩
    · rw [h] at hf
      cases hf
    · rw [h] at hf
      cases hf
      exact ⟨by decide +kernel, h1, h2⟩

/-- A JOB measurement under way, with its recipe in the list, in the grant and in the engine. -/
theorem meets_StepKeepsProfilesInRange_recipes :
    let s := measuring (meas (.shooting 1 0 zeros))
    (∃ t, step s = .next t) ∧ s.recipesOk := by
  intro s
  have listed : ∀ p : PortNo, ∀ j ∈ (s.port p).jobs, j.work = .diagnose rec false := by decide +kernel
  have sent : ∀ p : PortNo, (s.port p).request = none ∧ (s.port p).outbox = [] := by decide +kernel
  have granted : ∀ e, s.grant e = none ∨ s.grant e = some ⟨jobAsk, true⟩ := by decide +kernel
  have measures : ∀ e, (s.engine e).meas = none ∨ (s.engine e).meas = some (meas (.shooting 1 0 zeros)) := by
    decide +kernel
  have inRange : rec.valid = true ∧ (meas (.shooting 1 0 zeros)).recipe.valid = true := by decide +kernel
  refine ⟨⟨_, rfl⟩, ?_, ?_, fun r hr => absurd hr List.not_mem_nil, ?_, ?_⟩
  · intro p j r i hj hw
    rw [listed p j hj] at hw
    cases hw
    exact inRange.1
  · intro p k h
    rw [(sent p).1, (sent p).2] at h
    rcases h with h | h <;> cases h
  · intro e g hg r tag hk
    rcases granted e with h | h <;> rw [h] at hg <;> cases hg
    cases hk
    exact inRange.1
  · intro e m hm
    rcases measures e with h | h <;> rw [h] at hm <;> cases hm
    exact inRange.2

end Sys2Proof.Tests
end

/-! ## Resolution of roles and rate (R57 to R62)

The role table is proved row by row, together with what it gives the far end, which reads the same two claims the
other way round; the resolution of a link with settled roles is said by its two cases, a rate left or none. -/

namespace Sys2Proof.Machine

/-! ### Seeds compared as numbers -/

theorem bySeed_of_higher {a b : BitVec 5} (h : b.toNat < a.toNat) : bySeed a b = .settled .lead :=
  if_pos h

theorem bySeed_of_lower {a b : BitVec 5} (h : a.toNat < b.toNat) : bySeed a b = .settled .follow := by
  have notHigher : ¬ b < a := Nat.lt_asymm h
  have lower : a < b := h
  rw [bySeed, if_neg notHigher, if_pos lower]

theorem bySeed_self (a : BitVec 5) : bySeed a a = .clash := by
  have irrefl : ¬ a < a := Nat.lt_irrefl _
  rw [bySeed, if_neg irrefl, if_neg irrefl]

/-! ### The far end -/

def Role.opposite : Role → Role
  | .lead => .follow
  | .follow => .lead

theorem Role.opposite_ne (role : Role) : role.opposite ≠ role := by
  cases role <;> decide

/-- What the far end resolves where this end resolves the given result. -/
def RoleResult.atFarEnd : RoleResult → RoleResult
  | .settled role => .settled role.opposite
  | .fault => .fault
  | .clash => .clash

theorem bySeed_swap (a b : BitVec 5) : bySeed b a = (bySeed a b).atFarEnd := by
  rcases Nat.lt_trichotomy a.toNat b.toNat with lower | same | higher
  · rw [bySeed_of_lower lower, bySeed_of_higher lower]
    rfl
  · rw [BitVec.eq_of_toNat_eq same, bySeed_self]
    rfl
  · rw [bySeed_of_higher higher, bySeed_of_lower higher]
    rfl

/-! ### The role table (R58) -/

/-- Only two equal preferences go to the seeds; every other row is settled, or a fault, by the claims alone. -/
theorem resolveRole_swap (c d : RoleClaim) (a b : BitVec 5) :
    resolveRole d c b a = (resolveRole c d a b).atFarEnd := by
  cases c
  case preferLead =>
    cases d
    case preferLead => exact bySeed_swap a b
    all_goals rfl
  case preferFollow =>
    cases d
    case preferFollow => exact bySeed_swap a b
    all_goals rfl
  all_goals cases d <;> rfl

theorem resolveRole_forceLead {c : RoleClaim} (h : c ≠ .forceLead) (a b : BitVec 5) :
    resolveRole .forceLead c a b = .settled .lead := by
  cases c with
  | forceLead => exact absurd rfl h
  | forceFollow | preferLead | preferFollow => rfl

theorem resolveRole_forceFollow {c : RoleClaim} (h : c ≠ .forceFollow) (a b : BitVec 5) :
    resolveRole .forceFollow c a b = .settled .follow := by
  cases c with
  | forceFollow => exact absurd rfl h
  | forceLead | preferLead | preferFollow => rfl

/-- A preference against a claim that forces: the far end's row of the table, read from this end. -/
theorem resolveRole_prefer_force {c : RoleClaim} (h : c = .preferLead ∨ c = .preferFollow) (a b : BitVec 5) :
    resolveRole c .forceLead a b = .settled .follow ∧ resolveRole c .forceFollow a b = .settled .lead := by
  have notLead : c ≠ .forceLead := by rcases h with rfl | rfl <;> decide
  have notFollow : c ≠ .forceFollow := by rcases h with rfl | rfl <;> decide
  rw [resolveRole_swap .forceLead c b a, resolveRole_swap .forceFollow c b a, resolveRole_forceLead notLead,
    resolveRole_forceFollow notFollow]
  exact ⟨rfl, rfl⟩

theorem resolveRole_samePreference {c : RoleClaim} (h : c = .preferLead ∨ c = .preferFollow) (a b : BitVec 5) :
    resolveRole c c a b = bySeed a b := by
  rcases h with rfl | rfl <;> rfl

theorem resolveRole_farEnd_opposite {c d : RoleClaim} {a b : BitVec 5} {role : Role}
    (h : resolveRole c d a b = .settled role) : resolveRole d c b a = .settled role.opposite := by
  rw [resolveRole_swap c d, h, RoleResult.atFarEnd]

/-! ### Settled roles go on to the rate (R61, R62) -/

/-- What the role claims and seeds of the stored page-0 words give (R57, R58). -/
def Port.roles (x : Port) : RoleResult :=
  let ours := x.status.ours[0].getD 0
  let theirs := x.status.partner[0].getD 0
  resolveRole (OfferWord.claim ours) (OfferWord.claim theirs) (OfferWord.seed ours) (OfferWord.seed theirs)

/-- The common set of R61. -/
def Port.commonRates (x : Port) : RateSet :=
  OfferWord.rates (x.status.ours[0].getD 0) &&& OfferWord.rates (x.status.partner[0].getD 0)

/-- The common set after the cap by the partner's page 1 (R61). -/
def Port.keptRates (x : Port) : RateSet :=
  capRates x.commonRates (x.status.partner[1].getD 0)

theorem State.resolveLink_of_rate {s : State} {p : PortNo} {role : Role} {rate : Rate}
    (hrole : (s.port p).roles = .settled role) (hrate : RateSet.highest (s.port p).keptRates = some rate) :
    s.resolveLink p = s.updPort p fun x =>
      x.enterVerify rate role (decide ((s.port p).keptRates ≠ (s.port p).commonRates)) := by
  unfold Port.roles at hrole
  unfold Port.keptRates Port.commonRates at hrate ⊢
  simp only [State.resolveLink, hrole, hrate]

theorem State.resolveLink_of_noRate {s : State} {p : PortNo} {role : Role}
    (hrole : (s.port p).roles = .settled role) (hrate : RateSet.highest (s.port p).keptRates = none) :
    s.resolveLink p = s.failAttempt p .noCommonRate := by
  unfold Port.roles at hrole
  unfold Port.keptRates Port.commonRates at hrate
  simp only [State.resolveLink, hrole, hrate]

/-- Settles O36: the rows of the table, the far end by `resolveRole_swap`, and the rate by what the cap leaves. -/
theorem rolesResolveByTable : Obligations.RolesResolveByTable := by
  refine ⟨fun a b => ⟨rfl, rfl, fun c hc => resolveRole_forceLead hc a b, fun c hc => resolveRole_forceFollow hc a b,
    fun c prefers => ?_, rfl, rfl, fun c d role settled =>
      ⟨role.opposite, role.opposite_ne, resolveRole_farEnd_opposite settled⟩⟩, ?_⟩
  · obtain ⟨againstLead, againstFollow⟩ := resolveRole_prefer_force prefers a b
    refine ⟨againstLead, againstFollow, ?_⟩
    simp only [resolveRole_samePreference prefers]
    exact ⟨bySeed_of_higher, bySeed_of_lower, bySeed_self a⟩
  · intro s p role our0 their0 common kept settled
    cases hrate : RateSet.highest kept with
    | some rate => exact State.resolveLink_of_rate settled hrate
    | none => exact State.resolveLink_of_noRate settled hrate

end Sys2Proof.Machine

/-! ## Classification and distance (R96 to R98)

Each scan of the classifier is tied to what the spec says it looks for: the first position to reach a threshold, and
the value of largest magnitude, the earliest on a tie. The finding on a pair and its distance follow from these. -/

namespace Sys2Proof.Machine

/-! ### The first position to reach a threshold -/

/-- A position from `start` on whose magnitude reaches the limit. -/
def ReachesAt (limit start : Nat) (vs : List Int) (i : Nat) : Prop :=
  start ≤ i ∧ ∃ v, vs[i]? = some v ∧ limit ≤ v.natAbs

def FirstReachesAt (limit start : Nat) (vs : List Int) (i : Nat) : Prop :=
  ReachesAt limit start vs i ∧ ∀ j, j < i → ¬ ReachesAt limit start vs j

theorem reachesAt_iff_of_lt {limit start i : Nat} {vs : List Int} (inList : i < vs.length) :
    ReachesAt limit start vs i ↔ (decide (start ≤ i) && decide (limit ≤ (vs.getD i 0).natAbs)) = true := by
  simp [ReachesAt, inList]

theorem ReachesAt.lt_length {limit start i : Nat} {vs : List Int} (h : ReachesAt limit start vs i) :
    i < vs.length := by
  obtain ⟨-, v, hv, -⟩ := h
  exact (List.getElem?_eq_some_iff.mp hv).1

theorem firstReaching_eq_none {limit start : Nat} {vs : List Int} (never : ∀ i, ¬ ReachesAt limit start vs i) :
    firstReaching limit start vs = none := by
  refine List.find?_eq_none.mpr fun i hi => ?_
  rw [← reachesAt_iff_of_lt (List.mem_range.mp hi)]
  exact never i

theorem firstReaching_eq_some {limit start i : Nat} {vs : List Int} :
    firstReaching limit start vs = some i ↔ FirstReachesAt limit start vs i := by
  rw [firstReaching, List.find?_range_eq_some]
  constructor
  · rintro ⟨reaches, hi, before⟩
    have inList := List.mem_range.mp hi
    refine ⟨(reachesAt_iff_of_lt inList).mpr reaches, fun j hj reached => ?_⟩
    have failed := before j hj
    rw [(reachesAt_iff_of_lt reached.lt_length).mp reached] at failed
    cases failed
  · rintro ⟨reaches, before⟩
    have inList := reaches.lt_length
    refine ⟨(reachesAt_iff_of_lt inList).mp reaches, List.mem_range.mpr inList, fun j hj => ?_⟩
    have notBefore := mt (reachesAt_iff_of_lt (hj.trans inList)).mpr (before j hj)
    simpa only [Bool.not_eq_true', Bool.not_eq_true] using notBefore

/-! ### The value of largest magnitude -/

/-- The scan of `largest` from a best value already found. -/
def largestFrom (best : Int) (vs : List Int) : Int :=
  vs.foldl (fun best v => if best.natAbs < v.natAbs then v else best) best

theorem largestFrom_cons (best v : Int) (vs : List Int) :
    largestFrom best (v :: vs) = largestFrom (if best.natAbs < v.natAbs then v else best) vs := rfl

theorem largest_append_cons (pre post : List Int) (v : Int) :
    largest (pre ++ v :: post) = largestFrom (largestFrom 0 pre) (v :: post) := List.foldl_append

theorem largestFrom_of_le {best : Int} {vs : List Int} (le : ∀ w ∈ vs, w.natAbs ≤ best.natAbs) :
    largestFrom best vs = best := by
  induction vs with
  | nil => rfl
  | cons w ws ih =>
    rw [List.forall_mem_cons] at le
    rw [largestFrom_cons, if_neg (Nat.not_lt.mpr le.1), ih le.2]

theorem largestFrom_natAbs_lt {best : Int} {vs : List Int} {bound : Nat} (bestLt : best.natAbs < bound)
    (lt : ∀ w ∈ vs, w.natAbs < bound) : (largestFrom best vs).natAbs < bound := by
  induction vs generalizing best with
  | nil => exact bestLt
  | cons w ws ih =>
    rw [List.forall_mem_cons] at lt
    rw [largestFrom_cons]
    refine ih ?_ lt.2
    split
    · exact lt.1
    · exact bestLt

theorem largest_append_cons_eq {pre post : List Int} {v : Int} (before : ∀ w ∈ pre, w.natAbs < v.natAbs)
    (after : ∀ w ∈ post, w.natAbs ≤ v.natAbs) : largest (pre ++ v :: post) = v := by
  rw [largest_append_cons, largestFrom_cons]
  by_cases zero : v = 0
  · have preEmpty : pre = [] := List.eq_nil_iff_forall_not_mem.mpr fun w hw => by simpa [zero] using before w hw
    subst zero preEmpty
    exact largestFrom_of_le after
  · have smaller := largestFrom_natAbs_lt (best := 0) (by omega) before
    rw [if_pos smaller, largestFrom_of_le after]

/-- `v` is the value of largest magnitude in the `n` positions from `low` on, the earliest on a tie. -/
def LargestIn (low n : Nat) (vs : List Int) (v : Int) : Prop :=
  ∃ j, low ≤ j ∧ j < low + n ∧ vs[j]? = some v ∧ ∀ k w, low ≤ k → k < low + n → vs[k]? = some w →
    w.natAbs < v.natAbs ∨ w.natAbs = v.natAbs ∧ j ≤ k

/-- The positions of a window are those of the list cut out of it. -/
theorem LargestIn.cut {low n : Nat} {vs : List Int} {v : Int} (h : LargestIn low n vs v) :
    LargestIn 0 ((vs.drop low).take n).length ((vs.drop low).take n) v := by
  obtain ⟨j, lowLe, ltHigh, hv, most⟩ := h
  have cutAt : ∀ k, k < n → ((vs.drop low).take n)[k]? = vs[low + k]? := fun k hk => by
    rw [List.getElem?_take_of_lt hk, List.getElem?_drop]
  have hvCut : ((vs.drop low).take n)[j - low]? = some v := by
    rw [cutAt _ (by omega), Nat.add_sub_cancel' lowLe, hv]
  have inCut := (List.getElem?_eq_some_iff.mp hvCut).1
  refine ⟨j - low, Nat.zero_le _, by omega, hvCut, fun k w _ hk hw => ?_⟩
  have kLt : k < n := by simp at hk; omega
  have := most (low + k) w (by omega) (by omega) (by rw [← cutAt k kLt, hw])
  omega

theorem LargestIn.largest_eq {vs : List Int} {v : Int} (h : LargestIn 0 vs.length vs v) : largest vs = v := by
  obtain ⟨j, -, -, hv, most⟩ := h
  obtain ⟨inList, rfl⟩ := List.getElem?_eq_some_iff.mp hv
  have bound : ∀ k w, vs[k]? = some w → w.natAbs < vs[j].natAbs ∨ w.natAbs = vs[j].natAbs ∧ j ≤ k := fun k w hw =>
    most k w (Nat.zero_le _) (by have := (List.getElem?_eq_some_iff.mp hw).1; omega) hw
  have before : ∀ w ∈ vs.take j, w.natAbs < vs[j].natAbs := fun w hw => by
    obtain ⟨k, hk⟩ := List.mem_iff_getElem?.mp hw
    have kLt : k < j := by have := (List.getElem?_eq_some_iff.mp hk).1; simp at this; omega
    have := bound k w (by rw [← hk, List.getElem?_take_of_lt kLt])
    omega
  have after : ∀ w ∈ vs.drop (j + 1), w.natAbs ≤ vs[j].natAbs := fun w hw => by
    obtain ⟨k, hk⟩ := List.mem_iff_getElem?.mp (List.mem_of_mem_drop hw)
    have := bound k w hk
    omega
  calc largest vs = largest (vs.take j ++ vs[j] :: vs.drop (j + 1)) := by
        rw [← List.drop_eq_getElem_cons inList, List.take_append_drop]
    _ = vs[j] := largest_append_cons_eq before after

theorem peakAt_eq {i : Nat} {vs : List Int} {v : Int} (h : LargestIn i 8 vs v) : peakAt i vs = v :=
  h.cut.largest_eq

theorem largest_drop_eq {low n : Nat} {vs : List Int} {v : Int} (h : LargestIn low n vs v) (short : vs.length ≤ n) :
    largest (vs.drop low) = v := by
  have whole : (vs.drop low).take n = vs.drop low :=
    List.take_of_length_le (by rw [List.length_drop]; omega)
  rw [← whole]
  exact h.cut.largest_eq

/-! ### The self result (R96) -/

/-- The table of R96. -/
def statusOfPeak (strong : Nat) (peak : Int) : PairStatus :=
  if (strong : Int) ≤ peak then .openEnd
  else if peak ≤ -(strong : Int) then .short
  else if 0 < peak then .impedanceHigh
  else .impedanceLow

theorem statusOfPeak_open {strong : Nat} {v : Int} (h : (strong : Int) ≤ v) : statusOfPeak strong v = .openEnd :=
  if_pos h

theorem statusOfPeak_short {strong : Nat} {v : Int} (pos : 0 < strong) (h : v ≤ -(strong : Int)) :
    statusOfPeak strong v = .short := by
  rw [statusOfPeak, if_neg (by omega), if_pos h]

theorem statusOfPeak_impedanceHigh {strong : Nat} {v : Int} (pos : 0 < v) (below : v < strong) :
    statusOfPeak strong v = .impedanceHigh := by
  rw [statusOfPeak, if_neg (by omega), if_neg (by omega), if_pos pos]

theorem statusOfPeak_impedanceLow {strong : Nat} {v : Int} (neg : v < 0) (above : -(strong : Int) < v) :
    statusOfPeak strong v = .impedanceLow := by
  rw [statusOfPeak, if_neg (by omega), if_neg (by omega), if_neg (by omega)]

/-- The five statuses that carry a distance (R98). -/
def PairStatus.Located (st : PairStatus) : Prop :=
  st = .openEnd ∨ st = .short ∨ st = .impedanceHigh ∨ st = .impedanceLow ∨ st = .crossShort

theorem PairStatus.Located.ne_normal {st : PairStatus} (h : st.Located) : st ≠ .normal := by
  rintro rfl
  simp [PairStatus.Located] at h

theorem statusOfPeak_located (strong : Nat) (peak : Int) : (statusOfPeak strong peak).Located := by
  unfold statusOfPeak PairStatus.Located
  split_ifs <;> simp

theorem selfFinding_of_some {r : Recipe} {vs : List Int} {i : Nat} (h : firstReaching r.mild r.blanking vs = some i) :
    selfFinding r vs = ⟨statusOfPeak r.strong (peakAt i vs), some i, peakAt i vs, none⟩ := by
  rw [selfFinding, h]
  rfl

theorem selfFinding_of_none {r : Recipe} {vs : List Int} (h : firstReaching r.mild r.blanking vs = none) :
    selfFinding r vs = ⟨.normal, none, largest (vs.drop r.blanking), none⟩ := by
  rw [selfFinding, h]

/-! ### The winning cross channel (R97) -/

/-- One cross channel against the best found so far. -/
def crossStep (r : Recipe) (self : Pair) (vs : Pairs (List Int)) (best : Option (Pair × Nat)) (q : Pair) :
    Option (Pair × Nat) :=
  if q = self then best
  else
    match firstReaching r.cross r.blanking (vs.get q), best with
    | none, _ => best
    | some i, none => some (q, i)
    | some i, some (q0, j) => if i < j then some (q, i) else some (q0, j)

theorem crossWinner_eq (r : Recipe) (self : Pair) (vs : Pairs (List Int)) :
    crossWinner r self vs = Pair.list.foldl (crossStep r self vs) none := rfl

section
variable {r : Recipe} {self : Pair} {vs : Pairs (List Int)}

theorem crossStep_of_silent {q : Pair} (silent : q ≠ self → firstReaching r.cross r.blanking (vs.get q) = none)
    (best : Option (Pair × Nat)) : crossStep r self vs best q = best := by
  unfold crossStep
  split_ifs with isSelf
  · rfl
  · rw [silent isSelf]

theorem crossStep_of_first {q : Pair} {i : Nat} (notSelf : q ≠ self)
    (first : firstReaching r.cross r.blanking (vs.get q) = some i) {best : Option (Pair × Nat)}
    (later : ∀ b ∈ best, i < b.2) : crossStep r self vs best q = some (q, i) := by
  unfold crossStep
  rw [if_neg notSelf, first]
  cases best with
  | none => rfl
  | some b => exact if_pos (later b rfl)

theorem crossStep_keeps {q p : Pair} {i : Nat}
    (notEarlier : ∀ j, p ≠ self → firstReaching r.cross r.blanking (vs.get p) = some j → i ≤ j) :
    crossStep r self vs (some (q, i)) p = some (q, i) := by
  unfold crossStep
  split_ifs with isSelf
  · rfl
  · cases reaches : firstReaching r.cross r.blanking (vs.get p) with
    | none => rfl
    | some j => exact if_neg (Nat.not_lt.mpr (notEarlier j isSelf reaches))

theorem crossStep_later {p : Pair} {i : Nat} {best : Option (Pair × Nat)} (later : ∀ b ∈ best, i < b.2)
    (laterHere : ∀ j, p ≠ self → firstReaching r.cross r.blanking (vs.get p) = some j → i < j) :
    ∀ b ∈ crossStep r self vs best p, i < b.2 := by
  by_cases silent : p ≠ self → firstReaching r.cross r.blanking (vs.get p) = none
  · rwa [crossStep_of_silent silent]
  · obtain ⟨notSelf, reaches⟩ := Classical.not_imp.mp silent
    obtain ⟨j, reaches⟩ := Option.ne_none_iff_exists'.mp reaches
    have here := laterHere j notSelf reaches
    unfold crossStep
    rw [if_neg notSelf, reaches]
    rcases best with - | ⟨q0, j0⟩
    · simpa using here
    · dsimp only
      split_ifs
      · simpa using here
      · exact later

theorem crossFold_later {i : Nat} {pre : List Pair} {best : Option (Pair × Nat)} (later : ∀ b ∈ best, i < b.2)
    (laterHere : ∀ p ∈ pre, ∀ j, p ≠ self → firstReaching r.cross r.blanking (vs.get p) = some j → i < j) :
    ∀ b ∈ pre.foldl (crossStep r self vs) best, i < b.2 := by
  induction pre generalizing best with
  | nil => exact later
  | cons p ps ih =>
    rw [List.forall_mem_cons] at laterHere
    exact ih (crossStep_later later laterHere.1) laterHere.2

end

/-- The pairs before a pair in the order of the scan have a lower letter. -/
theorem Pair.list_split (q : Pair) : ∃ pre post, Pair.list = pre ++ q :: post ∧ ∀ p ∈ pre, p.code < q.code := by
  cases q with
  | a => exact ⟨[], [.b, .c, .d], rfl, by decide⟩
  | b => exact ⟨[.a], [.c, .d], rfl, by decide⟩
  | c => exact ⟨[.a, .b], [.d], rfl, by decide⟩
  | d => exact ⟨[.a, .b, .c], [], rfl, by decide⟩

/-- The channels before the winner cross later than it, and none after it crosses earlier. -/
theorem crossWinner_eq_some {r : Recipe} {self q : Pair} {vs : Pairs (List Int)} {i : Nat} (notSelf : q ≠ self)
    (first : FirstReachesAt r.cross r.blanking (vs.get q) i)
    (wins : ∀ p j, p ≠ self → FirstReachesAt r.cross r.blanking (vs.get p) j → i < j ∨ i = j ∧ q.code ≤ p.code) :
    crossWinner r self vs = some (q, i) := by
  obtain ⟨pre, post, split, lower⟩ := q.list_split
  have later := crossFold_later (r := r) (self := self) (vs := vs) (i := i) (pre := pre) (best := none) (by simp)
    fun p hp j hself reaches => by
      have := wins p j hself (firstReaching_eq_some.mp reaches)
      have := lower p hp
      omega
  have keeps : ∀ p, crossStep r self vs (some (q, i)) p = some (q, i) := fun p =>
    crossStep_keeps fun j hself reaches => by
      have := wins p j hself (firstReaching_eq_some.mp reaches)
      omega
  rw [crossWinner_eq, split, List.foldl_append, List.foldl_cons,
    crossStep_of_first notSelf (firstReaching_eq_some.mpr first) later, List.foldl_fixed' keeps]

theorem crossWinner_eq_none {r : Recipe} {self : Pair} {vs : Pairs (List Int)}
    (never : ∀ q i, q ≠ self → ¬ ReachesAt r.cross r.blanking (vs.get q) i) : crossWinner r self vs = none := by
  rw [crossWinner_eq]
  exact List.foldl_fixed'
    (fun q => crossStep_of_silent (fun notSelf => firstReaching_eq_none fun i => never q i notSelf) none) _

/-! ### The finding on a pair (R96, R97) -/

section
variable {r : Recipe} {self : Pair} {vs : Pairs (List Int)}

theorem classify_of_winner {q : Pair} {i : Nat} (check : r.crossCheck = true)
    (winner : crossWinner r self vs = some (q, i)) :
    classify r self vs = ⟨.crossShort, some i, peakAt i (vs.get q), some q⟩ := by
  rw [classify, if_pos check, winner]

theorem classify_of_noWinner (noWinner : r.crossCheck = false ∨ crossWinner r self vs = none) :
    classify r self vs = selfFinding r (vs.get self) := by
  have noCross : (if r.crossCheck then crossWinner r self vs else none) = none := by
    rcases noWinner with off | silent
    · simp [off]
    · simp [silent]
  rw [classify, noCross]

end

theorem selfFinding_position (r : Recipe) (vs : List Int) :
    (selfFinding r vs).status = .normal ∧ (selfFinding r vs).position = none ∨
      (selfFinding r vs).status.Located ∧ ∃ i, (selfFinding r vs).position = some i := by
  cases reaches : firstReaching r.mild r.blanking vs with
  | none => exact .inl (by rw [selfFinding_of_none reaches]; exact ⟨rfl, rfl⟩)
  | some i => exact .inr (by rw [selfFinding_of_some reaches]; exact ⟨statusOfPeak_located _ _, i, rfl⟩)

theorem classify_position (r : Recipe) (self : Pair) (vs : Pairs (List Int)) :
    (classify r self vs).status = .normal ∧ (classify r self vs).position = none ∨
      (classify r self vs).status.Located ∧ ∃ i, (classify r self vs).position = some i := by
  by_cases noWinner : r.crossCheck = false ∨ crossWinner r self vs = none
  · rw [classify_of_noWinner noWinner]
    exact selfFinding_position r _
  · obtain ⟨check, hasWinner⟩ := not_or.mp noWinner
    obtain ⟨⟨q, i⟩, winner⟩ := Option.ne_none_iff_exists'.mp hasWinner
    rw [classify_of_winner (by simpa using check) winner]
    exact .inr ⟨by simp [PairStatus.Located], i, rfl⟩

/-! ### The distance and the result of a pair (R98, R100) -/

theorem distanceOf_eq (r : Recipe) (f : Word) (i : Nat) :
    distanceOf r f i = BitVec.ofNat 16 (min 65535
      ((max 0 ((i * r.decimation : Nat) - (r.order * r.decimation / 2 : Nat) : Int)).toNat * f.toNat * 3 / 80)) := by
  have echo : (max 0 ((i * r.decimation : Nat) - (r.order * r.decimation / 2 : Nat) : Int)).toNat =
      i * r.decimation - r.order * r.decimation / 2 := by omega
  rw [echo, Nat.min_comm]
  rfl

theorem Recipe.strong_pos {r : Recipe} (valid : r.valid = true) : 0 < r.strong := by
  simp only [Recipe.valid, inRange, Bool.and_eq_true, decide_eq_true_eq] at valid
  omega

section
variable {r : Recipe} {f : Word} {self : Pair} {tries : Nat} {slab : Option SlabNo} {vs : Pairs (List Int)}

theorem pairResult_of_crossing {q : Pair} {i : Nat} {v : Int} (check : r.crossCheck = true)
    (winner : crossWinner r self vs = some (q, i)) (peak : LargestIn i 8 (vs.get q) v) :
    pairResult r f self tries slab vs =
      ⟨.crossShort, some (distanceOf r f i), BitVec.ofInt 16 v, some q, tries, slab⟩ := by
  rw [pairResult, classify_of_winner check winner, peakAt_eq peak]
  rfl

theorem pairResult_of_fault {i : Nat} {v : Int} (noWinner : r.crossCheck = false ∨ crossWinner r self vs = none)
    (first : FirstReachesAt r.mild r.blanking (vs.get self) i) (peak : LargestIn i 8 (vs.get self) v) :
    pairResult r f self tries slab vs =
      ⟨statusOfPeak r.strong v, some (distanceOf r f i), BitVec.ofInt 16 v, none, tries, slab⟩ := by
  rw [pairResult, classify_of_noWinner noWinner, selfFinding_of_some (firstReaching_eq_some.mpr first), peakAt_eq peak]
  rfl

theorem pairResult_of_normal {v : Int} (noWinner : r.crossCheck = false ∨ crossWinner r self vs = none)
    (never : ∀ i, ¬ ReachesAt r.mild r.blanking (vs.get self) i)
    (peak : LargestIn r.blanking r.window (vs.get self) v) (window : (vs.get self).length = r.window) :
    pairResult r f self tries slab vs = ⟨.normal, none, BitVec.ofInt 16 v, none, tries, slab⟩ := by
  rw [pairResult, classify_of_noWinner noWinner, selfFinding_of_none (firstReaching_eq_none never),
    largest_drop_eq peak window.le]
  rfl

end

/-- Settles O53: a finding has a position exactly where its status is one of the five; the scans then give the finding,
the cross channels first. -/
theorem distanceFollowsFormula : Obligations.DistanceFollowsFormula := by
  refine ⟨fun r f self tries slab vs => ?_, fun _ => rfl, rfl⟩
  simp only [← distanceOf_eq]
  refine ⟨⟨rfl, fun normal => ?_, fun notNormal => ?_⟩, fun valid => ⟨?crossing, fun noCross => ?noCrossing⟩⟩
  · rcases classify_position r self vs with ⟨-, absent⟩ | ⟨located, -⟩
    · simp [pairResult, absent]
    · exact absurd normal located.ne_normal
  · rcases classify_position r self vs with ⟨normal, -⟩ | ⟨located, i, position⟩
    · exact absurd normal notNormal
    · exact ⟨located, i, position, by simp [pairResult, position]⟩
  case crossing =>
    intro q i v check notSelf first peak wins
    exact pairResult_of_crossing check (crossWinner_eq_some notSelf first wins) peak
  case noCrossing =>
    have noWinner := noCross.imp_right (crossWinner_eq_none (vs := vs))
    refine ⟨fun i v first peak => ?_, fun v never peak window => pairResult_of_normal noWinner never peak window⟩
    rw [pairResult_of_fault noWinner first peak]
    refine ⟨fun above => ?_, fun below => ?_, fun pos below => ?_, fun neg above => ?_⟩
    · rw [statusOfPeak_open above]
    · rw [statusOfPeak_short (Recipe.strong_pos valid) below]
    · rw [statusOfPeak_impedanceHigh pos below]
    · rw [statusOfPeak_impedanceLow neg above]

end Sys2Proof.Machine

/-! ## The qualified set (R119)

Which statuses are fit is said once; the three rows of the rule's table then give the set from which pairs are fit. -/

namespace Sys2Proof.Machine

theorem PairStatus.fit_iff {st : PairStatus} :
    st.fit = true ↔ st = .normal ∨ st = .noisy ∨ st = .notTested := by
  cases st with
  | normal | noisy | notTested => simp [PairStatus.fit]
  | openEnd | short | impedanceHigh | impedanceLow | crossShort => simp [PairStatus.fit]

/-! ### The rows of the table -/

section
variable {x : Pairs PairResult}

theorem qualifiedFrom_of_allFit (fitAB : x.a.status.fit = true ∧ x.b.status.fit = true)
    (fitCD : x.c.status.fit = true ∧ x.d.status.fit = true) : qualifiedFrom x = RateSet.all := by
  rw [qualifiedFrom, if_pos (Bool.and_eq_true_iff.mpr fitAB), if_pos (Bool.and_eq_true_iff.mpr fitCD)]

theorem qualifiedFrom_of_unfitCD (fitAB : x.a.status.fit = true ∧ x.b.status.fit = true)
    (unfitCD : ¬ (x.c.status.fit = true ∧ x.d.status.fit = true)) :
    qualifiedFrom x = RateSet.single .r100M := by
  rw [qualifiedFrom, if_pos (Bool.and_eq_true_iff.mpr fitAB), if_neg (mt Bool.and_eq_true_iff.mp unfitCD)]

theorem qualifiedFrom_of_unfitAB (unfitAB : ¬ (x.a.status.fit = true ∧ x.b.status.fit = true)) :
    qualifiedFrom x = 0 := by
  rw [qualifiedFrom, if_neg (mt Bool.and_eq_true_iff.mp unfitAB)]

end

/-- Settles O54: a status is fit exactly where the rule's table says so, and each clause is a row of the set's table. -/
theorem qualifiedSetFollowsStatuses : Obligations.QualifiedSetFollowsStatuses := by
  intro x
  simp only [← PairStatus.fit_iff]
  exact ⟨fun fitA fitB fitC fitD => qualifiedFrom_of_allFit ⟨fitA, fitB⟩ ⟨fitC, fitD⟩,
    fun fitA fitB unfitCD => qualifiedFrom_of_unfitCD ⟨fitA, fitB⟩ unfitCD,
    fun unfitAB => qualifiedFrom_of_unfitAB unfitAB⟩

end Sys2Proof.Machine

namespace Sys2Proof.Machine

/-! ## What every command keeps

A predicate on states that a short list of changes keeps is kept by every operation built of them. `Kept` is that list
for the operations of one port, so that each operation is taken apart once, and each invariant is a proof of the list. -/

/-! ### Changes of a port -/

/-- The fields of a port that the invariants speak of, but for its state and its request. -/
structure PortCore where
  profile : Option Profile
  jobs : List Job
  running : Option CellNo
  offerSet : RateSet
  history : List HistoryRecord
  recordCount : Word
  seedGen : Word
  split : Nat
  windowCount : Nat

def Port.core (x : Port) : PortCore :=
  ⟨x.profile, x.jobs, x.status.running, x.status.offerSet, x.history, x.recordCount, x.seedGen, x.status.split,
    x.decoder.windowCount⟩

/-- y asks the arbiter for nothing that x does not ask for. -/
structure Port.AsksLess (x y : Port) : Prop where
  request : y.request = x.request ∨ y.request = none
  outbox : ∀ k, PortMsg.request k ∈ y.outbox → PortMsg.request k ∈ x.outbox

theorem Port.AsksLess.of_eq {x y : Port} (hr : y.request = x.request) (ho : y.outbox = x.outbox) : x.AsksLess y :=
  ⟨.inl hr, fun _ h => ho ▸ h⟩

/-- The change from x to y touches no field that an invariant speaks of, but for the state and what is asked no more. -/
structure Port.SameCore (x y : Port) : Prop where
  core : y.core = x.core
  asks : x.AsksLess y

theorem Port.SameCore.of_eq {x y : Port} (hc : y.core = x.core) (hr : y.request = x.request)
    (ho : y.outbox = x.outbox) : x.SameCore y :=
  ⟨hc, .of_eq hr ho⟩

theorem Port.openEdit_eq (x : Port) : x.openEdit = { x with editCount := x.openEdit.editCount } := by
  unfold Port.openEdit
  split_ifs <;> rfl

theorem Port.closeEdit_eq (x : Port) : x.closeEdit = { x with editCount := x.closeEdit.editCount } := by
  unfold Port.closeEdit
  split_ifs <;> rfl

@[simp] theorem Port.openEdit_core (x : Port) : x.openEdit.core = x.core := by rw [Port.openEdit_eq]; rfl
@[simp] theorem Port.openEdit_status (x : Port) : x.openEdit.status = x.status := by rw [Port.openEdit_eq]
@[simp] theorem Port.openEdit_profile (x : Port) : x.openEdit.profile = x.profile := by rw [Port.openEdit_eq]
@[simp] theorem Port.openEdit_jobs (x : Port) : x.openEdit.jobs = x.jobs := by rw [Port.openEdit_eq]
@[simp] theorem Port.openEdit_request (x : Port) : x.openEdit.request = x.request := by rw [Port.openEdit_eq]
@[simp] theorem Port.openEdit_outbox (x : Port) : x.openEdit.outbox = x.outbox := by rw [Port.openEdit_eq]

theorem Port.SameCore.openEdit {x y : Port} (h : x.SameCore y) : x.SameCore y.openEdit :=
  ⟨by rw [Port.openEdit_core, h.core], by simpa using h.asks.request, by simpa using h.asks.outbox⟩

theorem Port.SameCore.profile_eq {x y : Port} (h : x.SameCore y) : y.profile = x.profile :=
  congrArg PortCore.profile h.core

/-- The port leaves its profile and goes to DISABLED (R18, R19, R21, R23). -/
structure Port.Retires (x y : Port) : Prop where
  state : y.status.state = .disabled
  core : y.core = { x.core with profile := none, running := none, split := 0, windowCount := 0 }
  asks : x.AsksLess y

/-! ### The list of changes -/

/-- The port's change at the start of its head job j (R143): start tick, custody, running cell. -/
def State.headBegun (s : State) (p : PortNo) (j : Job) (rest : List Job) : State :=
  (((s.writeTicks (cellBase j.cell + 4) s.tick).writeCellState j.cell .running).setCustody j.cell .running).updPort p
    fun x => { x with jobs := { j with start := s.tick } :: rest, status := { x.status with running := some j.cell } }

/-- P is kept by a change of any port that no invariant speaks of. -/
structure KeepsPlain (P : State → Prop) : Prop where
  port : ∀ {s : State} (q : PortNo) (y : Port), (s.port q).SameCore y → y.status.state = (s.port q).status.state →
    P s → P (s.setPort q y)

/-- The predicate P is kept by each change that the operations of port p are built of, but for the start of a TRAIN job
and the loss of its profile. `B` asks that P knows which ports have a profile, `R` that what a job asks of the arbiter is in range. -/
structure KeptBase (B R : Prop) (P : State → Prop) (p : PortNo) : Prop where
  plain : KeepsPlain P
  enter : ∀ {s : State} (y : Port), (s.port p).SameCore y → y.status.state ≠ .disabled →
    (B → (s.port p).profile ≠ none ∨ y.status.state = .probe) → P s → P (s.setPort p y)
  record : ∀ {s : State} (tick : Ticks) (down : Option DownReason), P s →
    P (s.setPort p ((s.port p).writeRecord tick down))
  charge : ∀ {s : State} (r : Rate), P s → P (s.setPort p ((s.port p).charge r))
  ask : ∀ {s : State} (k : ReqKind), (R → k.inRange) → P s →
    P (s.setPort p { s.port p with request := some k, outbox := (s.port p).outbox ++ [.request k] })
  transition : ∀ {s : State} (rising : Bool) (n : Nat), P s → P (s.setPort p ((s.port p).takeTransition rising n))
  endJob : ∀ {s : State} (out : JobOutcome), P s → P (s.endJob p out)
  begin : ∀ {s : State} (j : Job) (rest : List Job), (s.port p).jobs = j :: rest → (s.port p).status.running = none →
    P s → P (s.headBegun p j rest)
  free : ∀ {s : State} (k : SlabNo), P s → P (s.writeMem (ownerAddr k) ownerFree)
  release : ∀ {s : State} (e : EngineNo) (m : Measurement), (s.engine e).meas = some m → m.holder = p → P s →
    P (s.release e)
  hasProfile : ∀ {s : State}, B → P s → (s.port p).status.state ≠ .disabled → (s.port p).status.state ≠ .probe →
    (s.port p).profile ≠ none

/-- The predicate P is kept by each change that the operations of port p are built of; it knows what listed profiles and
recipes are in range, where `B` and `R` ask it to. -/
structure Kept (B R : Prop) (P : State → Prop) (p : PortNo) : Prop extends KeptBase B R P p where
  retire : ∀ {s : State} (y : Port), (s.port p).Retires y → P s → P (s.setPort p y)
  train : ∀ {s : State} (f : Profile), (B → f.valid = true) → P s → P (s.startTrain p f)
  trainOk : ∀ {s : State} (j : Job) (f : Profile), B → P s → j ∈ (s.port p).jobs → j.work = .train f → f.valid = true
  recipeOk : ∀ {s : State} (j : Job) (r : Recipe) (i : Bool), R → P s → j ∈ (s.port p).jobs →
    j.work = .diagnose r i → r.valid = true

end Sys2Proof.Machine

namespace Sys2Proof.Machine

/-! ### Reading a port after a change -/

section
variable (s : State) (p : PortNo) (f : Port → Port)

theorem State.port_updPort_eq : (s.updPort p f).port p =
    { f (s.port p) with editCount := ((s.updPort p f).port p).editCount } := by
  rcases s.port_updPort_self p f with e | e
  · rw [e]
  · rw [e]
    exact Port.openEdit_eq _

@[simp] theorem State.port_updPort_status : ((s.updPort p f).port p).status = (f (s.port p)).status := by
  rw [State.port_updPort_eq]

@[simp] theorem State.port_updPort_profile : ((s.updPort p f).port p).profile = (f (s.port p)).profile := by
  rw [State.port_updPort_eq]

@[simp] theorem State.port_updPort_jobs : ((s.updPort p f).port p).jobs = (f (s.port p)).jobs := by
  rw [State.port_updPort_eq]

@[simp] theorem State.port_updPort_request : ((s.updPort p f).port p).request = (f (s.port p)).request := by
  rw [State.port_updPort_eq]

@[simp] theorem State.port_updPort_exch : ((s.updPort p f).port p).exch = (f (s.port p)).exch := by
  rw [State.port_updPort_eq]

end

@[simp] theorem State.raisePort_status (s : State) (p : PortNo) (f : PortFlag) :
    ((s.raisePort p f).port p).status = (s.port p).status := by
  rw [State.raisePort, State.port_setPort_self]; rfl

@[simp] theorem State.raisePort_profile (s : State) (p : PortNo) (f : PortFlag) :
    ((s.raisePort p f).port p).profile = (s.port p).profile := by
  rw [State.raisePort, State.port_setPort_self]; rfl

@[simp] theorem State.raisePort_engineOf (s : State) (p q : PortNo) (f : PortFlag) :
    (s.raisePort p f).engineOf q = s.engineOf q := rfl

/-- The engine found for a port holds it (R83). -/
theorem State.holds_of_engineOf {s : State} {p : PortNo} {e : EngineNo} (h : s.engineOf p = some e) :
    ∃ m, (s.engine e).meas = some m ∧ m.holder = p := by
  have found := List.find?_some h
  cases hm : (s.engine e).meas with
  | none => simp [hm] at found
  | some m => exact ⟨m, rfl, by simpa [hm] using found⟩

theorem Port.profile_of_autoRetrain {x : Port} (h : x.prof.autoRetrain = true) : x.profile ≠ none := by
  intro e
  rw [Port.prof, e] at h
  cases h

theorem Port.enter_sameCore (x : Port) (st : PortState) : x.SameCore (x.enter st) := by
  refine .of_eq ?_ rfl rfl
  unfold Port.core Port.enter
  dsimp only
  split_ifs <;> rfl

theorem Port.beginAttempt_sameCore (x : Port) : x.SameCore x.beginAttempt := .of_eq rfl rfl rfl

theorem Port.beginBackoff_sameCore (x : Port) (n : Nat) : x.SameCore (x.beginBackoff n) := .of_eq rfl rfl rfl

@[simp] theorem Port.charge_profile (x : Port) (r : Rate) : (x.charge r).profile = x.profile := by
  unfold Port.charge
  dsimp only
  split_ifs <;> rfl

@[simp] theorem State.withdraw_profile (s : State) (p : PortNo) :
    ((s.withdraw p).port p).profile = (s.port p).profile := by
  rw [State.withdraw, State.port_updPort_profile]
  cases (s.port p).request <;> rfl

/-! ### The operations of one port -/

namespace KeepsPlain
variable {P : State → Prop} (K : KeepsPlain P) {s : State}
include K

theorem upd (q : PortNo) {f : Port → Port} (same : (s.port q).SameCore (f (s.port q)))
    (st : (f (s.port q)).status.state = (s.port q).status.state) (h : P s) : P (s.updPort q f) := by
  rw [State.updPort_eq]
  split_ifs
  · exact K.port q _ same st h
  · exact K.port q _ same.openEdit (by simpa using st) h

/-- A change whose rule names a publication of its own opens the edit itself (R153). -/
theorem openUpd (q : PortNo) {f : Port → Port} (same : (s.port q).SameCore (f (s.port q)))
    (st : (f (s.port q)).status.state = (s.port q).status.state) (h : P s) :
    P (s.updPort q fun x => (f x).openEdit) :=
  K.upd q same.openEdit (by simpa using st) h

theorem raisePort (q : PortNo) (f : PortFlag) (h : P s) : P (s.raisePort q f) :=
  K.port q _ (.of_eq rfl rfl rfl) rfl h

theorem writeReport (q : PortNo) (r : Report) (h : P s) : P (s.writeReport q r) :=
  K.raisePort q _ (K.openUpd q (.of_eq rfl rfl rfl) rfl h)

/-- A further change that no invariant speaks of. -/
theorem next {p : PortNo} {y z : Port} (h : P (s.setPort p y)) (same : y.SameCore z)
    (st : z.status.state = y.status.state) : P (s.setPort p z) := by
  have h' := K.port (s := s.setPort p y) p z (by simpa using same) (by simpa using st) h
  simpa using h'

/-- Whether the change opens an edit does not matter. -/
theorem of_setPort {p : PortNo} {f : Port → Port} (h : P (s.setPort p (f (s.port p)))) : P (s.updPort p f) := by
  rw [State.updPort_eq]
  split_ifs
  · exact h
  · exact K.next h (Port.SameCore.of_eq rfl rfl rfl).openEdit (by simp)

end KeepsPlain

namespace KeptBase
variable {B R : Prop} {P : State → Prop} {p : PortNo} (K : KeptBase B R P p) {s : State}
include K

theorem enterUpd {f : Port → Port} (same : (s.port p).SameCore (f (s.port p)))
    (st : (f (s.port p)).status.state ≠ .disabled)
    (prof : B → (s.port p).profile ≠ none ∨ (f (s.port p)).status.state = .probe) (h : P s) : P (s.updPort p f) :=
  K.plain.of_setPort (K.enter _ same st prof h)

theorem enterState {st : PortState} (hst : st ≠ .disabled) (prof : B → (s.port p).profile ≠ none ∨ st = .probe)
    (h : P s) : P (s.enterState p st) :=
  K.enterUpd (Port.enter_sameCore _ st) hst prof h

theorem withdraw (h : P s) : P (s.withdraw p) := by
  refine K.plain.upd p ⟨?_, ?_, ?_⟩ ?_ h
  · cases hr : (s.port p).request <;> rfl
  · cases hr : (s.port p).request <;> simp [hr]
  · cases hr : (s.port p).request <;> simp
  · cases hr : (s.port p).request <;> rfl

theorem post {k : ReqKind} (hk : R → k.inRange) (h : P s) : P (s.post p k) :=
  K.plain.of_setPort (K.ask k hk h)

theorem post_precheck (h : P s) : P (s.post p .precheck) :=
  K.post (fun _ _ _ e => nomatch e) h

theorem post_watch (h : P s) : P (s.post p .watch) :=
  K.post (fun _ _ _ e => nomatch e) h

theorem freeSlab (k : Option SlabNo) (h : P s) : P (s.freeSlab k) := by
  cases k with
  | none => exact h
  | some k => exact K.free k h

theorem abortEngine {e : EngineNo} {m : Measurement} (hm : (s.engine e).meas = some m) (holds : m.holder = p)
    (flag : Option (BitVec 5)) (h : P s) : P (s.abortEngine e flag) := by
  have h1 := K.freeSlab m.filling h
  have hm1 : ((s.freeSlab m.filling).engine e).meas = some m := by
    cases hf : m.filling <;> exact hm
  rw [State.abortEngine, hm]
  cases flag with
  | none => exact K.release e m hm1 holds h1
  | some f => exact K.release e m hm1 holds (K.plain.writeReport _ _ h1)

theorem abortPort (flag : Option (BitVec 5)) (h : P s) : P (s.abortPort p flag) := by
  have h1 : P (s.updPort p Port.stopActivity) := K.plain.upd p (.of_eq rfl rfl rfl) rfl h
  rw [State.abortPort]
  cases he : (s.updPort p Port.stopActivity).engineOf p with
  | none => exact K.withdraw h1
  | some e =>
    obtain ⟨m, hm, holds⟩ := State.holds_of_engineOf he
    exact K.abortEngine hm holds flag h1

theorem dropLink (why : DownReason) (h : P s) : P (s.dropLink p why) := by
  refine K.plain.raisePort p _ (K.plain.of_setPort ?_)
  exact K.plain.next (K.record s.tick (some why) h) (.of_eq rfl rfl rfl) rfl

theorem chargeRate (h : P s) : P (s.chargeRate p) :=
  K.plain.of_setPort (K.charge _ h)

theorem endTrain (out : JobOutcome) (h : P s) : P (s.endTrain p out) := by
  rw [State.endTrain]
  split_ifs
  · exact K.endJob out h
  · exact h

/-! #### Attempts and sequences -/

theorem startAttempt (prof : B → (s.port p).profile ≠ none) (h : P s) : P (s.startAttempt p) := by
  unfold State.startAttempt
  dsimp only
  split_ifs
  · exact K.endTrain _ (K.enterState nofun (fun b => .inl (prof b)) h)
  · exact K.enterUpd (Port.beginAttempt_sameCore _) nofun (fun b => .inl (prof b)) h
  · exact K.enterUpd (Port.beginBackoff_sameCore _ _) nofun (fun b => .inl (prof b)) h

theorem beginSequence (byWatch : Bool) (prof : B → (s.port p).profile ≠ none) (h : P s) :
    P (s.beginSequence p byWatch) := by
  have h1 : P ((s.withdraw p).updPort p fun x =>
      { x with status := { x.status with attempts := 0, lastResult := .none } }) :=
    K.plain.upd p (.of_eq rfl rfl rfl) rfl (K.withdraw h)
  have prof1 : B → (((s.withdraw p).updPort p fun x =>
      { x with status := { x.status with attempts := 0, lastResult := .none } }).port p).profile ≠ none := fun b => by
    simpa using prof b
  rw [State.beginSequence]
  split_ifs
  · exact K.post_precheck (K.enterState nofun (fun b => .inl (prof1 b)) h1)
  · exact K.startAttempt prof1 h1

theorem retrainOrIdle (prof : B → (s.port p).profile ≠ none) (h : P s) : P (s.retrainOrIdle p) := by
  rw [State.retrainOrIdle]
  split_ifs
  · exact K.beginSequence false prof h
  · exact K.enterState nofun (fun b => .inl (prof b)) h

theorem endSequence (out : JobOutcome) (prof : B → (s.port p).profile ≠ none) (h : P s) : P (s.endSequence p out) :=
  K.endTrain out (K.enterState nofun (fun b => .inl (prof b)) h)

theorem chargeIf (c : Prop) [Decidable c] (prof : B → (s.port p).profile ≠ none) (h : P s) :
    P (if c then s.chargeRate p else s) ∧ (B → ((if c then s.chargeRate p else s).port p).profile ≠ none) := by
  split_ifs
  · exact ⟨K.chargeRate h, fun b => by simpa [State.chargeRate] using prof b⟩
  · exact ⟨h, prof⟩

theorem failAttempt (why : AttemptResult) (prof : B → (s.port p).profile ≠ none) (h : P s) :
    P (s.failAttempt p why) := by
  have h1 : P (s.updPort p fun x => { x with status := { x.status with lastResult := why } }) :=
    K.plain.upd p (.of_eq rfl rfl rfl) rfl h
  obtain ⟨h2, prof2⟩ := K.chargeIf (why.charged = true) (fun b => by simpa using prof b) h1
  unfold State.failAttempt
  dsimp only
  generalize ite (why.charged = true) _ _ = t at h2 prof2 ⊢
  by_cases noRate : why = .noCommonRate
  · rw [if_pos noRate]
    exact K.endSequence _ prof2 h2
  rw [if_neg noRate]
  split_ifs
  · exact K.endSequence _ prof2 h2
  · exact K.endSequence _ prof2 h2
  · exact K.endSequence _ prof2 h2
  · exact K.enterUpd (Port.beginBackoff_sameCore _ _) nofun (fun b => .inl (prof2 b)) h2

theorem roleFault (prof : B → (s.port p).profile ≠ none) (h : P s) : P (s.roleFault p) :=
  K.endTrain _ (K.plain.raisePort p _ (K.enterUpd (.of_eq rfl rfl rfl) nofun (fun b => .inl (prof b)) h))

end KeptBase
end Sys2Proof.Machine

namespace Sys2Proof.Machine

theorem Port.SameCore.trans {x y z : Port} (h : x.SameCore y) (h' : y.SameCore z) : x.SameCore z :=
  ⟨h'.core.trans h.core, by
    rcases h'.asks.request with e | e
    · rw [e]
      exact h.asks.request
    · exact .inr e, fun k hk => h.asks.outbox k (h'.asks.outbox k hk)⟩

/-! ### Starts and ends of jobs -/

theorem Port.Retires.openEdit {x y : Port} (h : x.Retires y) : x.Retires y.openEdit :=
  ⟨by simpa using h.state, by simpa using h.core, by simpa using h.asks.request, by simpa using h.asks.outbox⟩

theorem Port.disable_retires {x y : Port} (core : y.core = { x.core with profile := none }) (asks : x.AsksLess y) :
    x.Retires y.disable :=
  ⟨rfl, by
    show { y.core with running := none, split := 0, windowCount := 0 } = _
    rw [core], ⟨asks.request, asks.outbox⟩⟩

theorem Port.stopActivity_sameCore (x : Port) : x.SameCore x.stopActivity := .of_eq rfl rfl rfl

@[simp] theorem State.dropLink_profile (s : State) (p : PortNo) (why : DownReason) :
    ((s.dropLink p why).port p).profile = (s.port p).profile := by
  rw [State.dropLink, State.raisePort_profile, State.port_updPort_profile]; rfl

theorem State.endJob_cons {s : State} {p : PortNo} {j : Job} {rest : List Job} (h : (s.port p).jobs = j :: rest)
    (out : JobOutcome) : s.endJob p out =
      ((s.endCell j.cell .done out .none j.start).updPort p fun x =>
        { x with jobs := rest, status := { x.status with running := none } }).raisePort p .jobDone := by
  rw [State.endJob, h]

theorem State.endJob_nil {s : State} {p : PortNo} (h : (s.port p).jobs = []) (out : JobOutcome) :
    s.endJob p out = s := by
  rw [State.endJob, h]

@[simp] theorem State.endCell_engine (s : State) (c : CellNo) (st : CellState) (out : JobOutcome) (why : Reason)
    (start : Ticks) (e : EngineNo) : (s.endCell c st out why start).engine e = s.engine e := by
  simp only [State.endCell_eq, State.setCustody_engine, State.writeMem_engine]

@[simp] theorem State.updPort_engine (s : State) (p : PortNo) (f : Port → Port) (e : EngineNo) :
    (s.updPort p f).engine e = s.engine e := rfl

@[simp] theorem State.raisePort_engine (s : State) (p : PortNo) (f : PortFlag) (e : EngineNo) :
    (s.raisePort p f).engine e = s.engine e := rfl

@[simp] theorem State.endJob_engine (s : State) (p : PortNo) (out : JobOutcome) (e : EngineNo) :
    (s.endJob p out).engine e = s.engine e := by
  cases h : (s.port p).jobs with
  | nil => rw [State.endJob_nil h]
  | cons j rest => rw [State.endJob_cons h]; simp only [State.raisePort_engine, State.updPort_engine, State.endCell_engine]

@[simp] theorem State.writeReport_engine (s : State) (p : PortNo) (r : Report) (e : EngineNo) :
    (s.writeReport p r).engine e = s.engine e := rfl

/-- The grant rule changes no port. -/
@[simp] theorem State.applyGrantRule_port (s : State) (p : PortNo) : s.applyGrantRule.port p = s.port p := by
  rw [State.applyGrantRule_frame]; rfl

@[simp] theorem State.endGrant_port (s : State) (e : EngineNo) (p : PortNo) : (s.endGrant e).port p = s.port p := by
  rw [State.endGrant]
  cases s.grant e <;> rfl

/-- A release changes no port. -/
@[simp] theorem State.release_port (s : State) (e : EngineNo) (p : PortNo) : (s.release e).port p = s.port p := by
  rw [State.release, State.applyGrantRule_port, State.endGrant_port, State.setEngine_port]

/-! ### The end of a burst on the line (R28) -/

/-- The line at rest after a burst. -/
def Port.burstGone (x : Port) : Port := { x with sender := { x.sender with onLine := none } }

/-- The port after burst w: our word shows its flags (R36), and an acknowledge burst counts (R51). -/
def Port.afterBurst (x : Port) (w : Word) : Port := (x.burstGone.showSent w).countAck w

theorem Port.countAck_sameCore (x : Port) (w : Word) :
    x.SameCore (x.countAck w) ∧ (x.countAck w).status = x.status := by
  unfold Port.countAck
  split_ifs <;> exact ⟨.of_eq rfl rfl rfl, rfl⟩

theorem Port.showSent_sameCore (x : Port) (w : Word) : x.SameCore (x.showSent w) ∧
    (x.showSent w).status.state = x.status.state ∧ (x.showSent w).exch = x.exch := by
  unfold Port.showSent
  split <;> exact ⟨.of_eq rfl rfl rfl, rfl, rfl⟩

theorem Port.afterBurst_sameCore (x : Port) (w : Word) :
    x.SameCore (x.afterBurst w) ∧ (x.afterBurst w).status.state = x.status.state := by
  obtain ⟨shown, state, -⟩ := x.burstGone.showSent_sameCore w
  obtain ⟨counted, status⟩ := (x.burstGone.showSent w).countAck_sameCore w
  have gone : x.SameCore x.burstGone := .of_eq rfl rfl rfl
  exact ⟨gone.trans (shown.trans counted), by rw [Port.afterBurst, status, state]; rfl⟩

/-- Only in EXCHANGE does a burst count (R51). -/
theorem Port.afterBurst_exch {x : Port} (h : x.status.state ≠ .exchange) (w : Word) :
    (x.afterBurst w).exch = x.exch := by
  obtain ⟨-, state, exch⟩ := x.burstGone.showSent_sameCore w
  have off : (x.burstGone.showSent w).status.state ≠ .exchange := by rw [state]; exact h
  rw [Port.afterBurst, Port.countAck, if_neg (by simp [off]), exch]
  rfl

theorem State.burstSent_some {s : State} {p : PortNo} {w : Word} (h : (s.port p).sender.onLine = some w) :
    s.burstSent p =
      if (s.port p).exch.ackSent < ((s.port p).afterBurst w).exch.ackSent then
        ((s.updPort p fun x => x.afterBurst w).completeIfDone p).startJobs p
      else s.updPort p fun x => x.afterBurst w := by
  have e := State.port_updPort_exch s p fun x => x.afterBurst w
  rw [← e, State.burstSent, h]
  rfl

theorem State.burstSent_none {s : State} {p : PortNo} (h : (s.port p).sender.onLine = none) : s.burstSent p = s := by
  rw [State.burstSent, h]

namespace KeptBase
variable {B R : Prop} {P : State → Prop} {p : PortNo} (K : KeptBase B R P p) {s : State}
include K

theorem dropIf (c : Prop) [Decidable c] (why : DownReason) (h : P s) : P (if c then s.dropLink p why else s) := by
  split_ifs
  · exact K.dropLink why h
  · exact h

theorem startDiagnose {r : Recipe} (hr : R → r.valid = true) (tag : Word) (intrusive : Bool) (h : P s) :
    P (s.startDiagnose p r tag intrusive) := by
  have ready : ∀ t, P t → P ((t.enterState p .probe).post p (.job r tag)) := fun t ht =>
    K.post (fun b r' tag' e => by injection e with e1 e2; exact e1 ▸ hr b)
      (K.enterState nofun (fun _ => .inr rfl) ht)
  rw [State.startDiagnose]
  split_ifs
  · exact K.endJob _ h
  · exact ready _ (K.dropLink _ h)
  · exact ready _ (K.abortPort _ h)

end KeptBase

namespace Kept
variable {B R : Prop} {P : State → Prop} {p : PortNo} (K : Kept B R P p) {s : State}
include K

theorem enterDisabled (prof : (s.port p).profile = none) (h : P s) : P (s.enterDisabled p) := by
  have retires : (s.port p).Retires (s.port p).disable :=
    Port.disable_retires (by rw [← prof]; rfl) (.of_eq rfl rfl)
  exact K.plain.of_setPort (K.retire _ retires h)

theorem removeProfile_enterDisabled (h : P s) : P ((s.removeProfile p).enterDisabled p) := by
  set y := (s.removeProfile p).port p with hy
  have ey : y = { s.port p with profile := none, editCount := y.editCount } := State.port_updPort_eq s p _
  have retires : (s.port p).Retires y.disable :=
    Port.disable_retires (by rw [ey]; rfl) (by rw [ey]; exact .of_eq rfl rfl)
  have e : (s.removeProfile p).enterDisabled p =
      s.setPort p (if Port.samePage y y.disable then y.disable else y.disable.openEdit) := by
    show ((s.removeProfile p).updPort p Port.disable) = _
    rw [State.updPort_eq, ← hy, State.removeProfile, State.updPort_eq, State.setPort_setPort]
  rw [e]
  split_ifs
  · exact K.retire _ retires h
  · exact K.retire _ retires.openEdit h

theorem startHold (h : P s) : P (s.startHold p) :=
  K.endJob _ (K.removeProfile_enterDisabled (K.abortPort none (K.dropIf _ .hold h)))

/-- The share of STOP of the port (R23). -/
theorem stopPort (h : P s) : P (s.stopPort p) := by
  have h1 := K.removeProfile_enterDisabled (K.abortPort none (K.dropIf ((s.port p).status.state = .linked) .stopped h))
  rw [State.stopPort]
  generalize State.enterDisabled _ p = t at h1 ⊢
  exact K.plain.upd p ⟨rfl, .inr rfl, fun _ h => absurd h List.not_mem_nil⟩ rfl h1

theorem startHead (running : (s.port p).status.running = none) (h : P s) : P (s.startHead p) := by
  cases hj : (s.port p).jobs with
  | nil =>
    rw [State.startHead, hj]
    exact h
  | cons j rest =>
    have hm : j ∈ (s.port p).jobs := by rw [hj]; exact List.mem_cons_self
    have h1 : P (s.headBegun p j rest) := K.begin j rest hj running h
    have e : s.startHead p = (match j.work with
      | .train prof => (s.headBegun p j rest).startTrain p prof
      | .diagnose r intrusive => (s.headBegun p j rest).startDiagnose p r j.tag intrusive
      | .hold => (s.headBegun p j rest).startHold p) := by
      rw [State.startHead, hj]
      rfl
    rw [e]
    cases hw : j.work with
    | train f => exact K.train f (fun b => K.trainOk j f b h hm hw) h1
    | diagnose r i => exact K.startDiagnose (fun b => K.recipeOk j r i b h hm hw) j.tag i h1
    | hold => exact K.startHold h1

theorem startJobsUpTo (n : Nat) (h : P s) : P (State.startJobsUpTo n s p) := by
  induction n generalizing s with
  | zero => exact h
  | succ n ih =>
    rw [State.startJobsUpTo]
    split_ifs with c
    · have running : (s.port p).status.running = none := by simpa using (Bool.and_eq_true_iff.mp c).1
      exact ih (K.startHead running h)
    · exact h

theorem startJobs (h : P s) : P (s.startJobs p) := K.startJobsUpTo _ h

theorem resume (h : P s) : P (s.resume p) := by
  rw [State.resume]
  split_ifs with c
  · exact K.retrainOrIdle (fun _ e => by rw [e] at c; cases c) h
  · exact K.enterDisabled (by simpa using c) h

/-! ### The exchange -/

theorem restart {f : Port → Port} (same : ∀ x : Port, x.SameCore (f x)) (st : ∀ x : Port, (f x).status.state = x.status.state)
    (prof : B → (s.port p).profile ≠ none) (h : P s) : P (s.restart p f) := by
  have h1 : P (s.updPort p fun x =>
      { x with exch := { x.exch with restarts := x.exch.restarts + 1 } }.bump .pageRestarts) :=
    K.plain.upd p (.of_eq rfl rfl rfl) rfl h
  rw [State.restart]
  split_ifs
  · exact K.failAttempt _ (fun b => by rw [State.port_updPort_profile]; exact prof b) h1
  · exact K.plain.upd p (same _) (st _) h1

theorem pageRestart (prof : B → (s.port p).profile ≠ none) (h : P s) : P (s.pageRestart p) :=
  K.restart (fun _ => .of_eq rfl rfl rfl) (fun _ => rfl) prof h

theorem exchangeRestart (prof : B → (s.port p).profile ≠ none) (h : P s) : P (s.exchangeRestart p) :=
  K.restart (fun _ => .of_eq rfl rfl rfl) (fun _ => rfl) prof h

theorem seedClash (prof : B → (s.port p).profile ≠ none) (h : P s) : P (s.seedClash p) := by
  have h1 : P (s.updPort p fun x =>
      { x with exch := { x.exch with clashes := x.exch.clashes + 1 } }.bump .seedClashes) :=
    K.plain.upd p (.of_eq rfl rfl rfl) rfl h
  rw [State.seedClash]
  split_ifs
  · exact K.roleFault (fun b => by rw [State.port_updPort_profile]; exact prof b) h1
  · exact K.plain.upd p (.of_eq rfl rfl rfl) rfl h1

theorem resolveLink (prof : B → (s.port p).profile ≠ none) (h : P s) : P (s.resolveLink p) := by
  unfold State.resolveLink
  dsimp only
  split
  · exact K.roleFault prof h
  · exact K.seedClash prof h
  · split
    · exact K.enterUpd (.of_eq rfl rfl rfl) nofun (fun b => .inl (prof b)) h
    · exact K.failAttempt _ prof h

theorem completePage (prof : B → (s.port p).profile ≠ none) (h : P s) : P (s.completePage p) := by
  unfold State.completePage
  dsimp only
  split_ifs
  · exact K.resolveLink prof h
  · exact K.plain.upd p (.of_eq rfl rfl rfl) rfl h

theorem completeIfDone (prof : B → (s.port p).profile ≠ none) (h : P s) : P (s.completeIfDone p) := by
  rw [State.completeIfDone]
  split_ifs
  · exact K.completePage prof h
  · exact h

theorem partnerSeen (prof : B → (s.port p).profile ≠ none) (h : P s) : P (s.partnerSeen p) :=
  K.completeIfDone (fun b => by rw [State.port_updPort_profile]; exact prof b)
    (K.plain.upd p (.of_eq rfl rfl rfl) rfl h)

theorem extendRunUpd (w : Word) (n : Port → Nat) (h : P s) : P (s.updPort p fun x => x.extendRun w (n x)) := by
  refine K.plain.upd p ?_ ?_ h
  · unfold Port.extendRun
    split_ifs <;> exact .of_eq rfl rfl rfl
  · unfold Port.extendRun
    split_ifs <;> rfl

theorem matchWord (w : Word) (prof : B → (s.port p).profile ≠ none) (h : P s) : P (s.matchWord p w) := by
  unfold State.matchWord
  split
  · exact K.extendRunUpd w (fun _ => 1) h
  · split_ifs
    · exact K.extendRunUpd w (fun x => x.exch.runCount + 1) h
    · exact K.pageRestart prof h

theorem matchedWord (w : Word) (prof : B → (s.port p).profile ≠ none) (h : P s) : P (s.matchedWord p w) := by
  unfold State.matchedWord
  dsimp only
  split_ifs
  · exact K.partnerSeen prof h
  · exact h
  · exact K.pageRestart prof h

theorem sortWord (w : Word) (prof : B → (s.port p).profile ≠ none) (h : P s) : P (s.sortWord p w) := by
  have h1 : P (s.updPort p fun x => { x with timers := { x.timers with brk := some Config.breakTicks } }) :=
    K.plain.upd p (.of_eq rfl rfl rfl) rfl h
  have prof1 : B → ((s.updPort p fun x =>
      { x with timers := { x.timers with brk := some Config.breakTicks } }).port p).profile ≠ none := fun b => by
    rw [State.port_updPort_profile]; exact prof b
  unfold State.sortWord
  dsimp only
  split_ifs
  · exact K.matchedWord w prof1 h1
  · exact K.matchWord w prof1 h1
  · exact K.partnerSeen prof1 h1
  · exact K.exchangeRestart prof1 h1
  · exact h1
  · exact K.exchangeRestart prof1 h1

theorem enterExchange (w : Word) (prof : B → (s.port p).profile ≠ none) (h : P s) : P (s.enterExchange p w) := by
  refine K.enterUpd ?_ ?_ (fun b => .inl (prof b)) h
  · dsimp only
    unfold Port.extendRun
    split_ifs <;> exact .of_eq rfl rfl rfl
  · dsimp only
    unfold Port.extendRun
    split_ifs <;> nofun

/-! ### The decoder -/

theorem idleWord (w : Word) (h : P s) : P (s.idleWord p w) := by
  have h1 : P (s.updPort p fun x =>
      { x with status := { x.status with partner := x.status.partner.set (OfferWord.page w) (some w) } }) :=
    K.plain.upd p (.of_eq rfl rfl rfl) rfl h
  unfold State.idleWord
  dsimp only
  split_ifs with c
  · exact K.beginSequence _ (fun _ => Port.profile_of_autoRetrain c) h1
  · exact h1

theorem handOnWord (w : Word) (h : P s) : P (s.handOnWord p w) := by
  unfold State.handOnWord
  split
  · rename_i st
    exact K.enterExchange w (fun b => K.hasProfile b h (by rw [st]; nofun) (by rw [st]; nofun)) h
  · rename_i st
    exact K.sortWord w (fun b => K.hasProfile b h (by rw [st]; nofun) (by rw [st]; nofun)) h
  · exact K.idleWord w h
  · exact h

theorem enterLinked (prof : B → (s.port p).profile ≠ none) (h : P s) : P (s.enterLinked p) := by
  have h1 : P (s.setPort p ((s.port p).enter .linked)) :=
    K.enter _ (Port.enter_sameCore _ _) nofun (fun b => .inl (prof b)) h
  have h2 := K.record s.tick none h1
  rw [State.setPort_setPort, State.port_setPort_self] at h2
  exact K.endTrain _ (K.plain.raisePort p _ (K.plain.of_setPort (K.plain.next h2 (.of_eq rfl rfl rfl) rfl)))

end Kept
end Sys2Proof.Machine

namespace Sys2Proof.Machine

/-! ### Commands of one port

A command that may end a job ends with the starts behind it. `W` is what holds inside the command, `P` what holds
before and after it; for most predicates they are the same. -/

structure Lifts (B R : Prop) (W P : State → Prop) (p : PortNo) : Prop extends Kept B R W p where
  weaken : ∀ {s : State}, P s → W s
  outer : KeepsPlain P
  outerEnter : ∀ {s : State} (y : Port), (s.port p).SameCore y → y.status.state ≠ .disabled →
    (B → (s.port p).profile ≠ none) → P s → P (s.setPort p y)
  outerTransition : ∀ {s : State} (rising : Bool) (n : Nat), P s →
    P (s.setPort p ((s.port p).takeTransition rising n))
  starts : ∀ {s : State}, W s → P (s.startJobs p)

theorem Kept.lifts {B R : Prop} {P : State → Prop} {p : PortNo} (K : Kept B R P p) : Lifts B R P P p :=
  { K with
    weaken := id
    outer := K.plain
    outerEnter := fun y same st prof => K.enter y same st fun b => .inl (prof b)
    outerTransition := K.transition
    starts := K.startJobs }

namespace Lifts
variable {B R : Prop} {W P : State → Prop} {p : PortNo} (K : Lifts B R W P p) {s : State}
include K

theorem profile_of_state {st : PortState} (h : P s) (e : (s.port p).status.state = st) (h1 : st ≠ .disabled)
    (h2 : st ≠ .probe) : B → (s.port p).profile ≠ none :=
  fun b => K.hasProfile b (K.weaken h) (by rw [e]; exact h1) (by rw [e]; exact h2)

theorem sendBurst (h : P s) : P (s.sendBurst p) := by
  rw [State.sendBurst]
  by_cases c : ((s.port p).status.state.sends && (s.port p).sender.due) = true
  · rw [if_pos c]
    refine K.outer.upd p ?_ ?_ h
    · dsimp only
      split_ifs <;> exact .of_eq rfl rfl rfl
    · dsimp only
      split_ifs <;> rfl
  · rw [if_neg c]
    exact h

theorem burstSent (h : P s) : P (s.burstSent p) := by
  cases hw : (s.port p).sender.onLine with
  | none =>
    rw [State.burstSent_none hw]
    exact h
  | some w =>
    obtain ⟨same, st⟩ := (s.port p).afterBurst_sameCore w
    have h1 : P (s.updPort p fun x => x.afterBurst w) := K.outer.upd p same st h
    rw [State.burstSent_some hw]
    split_ifs with counted
    · refine K.starts (K.completeIfDone (fun b => ?_) (K.weaken h1))
      have exchange : (s.port p).status.state = .exchange := by
        by_contra off
        rw [Port.afterBurst_exch off] at counted
        exact lt_irrefl _ counted
      rw [State.port_updPort_profile, same.profile_eq]
      exact K.profile_of_state h exchange nofun nofun b
    · exact h1

theorem exchangeBreak (h : P s) : P (s.exchangeBreak p) := by
  rw [State.exchangeBreak]
  split_ifs with c
  · have st : (s.port p).status.state = .exchange := by simpa using (Bool.and_eq_true_iff.mp c).1
    exact K.outer.of_setPort (K.outerEnter _ (.of_eq rfl rfl rfl) nofun (K.profile_of_state h st nofun nofun) h)
  · exact h

theorem endBurst (h : P s) : P (s.endBurst p) := by
  have h1 : P (s.updPort p fun x => { x with decoder := { x.decoder with burst := none } }) :=
    K.outer.upd p (.of_eq rfl rfl rfl) rfl h
  unfold State.endBurst
  split
  · split_ifs
    · dsimp only
      split
      · exact h1
      · exact K.starts (K.handOnWord _ (K.weaken h1))
      · refine K.outer.upd p ?_ ?_ h1
        · unfold Port.takeBad Port.badBurst
          dsimp only
          split_ifs <;> exact .of_eq rfl rfl rfl
        · unfold Port.takeBad Port.badBurst
          dsimp only
          split_ifs <;> rfl
    · exact h
  · exact h

theorem receive (n : Nat) (rises : List Bool) (h : P s) : P (s.receive p n rises) := by
  have h1 : P (if (s.port p).burstOver n then s.endBurst p else s) := by
    split_ifs
    · exact K.endBurst h
    · exact h
  unfold State.receive
  split
  · dsimp only
    split_ifs at h1 ⊢
    · exact K.outer.of_setPort (K.outerTransition _ _ h1)
    · exact h1
    · exact K.outer.of_setPort (K.outerTransition _ _ h1)
    · exact h1
  · exact h

theorem lockRises (h : P s) : P (s.lockRises p) := by
  unfold State.lockRises
  dsimp only
  split_ifs
  · exact h
  · exact K.outer.upd p (.of_eq rfl rfl rfl) rfl h
  · exact h
  · exact K.outer.openUpd p (.of_eq rfl rfl rfl) rfl h

theorem lockFalls (h : P s) : P (s.lockFalls p) := by
  unfold State.lockFalls
  dsimp only
  split_ifs with c1 st
  · exact h
  · have h1 : P (s.updPort p fun x => { x with lockUp := false }) := K.outer.upd p (.of_eq rfl rfl rfl) rfl h
    exact K.starts (K.failAttempt _ (fun b => by
      rw [State.port_updPort_profile]
      exact K.profile_of_state h st nofun nofun b) (K.weaken h1))
  · exact h
  · exact K.outer.upd p (.of_eq rfl rfl rfl) rfl h

theorem addErrorUpd {f : Port → Port} (same : (s.port p).SameCore (f (s.port p)))
    (st : (f (s.port p)).status.state = (s.port p).status.state) (h : P s) :
    P (s.updPort p fun x => (f x).addError) := by
  refine K.outer.upd p ?_ ?_ h
  · unfold Port.addError
    dsimp only
    split_ifs <;> exact ⟨same.core, ⟨same.asks.request, same.asks.outbox⟩⟩
  · unfold Port.addError
    dsimp only
    split_ifs <;> exact st

theorem takeError (h : P s) : P (s.takeError p) := by
  unfold State.takeError
  dsimp only
  split_ifs
  · exact h
  · exact K.addErrorUpd (f := fun x => { x with monitor := { x.monitor with count := satInc x.monitor.count } })
      (.of_eq rfl rfl rfl) rfl h
  · exact K.addErrorUpd
      (f := fun x => { x with monitor := { x.monitor with verifyCount := satInc x.monitor.verifyCount } })
      (.of_eq rfl rfl rfl) rfl h
  · exact h

theorem lockTimeout (h : P s) : P (s.lockTimeout p) := by
  rw [State.lockTimeout]
  split_ifs with c
  · have st : (s.port p).status.state = .verify := by simpa using (Bool.and_eq_true_iff.mp c).1
    exact K.starts (K.failAttempt _ (K.profile_of_state h st nofun nofun) (K.weaken h))
  · exact h

theorem verifyWindowEnd (h : P s) : P (s.verifyWindowEnd p) := by
  unfold State.verifyWindowEnd
  dsimp only
  split_ifs with c
  · have st : (s.port p).status.state = .verify := by simpa using (Bool.and_eq_true_iff.mp c).1
    exact K.starts (K.enterLinked (K.profile_of_state h st nofun nofun) (K.weaken h))
  · have st : (s.port p).status.state = .verify := by simpa using (Bool.and_eq_true_iff.mp c).1
    exact K.starts (K.failAttempt _ (K.profile_of_state h st nofun nofun) (K.weaken h))
  · exact h

theorem monitorWindowEnd (h : P s) : P (s.monitorWindowEnd p) := by
  unfold State.monitorWindowEnd
  dsimp only
  by_cases c : (decide ((s.port p).status.state = .linked) && decide ((s.port p).timers.monitor = some 0)) = true
  · have st : (s.port p).status.state = .linked := by simpa using (Bool.and_eq_true_iff.mp c).1
    rw [if_pos c]
    generalize (if decide ((s.port p).prof.monitorThreshold ≤ (s.port p).monitor.count.toNat) = true then
      (s.port p).monitor.badRun + 1 else 0) = run
    split_ifs
    · refine K.starts (K.retrainOrIdle (fun b => ?_) (K.chargeRate (K.dropLink _ (K.weaken h))))
      rw [State.chargeRate, State.port_updPort_profile, Port.charge_profile, State.dropLink_profile]
      exact K.profile_of_state h st nofun nofun b
    · exact K.outer.openUpd p (.of_eq rfl rfl rfl) rfl h
  · rw [if_neg c]
    exact h

theorem dropHoldExpiry (h : P s) : P (s.dropHoldExpiry p) := by
  rw [State.dropHoldExpiry]
  split_ifs with c
  · have st : (s.port p).status.state = .linked := by simpa using (Bool.and_eq_true_iff.mp c).1
    refine K.starts (K.retrainOrIdle (fun b => ?_) (K.dropLink _ (K.weaken h)))
    rw [State.dropLink_profile]
    exact K.profile_of_state h st nofun nofun b
  · exact h

theorem offerTimeout (h : P s) : P (s.offerTimeout p) := by
  rw [State.offerTimeout]
  split_ifs with c
  · have st : (s.port p).status.state = .offer := by simpa using (Bool.and_eq_true_iff.mp c).1
    exact K.starts (K.failAttempt _ (K.profile_of_state h st nofun nofun) (K.weaken h))
  · exact h

theorem backoffExpiry (h : P s) : P (s.backoffExpiry p) := by
  rw [State.backoffExpiry]
  split_ifs with c
  · have st : (s.port p).status.state = .backoff := by simpa using (Bool.and_eq_true_iff.mp c).1
    exact K.starts (K.startAttempt (K.profile_of_state h st nofun nofun) (K.weaken h))
  · exact K.outer.upd p (.of_eq rfl rfl rfl) rfl h
  · exact h

theorem roleHoldExpiry (h : P s) : P (s.roleHoldExpiry p) := by
  rw [State.roleHoldExpiry]
  split_ifs with c a
  · exact K.starts (K.beginSequence _ (fun _ => Port.profile_of_autoRetrain a) (K.weaken h))
  · exact K.outer.upd p (.of_eq rfl rfl rfl) rfl h
  · exact h

end Lifts
end Sys2Proof.Machine

namespace Sys2Proof.Machine

/-! ### Commands of an engine

The end of a measurement has two halves: what comes before the release, where `Qw` holds inside the event and `Qp`
outside it, and what comes after it, where `W` and `P` do. A load that fails is the one place where they differ. -/

/-- What the end of a measurement of port p by engine e needs of what holds before the release. -/
structure Finishing (W P Qw Qp : State → Prop) (p : PortNo) (e : EngineNo) : Prop where
  plain : KeepsPlain Qp
  weaken : ∀ {s : State}, Qp s → Qw s
  endJob : ∀ {s : State} (out : JobOutcome), Qw s → Qw (s.endJob p out)
  measure : ∀ {s : State} (m m' : Measurement), (s.engine e).meas = some m → m'.holder = m.holder →
    m'.recipe = m.recipe → m'.filling = m.filling ∨ m'.filling = none → Qp s →
    Qp (s.setEngine e { s.engine e with meas := some m' })
  released : ∀ {s : State} (m : Measurement), (s.engine e).meas = some m → m.holder = p → Qw s → W (s.release e)
  releasedOut : ∀ {s : State} (m : Measurement), (s.engine e).meas = some m → m.holder = p → Qp s → P (s.release e)

/-- What an engine holds after a change of it. -/
theorem State.updMeas_meas {s : State} {e : EngineNo} {m : Measurement} (h : (s.engine e).meas = some m)
    (f : Measurement → Measurement) : ((s.updMeas e f).engine e).meas = some (f m) := by
  rw [State.updMeas_some h, State.engine_setEngine_self]

theorem State.loadFault_eq {s : State} {e : EngineNo} {m : Measurement} (h : (s.engine e).meas = some m) :
    s.loadFault e =
      let t := (s.raiseGlobal .recipeFault).updMeas e fun m => { m with flags := flagLoadFault }
      match m.source with
      | .job => t.finishJob e { m with flags := flagLoadFault }
      | .precheck => t.finishPrecheck e { m with flags := flagLoadFault } RateSet.all
      | .watch => t.release e := by
  have h' := State.updMeas_meas (s := s.raiseGlobal .recipeFault) h fun m => { m with flags := flagLoadFault }
  unfold State.loadFault
  dsimp only
  simp only [h'] <;> rfl

theorem State.compareWatch_engine (s : State) (p : PortNo) (r : Report) (e : EngineNo) :
    (s.compareWatch p r).engine e = s.engine e := by
  unfold State.compareWatch
  dsimp only
  split_ifs <;> rfl

theorem KeepsPlain.compareWatch {P : State → Prop} (K : KeepsPlain P) {s : State} (p : PortNo) (r : Report) (h : P s) :
    P (s.compareWatch p r) := by
  unfold State.compareWatch
  dsimp only
  split_ifs
  · exact K.raisePort p _ (K.upd p (.of_eq rfl rfl rfl) rfl (K.writeReport p r h))
  · exact K.openUpd p (.of_eq rfl rfl rfl) rfl h

namespace Lifts
variable {B R : Prop} {W P Qw Qp : State → Prop} {p : PortNo} {e : EngineNo} (L : Lifts B R W P p)
  (F : Finishing W P Qw Qp p e) {s : State} {m : Measurement}
include L F

theorem finishJob (hm : (s.engine e).meas = some m) (holds : m.holder = p) (h : Qp s) (n : Measurement)
    (hn : n.holder = p) : P (s.finishJob e n) := by
  have h1 : Qp (s.writeReport p (n.reportAt s.tick)) := F.plain.writeReport _ _ h
  unfold State.finishJob
  rw [hn]
  dsimp only
  split_ifs
  · exact L.starts (L.resume (F.released m (by simpa using hm) holds (F.endJob .reported (F.weaken h1))))
  · exact F.releasedOut m (by simpa using hm) holds h1

theorem finishPrecheck (hm : (s.engine e).meas = some m) (holds : m.holder = p) (h : Qp s) (n : Measurement)
    (hn : n.holder = p) (qual : RateSet) : P (s.finishPrecheck e n qual) := by
  have h1 : Qp (s.writeReport p (n.reportAt s.tick)) := F.plain.writeReport _ _ h
  unfold State.finishPrecheck
  rw [hn]
  dsimp only
  split_ifs with st
  · have h2 : Qp ((s.writeReport p (n.reportAt s.tick)).updPort p fun x =>
        { x with status := { x.status with qualSet := qual } }) := F.plain.upd p (.of_eq rfl rfl rfl) rfl h1
    have h3 := F.released m (by simpa using hm) holds (F.weaken h2)
    refine L.starts (L.startAttempt (fun b => L.hasProfile b h3 ?_ ?_) h3)
    · rw [State.release_port, State.port_updPort_status]; rw [st]; nofun
    · rw [State.release_port, State.port_updPort_status]; rw [st]; nofun
  · exact F.releasedOut m (by simpa using hm) holds h1

theorem finishWatch (hm : (s.engine e).meas = some m) (holds : m.holder = p) (h : Qp s) (n : Measurement)
    (hn : n.holder = p) : P (s.finishWatch e n) := by
  have h1 : Qp (s.compareWatch p (n.reportAt s.tick)) := F.plain.compareWatch p _ h
  have h2 := F.released m (by rw [State.compareWatch_engine]; exact hm) holds (F.weaken h1)
  unfold State.finishWatch
  rw [hn]
  dsimp only
  refine L.starts ?_
  unfold State.watchTriggers
  dsimp only
  split_ifs with c
  · exact L.beginSequence _ (fun _ => Port.profile_of_autoRetrain (Bool.and_eq_true_iff.mp c).1) h2
  · exact h2

theorem finishMeasurement (hm : (s.engine e).meas = some m) (holds : m.holder = p) (h : Qp s) :
    P (s.finishMeasurement e) := by
  rw [State.finishMeasurement, hm]
  dsimp only
  cases m.source with
  | job => exact L.finishJob F hm holds h m holds
  | precheck => exact L.finishPrecheck F hm holds h m holds _
  | watch => exact L.finishWatch F hm holds h m holds

/-- After the last pair the measurement ends (R87). -/
theorem goOn_none (hm : (s.engine e).meas = some m) (holds : m.holder = p) (h : Qp s) : P (s.goOn e none) := by
  rw [State.goOn, State.updMeas_some hm]
  exact L.finishMeasurement F (m := { m with pair := none }) (by rw [State.engine_setEngine_self]) holds (F.measure m _ hm rfl rfl (.inl rfl) h)

/-- A load that fails ends at once (R85). -/
theorem loadFault (global : Qp (s.raiseGlobal .recipeFault)) (hm : (s.engine e).meas = some m) (holds : m.holder = p) :
    P (s.loadFault e) := by
  set t := (s.raiseGlobal .recipeFault).updMeas e fun m => { m with flags := flagLoadFault } with ht
  have ht' : t = (s.raiseGlobal .recipeFault).setEngine e
      { s.engine e with meas := some { m with flags := flagLoadFault } } :=
    State.updMeas_some (s := s.raiseGlobal .recipeFault) hm _
  have h1 : Qp t := ht' ▸ F.measure m _ hm rfl rfl (.inl rfl) global
  have hm1 : (t.engine e).meas = some { m with flags := flagLoadFault } := by rw [ht', State.engine_setEngine_self]
  rw [State.loadFault_eq hm]
  dsimp only
  split
  · exact L.finishJob F hm1 holds h1 { m with flags := flagLoadFault } holds
  · exact L.finishPrecheck F hm1 holds h1 { m with flags := flagLoadFault } holds _
  · exact F.releasedOut _ hm1 holds h1

end Lifts

/-- P is kept by each change of a measurement under way. -/
structure KeepsMeasuring (P : State → Prop) : Prop where
  write : ∀ {s : State} (a : Nat) (v : Word), a < 32768 → P s → P (s.writeMem a v)
  measure : ∀ {s : State} (e : EngineNo) (m m' : Measurement), (s.engine e).meas = some m → m'.holder = m.holder →
    m'.recipe = m.recipe → m'.filling = m.filling ∨ m'.filling = none → P s →
    P (s.setEngine e { s.engine e with meas := some m' })
  fill : ∀ {s : State} (e : EngineNo) (m : Measurement) (k : SlabNo), (s.engine e).meas = some m →
    s.lowestFreeSlab = some k → P s →
    P ((s.writeMem (ownerAddr k) ownerFilling).setEngine e { s.engine e with meas := some { m with filling := some k } })
  global : ∀ {s : State} (f : GlobalFlag), P s → P (s.raiseGlobal f)
  freeValue : ∀ {s : State} (n : Nat), P s → P { s with freeCount := n }

namespace KeepsMeasuring
variable {P : State → Prop} (K : KeepsMeasuring P) {s : State} {e : EngineNo} {m : Measurement}
include K

theorem updMeas {f : Measurement → Measurement} (holder : ∀ m, (f m).holder = m.holder)
    (recipe : ∀ m, (f m).recipe = m.recipe) (filling : ∀ m, (f m).filling = m.filling ∨ (f m).filling = none)
    (h : P s) : P (s.updMeas e f) := by
  rw [State.updMeas]
  split
  · rename_i m hm
    exact K.measure e m (f m) hm (holder m) (recipe m) (filling m) h
  · exact h

theorem freeSlab (k : Option SlabNo) (h : P s) : P (s.freeSlab k) := by
  cases k with
  | none => exact h
  | some k =>
    have := k.isLt
    exact K.write _ _ (by unfold ownerAddr; omega) h

theorem allocateSlab (hm : (s.engine e).meas = some m) (h : P s) : P (s.allocateSlab e) := by
  unfold State.allocateSlab
  split
  · rename_i k hk
    rw [State.updMeas_some (by exact hm)]
    exact K.fill e m k hm hk h
  · exact K.global _ (K.updMeas (fun _ => rfl) (fun _ => rfl) (fun _ => .inl rfl) h)

theorem startPair (p : Pair) (h : P s) : P (s.startPair e p) := by
  have h1 : P (s.updMeas e fun m => { m with pair := some p, phase := .quietCheck 0 .capturing }) :=
    K.updMeas (fun _ => rfl) (fun _ => rfl) (fun _ => .inl rfl) h
  unfold State.startPair
  dsimp only
  split
  · rename_i m hm
    split_ifs
    · exact K.allocateSlab hm h1
    · exact h1
  · exact h1

theorem writeWords (ws : List Word) {a : Nat} (ha : a + ws.length ≤ 32768) (h : P s) : P (s.writeWords a ws) := by
  induction ws generalizing s a with
  | nil => exact h
  | cons w rest ih =>
    rw [List.length_cons] at ha
    exact ih (by omega) (K.write a w (by omega) h)

theorem writeTrace (k : SlabNo) (m : Measurement) (p : Pair) (vs : List Int) (h : P s) :
    P (s.writeTrace k m p vs) := by
  have hk := k.isLt
  have len : ((vs.take 512).map fun v => (BitVec.ofInt 16 v : Word)).length ≤ 512 := by
    rw [List.length_map, List.length_take]
    omega
  refine K.write _ _ (by unfold ownerAddr; omega) (K.writeWords _ ?_ (K.writeWords _ ?_ h))
  · simp only [List.length_cons, List.length_nil, slabEntryBase]; omega
  · simp only [slabBase]; omega

theorem startTry (h : P s) : P (s.startTry e) := by
  unfold State.startTry
  split
  · split
    · exact K.updMeas (fun _ => rfl) (fun _ => rfl) (fun _ => .inl rfl) h
    · exact h
  · exact h

theorem endShot (bits : EchoBits) (h : P s) : P (s.endShot e bits) := by
  unfold State.endShot
  split
  · split
    · exact K.updMeas (fun _ => rfl) (fun _ => rfl) (fun _ => .inl rfl) h
    · exact h
  · exact h

end KeepsMeasuring

@[simp] theorem State.freeSlab_engine (s : State) (k : Option SlabNo) (e : EngineNo) :
    (s.freeSlab k).engine e = s.engine e := by
  cases k <;> rfl

@[simp] theorem State.writeWords_engine (s : State) (a : Nat) (ws : List Word) (e : EngineNo) :
    (s.writeWords a ws).engine e = s.engine e := by
  induction ws generalizing s a with
  | nil => rfl
  | cons w rest ih => rw [State.writeWords, ih]; rfl

@[simp] theorem State.writeTrace_engine (s : State) (k : SlabNo) (m : Measurement) (p : Pair) (vs : List Int)
    (e : EngineNo) : (s.writeTrace k m p vs).engine e = s.engine e := by
  rw [State.writeTrace, State.writeMem_engine, State.writeWords_engine, State.writeWords_engine]

namespace Lifts
variable {B R : Prop} {W P : State → Prop} {p : PortNo} {e : EngineNo} (L : Lifts B R W P p)
  (F : Finishing W P W P p e) (K : KeepsMeasuring P) {s : State} {m : Measurement}
include L F K

theorem goOn (next : Option Pair) (hm : (s.engine e).meas = some m) (holds : m.holder = p) (h : P s) :
    P (s.goOn e next) := by
  cases next with
  | none => exact L.goOn_none F hm holds h
  | some q => exact K.startPair q h

theorem endNoisy (n : Measurement) (q : Pair) (cap : Pairs (List Int)) (hm : (s.engine e).meas = some m)
    (holds : m.holder = p) (h : P s) : P (s.endNoisy e n q cap) := by
  have h1 : P (if fitsWord (noisyPeak cap) then s else { s with freeCount := s.freeCount + 1 }) := by
    split_ifs
    · exact h
    · exact K.freeValue _ h
  have hm1 : ((if fitsWord (noisyPeak cap) then s else { s with freeCount := s.freeCount + 1 }).engine e).meas =
      some m := by
    split_ifs <;> exact hm
  unfold State.endNoisy
  dsimp only
  generalize hs1 : (if fitsWord (noisyPeak cap) then s else { s with freeCount := s.freeCount + 1 }) = s1 at h1 hm1 ⊢
  have hm2 : ((s1.freeSlab n.filling).engine e).meas = some m := by rw [State.freeSlab_engine]; exact hm1
  exact L.goOn F K _ (State.updMeas_meas hm2 _) holds
    (K.updMeas (fun _ => rfl) (fun _ => rfl) (fun _ => .inr rfl) (K.freeSlab _ h1))

theorem endTry (bits : EchoBits) (holds : ∀ m, (s.engine e).meas = some m → m.holder = p) (h : P s) :
    P (s.endTry e bits) := by
  unfold State.endTry
  split
  · rename_i m hm
    split
    · dsimp only
      split_ifs
      · exact K.updMeas (fun _ => rfl) (fun _ => rfl) (fun _ => .inl rfl) h
      · exact K.updMeas (fun _ => rfl) (fun _ => rfl) (fun _ => .inl rfl) h
      · exact L.endNoisy F K _ _ _ hm (holds m hm) h
    · exact h
  · exact h

theorem completePair (holds : ∀ m, (s.engine e).meas = some m → m.holder = p) (h : P s) :
    P (s.completePair e) := by
  unfold State.completePair
  split
  · rename_i m hm
    split
    · rename_i tries acc q _ _
      dsimp only
      cases hf : m.filling with
      | none =>
        exact L.goOn F K _ (State.updMeas_meas hm _) (holds m hm)
          (K.updMeas (fun _ => rfl) (fun _ => rfl) (fun _ => .inr rfl) h)
      | some k =>
        exact L.goOn F K _ (State.updMeas_meas (by rw [State.writeTrace_engine]; exact hm) _) (holds m hm)
          (K.updMeas (fun _ => rfl) (fun _ => rfl) (fun _ => .inr rfl) (K.writeTrace k m q _ h))
    · exact h
  · exact h

end Lifts
end Sys2Proof.Machine

namespace Sys2Proof.Machine

/-! ### Every command -/

/-- The part with grant g of engine e accepted and loaded (R84, R112), before its first pair. -/
def State.loading (s : State) (e : EngineNo) (g : Grant) : State :=
  (((s.setGrant e (some { g with accepted := true })).setEngine e
    { s.engine e with meas := some (s.loaded g.request.port g.request.kind) })).updPort g.request.port fun x =>
      { x with
        request := none, reportCount := (s.loaded g.request.port g.request.kind).sequence
        decoder := { x.decoder with burst := none } }

/-- The part with the unaccepted grant g of engine e turned back and its request in its old place (R112). -/
def State.returning (s : State) (e : EngineNo) (g : Grant) : State :=
  { s.turnBack e with requests := insertByPlace g.request (s.turnBack e).requests }

/-- The grant of engine e reaches a port that still waits for it (R112). -/
structure State.grantStands (s : State) (e : EngineNo) (g : Grant) : Prop where
  grant : s.grant e = some g
  open_ : g.accepted = false
  waits : (s.port g.request.port).request ≠ none
  kept : (s.port g.request.port).hasWithdrawn = false

theorem State.takeGrant_ready {s : State} {e : EngineNo} {g : Grant} (h : s.grantStands e g)
    (ready : s.isReady (quadOf g.request.port) = true) : s.takeGrant e =
      if s.loadCheck g.request.kind then
        (s.loading e g).goOn e (firstPair (s.loaded g.request.port g.request.kind).recipe)
      else (s.loading e g).loadFault e := by
  have waits : (s.port g.request.port).request.isNone = false := by
    simpa [Option.isSome_iff_ne_none] using h.waits
  rw [State.takeGrant, h.grant]
  dsimp only
  rw [h.open_, h.kept, waits, ready]
  rfl

theorem State.takeGrant_notReady {s : State} {e : EngineNo} {g : Grant} (h : s.grantStands e g)
    (ready : s.isReady (quadOf g.request.port) = false) : s.takeGrant e = (s.returning e g).applyGrantRule := by
  have waits : (s.port g.request.port).request.isNone = false := by
    simpa [Option.isSome_iff_ne_none] using h.waits
  rw [State.takeGrant, h.grant]
  dsimp only
  rw [h.open_, h.kept, waits, ready]
  rfl

theorem State.takeGrant_idle {s : State} {e : EngineNo} (h : ∀ g, ¬ s.grantStands e g) : s.takeGrant e = s := by
  unfold State.takeGrant
  split
  · rename_i g hg
    dsimp only
    split_ifs with h1 h2 h3
    · rfl
    · rfl
    all_goals
      refine absurd ⟨hg, by simpa using h1, ?_, ?_⟩ (h g)
      · simp only [Bool.or_eq_true, not_or] at h2
        simpa using h2.2
      · simp only [Bool.or_eq_true, not_or] at h2
        simpa using h2.1
  · rfl

/-- t differs from s at most in fields that no invariant speaks of. -/
def State.SameBut (s t : State) : Prop :=
  t = { s with
    resetPin := t.resetPin, divisor := t.divisor, lock := t.lock, divider := t.divider, globalNews := t.globalNews
    newsEnable := t.newsEnable, intakeFlags := t.intakeFlags, intakeErrors := t.intakeErrors
    watchInterval := t.watchInterval, watchElapsed := t.watchElapsed, freeCount := t.freeCount }

/-- The command is a STOP, or a host write that is one (R161). -/
def stopsThePart : Instr → Prop
  | .stop => True
  | .hostWrite a v => a.toNat = 2 ∧ runCommand v = 2
  | _ => False

/-- P is kept by every change a command is built of, but for PIN_RESET and STOP; `W p` is what holds
inside a command that may end a job of port p. -/
structure KeptMachine (B R : Prop) (W : PortNo → State → Prop) (P : State → Prop) : Prop extends KeepsMeasuring P where
  lifts : ∀ p, Lifts B R (W p) P p
  finishing : ∀ p e, Finishing (W p) P (W p) P p e
  misc : ∀ {s t : State}, s.SameBut t → P s → P t
  close : ∀ {s : State}, P s → P s.closeEdits
  load : ∀ {s : State} (e : EngineNo) (g : Grant), s.grantStands e g → s.loadCheck g.request.kind = true →
    s.runState = .running → P s → P (s.loading e g)
  fault : ∀ (e : EngineNo) (p : PortNo), ∃ Qw Qp, Finishing (W p) P Qw Qp p e ∧
    ∀ {s : State} (g : Grant), s.grantStands e g → g.request.port = p → s.runState = .running → P s → Qp ((s.loading e g).raiseGlobal .recipeFault)
  returning : ∀ {s : State} (e : EngineNo) (g : Grant), s.grantStands e g → s.runState = .running → P s →
    P (s.returning e g).applyGrantRule
  takeRequest : ∀ {s : State} (p : PortNo), s.runState = .running → P s → P (s.takeRequest p)
  takeWithdrawal : ∀ {s : State} (p : PortNo), s.runState = .running → P s → P (s.takeWithdrawal p)
  raiseWatch : ∀ {s : State} (p : PortNo), s.runState = .running → P s → P (s.raiseWatch p)
  falls : ∀ {s : State} (q : QuadNo), P s → P (s.setReady q false)
  rises : ∀ {s : State} (q : QuadNo), s.runState ≠ .running → P s → P (s.setReady q true)
  risesRunning : ∀ {s : State} (q : QuadNo), s.runState = .running → P s → P (s.setReady q true).applyGrantRule
  blocks : ∀ {s : State}, s.runState = .running → P s →
    P { s.tickBlocks with intakeDue := !s.intakeQueue.isEmpty }
  entry : ∀ {s : State}, s.runState = .running → P s → P ({ s with intakeDue := false } : State).intakeTake
  handIn : ∀ {s : State} (c : CellNo), s.runState = .running → s.custodyOf c = .outside → s.intakeQueue.length < 16 →
    P s → P (s.acceptHandIn c)
  fillDone : ∀ {s : State}, s.runState = .filling → P s →
    P { s with runState := .stopped, ports := Vector.ofFn fun p => (s.port p).openEdit }
  run : ∀ {s : State}, s.runState = .stopped → P s → P { s with runState := .running }
  postWatch : ∀ {s : State} (p : PortNo), P s → P (s.post p .watch)
  stopDone : ∀ {s : State}, s.runState = .stopping → P s → P { s with runState := .stopped }

/-- A readiness fall at port p (R4). -/
theorem Lifts.fallAt {B R : Prop} {W P : State → Prop} {p : PortNo} (L : Lifts B R W P p) {s : State} (h : P s) :
    P (s.fallAt p) := by
  have w := L.weaken h
  refine L.starts ?_
  split
  · rename_i st
    refine L.retrainOrIdle (fun b => ?_) (L.dropLink _ w)
    rw [State.dropLink_profile]
    exact L.profile_of_state h st nofun nofun b
  · rename_i st
    exact L.failAttempt _ (L.profile_of_state h st nofun nofun) w
  · rename_i st
    exact L.failAttempt _ (L.profile_of_state h st nofun nofun) w
  · rename_i st
    exact L.failAttempt _ (L.profile_of_state h st nofun nofun) w
  · rename_i he
    obtain ⟨m, hm, holds⟩ := State.holds_of_engineOf he
    exact L.post_precheck (L.abortEngine hm holds _ w)
  · rename_i he
    obtain ⟨m, hm, holds⟩ := State.holds_of_engineOf he
    exact L.resume (L.endJob _ (L.abortEngine hm holds _ w))
  · rename_i he
    obtain ⟨m, hm, holds⟩ := State.holds_of_engineOf he
    exact L.abortEngine hm holds _ w
  · rename_i he
    obtain ⟨m, hm, holds⟩ := State.holds_of_engineOf he
    exact L.abortEngine hm holds _ w
  · exact w

namespace KeptMachine
variable {B R : Prop} {W : PortNo → State → Prop} {P : State → Prop} (K : KeptMachine B R W P) {s : State}
include K

theorem takeGrant (e : EngineNo) (running : s.runState = .running) (h : P s) : P (s.takeGrant e) := by
  by_cases stands : ∃ g, s.grantStands e g
  · obtain ⟨g, hg⟩ := stands
    cases ready : s.isReady (quadOf g.request.port) with
    | false =>
      rw [State.takeGrant_notReady hg ready]
      exact K.returning e g hg running h
    | true =>
      have hm : ((s.loading e g).engine e).meas = some (s.loaded g.request.port g.request.kind) := by
        rw [State.loading, State.updPort_engine, State.engine_setEngine_self]
      rw [State.takeGrant_ready hg ready]
      split_ifs with check
      · exact (K.lifts g.request.port).goOn (K.finishing _ e) K.toKeepsMeasuring _ hm rfl (K.load e g hg check running h)
      · obtain ⟨Qw, Qp, F, fault⟩ := K.fault e g.request.port
        exact (K.lifts g.request.port).loadFault F (fault g hg rfl running h) hm rfl
  · rw [State.takeGrant_idle fun g hg => stands ⟨g, hg⟩]
    exact h

theorem readInterval (h : P s) : P s.readInterval := K.misc rfl h

theorem watchPort (p : PortNo) (h : P s) : P (s.watchPort p) := by
  have late : P (s.updPort p Port.countLate) := (K.lifts p).outer.openUpd p (.of_eq rfl rfl rfl) rfl h
  have due : P (s.dueAt p) := by
    unfold State.dueAt
    by_cases held : (s.engineOf p).isSome = true
    · rw [if_pos held]
      exact h
    · rw [if_neg held]
      split
      · exact K.postWatch p h
      · split_ifs
        · exact h
        · exact late
  rw [State.watchPort]
  split_ifs
  · exact due
  · exact h

theorem watchExpiry (h : P s) : P s.watchExpiry := by
  rw [State.watchExpiry]
  split_ifs
  · exact K.readInterval (State.forEach_keeps P _ (fun s p => K.watchPort p) _ h)
  · exact h

theorem takeTick (running : s.runState = .running) (h : P s) : P s.takeTick := by
  rw [State.takeTick]
  split_ifs
  · exact K.entry running h
  · exact K.blocks running h

theorem clockPeriod (h : P s) : P s.clockPeriod := by
  rw [State.clockPeriod, State.ifRunning]
  by_cases running : s.runState = .running
  · rw [if_pos running]
    split_ifs
    · exact K.takeTick running h
    · exact K.misc rfl h
  · rw [if_neg running]
    exact h

/-! #### Run control and the host's writes -/

theorem writeTimebase (v : Word) (h : P s) : P (s.writeTimebase v) := by
  unfold State.writeTimebase State.ifFilled
  dsimp only
  split_ifs
  · exact h
  · exact h
  · exact K.misc rfl h

theorem takeRun (h : P s) : P s.run := by
  rw [State.run]
  split_ifs with stopped
  · exact K.misc (s := { s with runState := .running }) rfl (K.run stopped h)
  · exact h

theorem refuseHandIn (f : RefusalFlag) (h : P s) : P (s.refuseHandIn f) :=
  K.misc (s := s) (t := s.refuseHandIn f) rfl h

theorem takeHandIn (v : Word) (h : P s) : P (s.handIn v) := by
  unfold State.handIn
  split
  · exact h
  · exact K.refuseHandIn _ h
  · exact K.refuseHandIn _ h
  · rename_i running
    split
    · dsimp only
      split_ifs with held full
      · exact K.refuseHandIn _ h
      · exact K.refuseHandIn _ h
      · exact K.handIn _ running (by simpa using held) (by simpa [Config.queueDepth] using full) h
    · exact K.refuseHandIn _ h

theorem clearIntakeStatus (v : Word) (h : P s) : P (s.clearIntakeStatus v) := by
  unfold State.clearIntakeStatus State.ifFilled
  split_ifs
  · exact h
  · exact K.misc rfl h

theorem writeNewsEnable (v : Word) (h : P s) : P (s.writeNewsEnable v) := by
  unfold State.writeNewsEnable State.ifFilled
  split_ifs
  · exact h
  · exact K.misc rfl h

theorem clearNews (target : Option PortNo) (v : Word) (h : P s) : P (s.clearNews target v) := by
  unfold State.clearNews State.ifFilled
  dsimp only
  split_ifs
  · exact h
  · cases target with
    | none => exact K.misc rfl h
    | some p =>
      refine (K.lifts p).outer.upd p ?_ ?_ h
      · unfold Port.clearNews
        dsimp only
        split_ifs
        · exact Port.SameCore.openEdit (y := { s.port p with news := _, status := _ }) (.of_eq rfl rfl rfl)
        · exact .of_eq rfl rfl rfl
      · unfold Port.clearNews
        dsimp only
        split_ifs
        · rw [Port.openEdit_status]
        · rfl

theorem writePlain {a : Nat} (v : Word) (ha : a < 32768) (h : P s) : P (s.writePlain a v) := by
  unfold State.writePlain State.ifFilled
  dsimp only
  split_ifs
  · exact h
  · exact K.write a v ha h
  · exact h

theorem hostWriteTo {a : Nat} (v : Word) (ha : a < 32768)
    (stop : a = 2 ∧ runCommand v = 2 → s.runState = .running → P s.stop) (h : P s) : P (s.hostWriteTo a v) := by
  unfold State.hostWriteTo State.ifRunning
  split_ifs with _ two _ stops running
  · exact K.writeTimebase v h
  · exact K.takeRun h
  · exact stop ⟨two, stops⟩ running
  · exact h
  · exact h
  · exact K.takeHandIn v h
  · exact K.clearIntakeStatus v h
  · exact K.writeNewsEnable v h
  · exact K.clearNews none v h
  · split
    · exact K.clearNews _ v h
    · exact K.writePlain v ha h

theorem takeStopDone (h : P s) : P s.stopDone := by
  rw [State.stopDone]
  split_ifs with done
  · have stopping : s.runState = .stopping := by simpa using (Bool.and_eq_true_iff.mp done).1
    exact K.global _ (K.stopDone stopping h)
  · exact h

theorem takeFillDone (h : P s) : P s.fillDone := by
  rw [State.fillDone]
  split_ifs with filling
  · exact K.fillDone filling h
  · exact h

/-! #### Readiness -/

theorem readinessFall (q : QuadNo) (h : P s) : P (s.readinessFall q) := by
  unfold State.readinessFall State.ifRunning
  dsimp only
  split_ifs
  · exact State.forEach_keeps P _ (fun s p => (K.lifts p).fallAt) _ (K.falls q h)
  · exact K.falls q h
  · exact h

theorem readinessRise (q : QuadNo) (h : P s) : P (s.readinessRise q) := by
  unfold State.readinessRise State.ifRunning
  split_ifs with up running
  · exact h
  · exact K.risesRunning q running h
  · exact K.rises q running h

/-! #### The commands -/

theorem take {f : State → State} (hf : s.resetPin = false → P (f s)) (h : P s) {t : State} (e : s.take f = .next t) :
    P t := by
  rw [State.take] at e
  injection e with e
  subst e
  split_ifs with pin
  · exact h
  · exact K.close (hf (by simpa using pin))

theorem takeRunning {f : State → State} (hf : s.resetPin = false → s.runState = .running → P (f s)) (h : P s) {t : State}
    (e : (s.take fun s => s.ifRunning f) = .next t) : P t := by
  refine K.take (fun pin => ?_) h e
  rw [State.ifRunning]
  split_ifs with running
  · exact hf pin running
  · exact h

/-- What the changes of the list keep, and PIN_RESET and STOP do, every command keeps. -/
theorem exec (c : Instr) (reset : ∀ levels, c = .pinReset levels → P (s.pinReset levels))
    (stop : stopsThePart c → s.resetPin = false → s.runState = .running → P s.stop) (h : P s) {t : State}
    (e : exec c s = .next t) : P t := by
  cases c with
  | pinReset levels =>
    injection e with e
    exact e ▸ reset levels rfl
  | resetPinAsserted =>
    injection e with e
    exact e ▸ K.misc (t := { s with resetPin := true }) rfl h
  | fillDone => exact K.take (f := State.fillDone) (fun _ => K.takeFillDone h) h e
  | run => exact K.take (f := State.run) (fun _ => K.takeRun h) h e
  | stop => exact K.takeRunning (f := State.stop) (stop trivial) h e
  | stopDone => exact K.take (f := State.stopDone) (fun _ => K.takeStopDone h) h e
  | timebaseWrite v => exact K.take (f := fun s => s.writeTimebase v) (fun _ => K.writeTimebase v h) h e
  | handIn v => exact K.take (f := fun s => s.handIn v) (fun _ => K.takeHandIn v h) h e
  | intakeStatusClear v => exact K.take (f := fun s => s.clearIntakeStatus v) (fun _ => K.clearIntakeStatus v h) h e
  | newsEnableWrite v => exact K.take (f := fun s => s.writeNewsEnable v) (fun _ => K.writeNewsEnable v h) h e
  | newsClear target v => exact K.take (f := fun s => s.clearNews target v) (fun _ => K.clearNews target v h) h e
  | hostWrite a v => exact K.take (f := fun s => s.hostWriteTo a.toNat v) (fun pin => K.hostWriteTo v a.isLt (fun two => stop two pin) h) h e
  | tick => exact K.takeRunning (f := State.takeTick) (fun _ running => K.takeTick running h) h e
  | offerTimeout p => exact K.takeRunning (fun _ _ => (K.lifts p).offerTimeout h) h e
  | backoffExpiry p => exact K.takeRunning (fun _ _ => (K.lifts p).backoffExpiry h) h e
  | roleHoldExpiry p => exact K.takeRunning (fun _ _ => (K.lifts p).roleHoldExpiry h) h e
  | burstDue p => exact K.takeRunning (fun _ _ => (K.lifts p).sendBurst h) h e
  | burstSent p => exact K.takeRunning (fun _ _ => (K.lifts p).burstSent h) h e
  | receiveTransition p n rises => exact K.takeRunning (fun _ _ => (K.lifts p).receive n rises h) h e
  | burstEnd p => exact K.takeRunning (fun _ _ => (K.lifts p).endBurst h) h e
  | exchangeBreak p => exact K.takeRunning (fun _ _ => (K.lifts p).exchangeBreak h) h e
  | lockRise p => exact K.takeRunning (fun _ _ => (K.lifts p).lockRises h) h e
  | lockFall p => exact K.takeRunning (fun _ _ => (K.lifts p).lockFalls h) h e
  | errorEvent p => exact K.takeRunning (fun _ _ => (K.lifts p).takeError h) h e
  | lockTimeout p => exact K.takeRunning (fun _ _ => (K.lifts p).lockTimeout h) h e
  | verifyWindowEnd p => exact K.takeRunning (fun _ _ => (K.lifts p).verifyWindowEnd h) h e
  | monitorWindowEnd p => exact K.takeRunning (fun _ _ => (K.lifts p).monitorWindowEnd h) h e
  | dropHoldExpiry p => exact K.takeRunning (fun _ _ => (K.lifts p).dropHoldExpiry h) h e
  | readinessFall q => exact K.take (f := fun s => s.readinessFall q) (fun _ => K.readinessFall q h) h e
  | readinessRise q => exact K.take (f := fun s => s.readinessRise q) (fun _ => K.readinessRise q h) h e
  | postRequest p => exact K.takeRunning (fun _ running => K.takeRequest p running h) h e
  | withdrawal p => exact K.takeRunning (fun _ running => K.takeWithdrawal p running h) h e
  | watchRequestRaise p => exact K.takeRunning (f := fun s => s.raiseWatch p) (fun _ running => K.raiseWatch p running h) h e
  | grantTaken f => exact K.takeRunning (f := fun s => s.takeGrant f) (fun _ running => K.takeGrant f running h) h e
  | quietTryStart f => exact K.takeRunning (f := fun s => s.startTry f) (fun _ _ => K.startTry h) h e
  | quietTry f bits =>
    refine K.takeRunning (f := fun s => s.endTry f bits) (fun _ _ => ?_) h e
    cases hm : (s.engine f).meas with
    | none =>
      have idle : s.endTry f bits = s := by rw [State.endTry, hm]
      show P (s.endTry f bits)
      rw [idle]
      exact h
    | some m =>
      exact (K.lifts m.holder).endTry (K.finishing _ f) K.toKeepsMeasuring bits
        (fun n hn => by rw [hm] at hn; injection hn with hn; rw [hn]) h
  | shot f bits => exact K.takeRunning (f := fun s => s.endShot f bits) (fun _ _ => K.endShot bits h) h e
  | pairCompletion f =>
    refine K.takeRunning (f := fun s => s.completePair f) (fun _ _ => ?_) h e
    cases hm : (s.engine f).meas with
    | none =>
      have idle : s.completePair f = s := by rw [State.completePair, hm]
      show P (s.completePair f)
      rw [idle]
      exact h
    | some m =>
      exact (K.lifts m.holder).completePair (K.finishing _ f) K.toKeepsMeasuring
        (fun n hn => by rw [hm] at hn; injection hn with hn; rw [hn]) h
  | watchExpiry => exact K.takeRunning (f := State.watchExpiry) (fun _ _ => K.watchExpiry h) h e

/-- What the changes of the list keep, every step keeps. -/
theorem step (pop : ∀ {s : State} (rest : List Instr), P s → P { s with pending := rest })
    (reset : ∀ {s : State} (levels : BitVec 12), P s → P (s.pinReset levels))
    (stop : ∀ {s : State}, s.resetPin = false → s.runState = .running → P s → P s.stop) (h : P s) {t : State}
    (e : step s = .next t) : P t := by
  rw [Machine.step.eq_def] at e
  split at e
  · rename_i c rest _
    exact K.exec c (fun levels _ => reset levels (pop rest h))
      (fun _ pin running => stop (s := { s with pending := rest }) pin running (pop rest h)) (pop rest h) e
  · exact K.take (fun _ => K.clockPeriod h) h e

end KeptMachine
end Sys2Proof.Machine

namespace Sys2Proof.Machine

/-! ## Run control and the host's registers -/

/-! ### Steps -/

/-- Settles O1: the two cases of a step are those of its queue. -/
theorem stepRunsFrontCommand : Obligations.StepRunsFrontCommand := by
  unfold Obligations.StepRunsFrontCommand
  intro c rest s
  rfl

/-- A command that leaves the part as t, every page as it was. -/
theorem State.take_plain_eq {s t : State} (pin : s.resetPin = false) (closed : s.editsClosed) {f : State → State}
    (e : f s = t) (same : t.ports = s.ports) : s.take f = .next t := by
  rw [State.take_plain pin closed (by rw [e, same]), e]

theorem step_idle {s : State} (h : s.pending = []) : step s = s.take State.clockPeriod := by
  rw [step, h]
  rfl

/-- One reference-clock period while RUNNING (R158). -/
theorem State.clockPeriod_running {s : State} (h : s.runState = .running) : s.clockPeriod =
    if s.intakeDue = true ∨ s.divisor.toNat ≤ s.divider.toNat + 1 then s.takeTick
    else { s with divider := s.divider + 1 } := by
  rw [State.clockPeriod, State.ifRunning, if_pos h]
  simp only [Bool.or_eq_true, decide_eq_true_eq]

/-- Outside RUNNING, and with the pin asserted, no period passes. -/
theorem State.take_clockPeriod_idle {s : State} (hc : s.editsClosed) (h : ¬ s.working) :
    s.take State.clockPeriod = .next s := by
  cases pin : s.resetPin with
  | true => exact State.take_asserted pin _
  | false =>
    refine State.take_unchanged hc ?_
    rw [State.clockPeriod, State.ifRunning, if_neg fun running => h ⟨pin, running⟩]

/-- Settles O2, by the branches of one reference-clock period. -/
theorem emptyQueueIsOneClockPeriod : Obligations.EmptyQueueIsOneClockPeriod := by
  unfold Obligations.EmptyQueueIsOneClockPeriod
  intro s empty closed
  rw [step_idle empty]
  refine ⟨State.take_clockPeriod_idle closed, fun work noEntry early => ?_, fun work due => ?_⟩
  · have counts : s.clockPeriod = { s with divider := s.divider + 1 } := by
      rw [State.clockPeriod_running work.2, if_neg]
      rw [noEntry, not_or]
      exact ⟨Bool.false_ne_true, by omega⟩
    exact State.take_plain_eq work.1 closed counts rfl
  · show _ = s.take fun s => s.ifRunning State.takeTick
    rw [State.take_released work.1, State.clockPeriod_running work.2, if_pos due, State.take_working work]

/-! ### Reset, fill, RUN -/

theorem State.port_ofFn (s : State) (f : PortNo → Port) (p : PortNo) :
    ({ s with ports := Vector.ofFn f } : State).port p = f p := by
  simp [State.port]

/-- Settles O4, field by field. -/
theorem pinResetRestoresEveryBlock : Obligations.PinResetRestoresEveryBlock := by
  unfold Obligations.PinResetRestoresEveryBlock
  intro s levels
  have port : ∀ p : PortNo, (s.pinReset levels).port p = Port.reset p := fun p => by
    simp [State.pinReset, State.reset, State.port]
  refine ⟨s.pinReset levels, rfl, rfl, rfl, rfl, rfl, rfl, rfl, fun _ => rfl, rfl, rfl, rfl, rfl, rfl, rfl,
    fun c => ?_, fun q => ⟨?_, ?_⟩, fun e => ⟨?_, ?_, ?_⟩, rfl, rfl, rfl, fun p => ?_⟩
  · simp [State.custodyOf, State.pinReset, State.reset]
  · simp [State.isReady, State.pinReset]
  · simp [State.claimed, State.pinReset, State.reset]
  · simp [State.engine, State.pinReset, State.reset, Engine.reset]
  · simp [State.engine, State.pinReset, State.reset, Engine.reset]
  · simp [State.grant, State.pinReset, State.reset]
  · rw [port p]
    exact ⟨rfl, rfl, rfl, rfl, rfl, rfl, rfl, rfl, rfl, rfl, rfl, rfl, rfl, rfl, rfl, rfl⟩

/-- Every command but the reset pin's own goes through `take` (R159). -/
theorem exec_eq_take {c : Instr} (h : ∀ levels, c ≠ .pinReset levels) (h' : c ≠ .resetPinAsserted) (s : State) :
    ∃ f, exec c s = s.take f := by
  cases c with
  | pinReset levels => exact absurd rfl (h levels)
  | resetPinAsserted => exact absurd rfl h'
  | _ =>
    dsimp only [exec]
    exact ⟨_, rfl⟩

/-- Settles O5: every command but the reset pin's own goes through `take`. -/
theorem assertedResetPinStopsThePart : Obligations.AssertedResetPinStopsThePart := by
  unfold Obligations.AssertedResetPinStopsThePart
  intro s
  refine ⟨rfl, fun a => rfl, rfl, fun c other => ?_⟩
  by_cases again : c = .resetPinAsserted
  · rw [again]
    rfl
  · obtain ⟨f, hf⟩ := exec_eq_take other again { s with resetPin := true }
    rw [hf]
    exact State.take_asserted (s := { s with resetPin := true }) rfl f

/-- The close of an edit opened on an even page, at every port. -/
theorem State.closeEdits_openAll {s : State} (h : s.editsClosed) :
    ({ s with ports := Vector.ofFn fun p => (s.port p).openEdit } : State).closeEdits =
      { s with ports := Vector.ofFn fun p => (s.port p).edited } := by
  refine State.ext_ports rfl fun p => ?_
  rw [State.port_closeEdits, State.port_ofFn, State.port_ofFn, Port.closeEdit_openEdit (h p)]

/-- Settles O6. -/
theorem fillDoneEntersStopped : Obligations.FillDoneEntersStopped := by
  unfold Obligations.FillDoneEntersStopped
  intro s pin closed
  constructor
  · intro filling
    show s.take State.fillDone = _
    rw [State.take_released pin, State.fillDone, if_pos filling]
    exact congrArg Host.Outcome.next (State.closeEdits_openAll (s := { s with runState := .stopped }) closed)
  · intro h
    exact State.take_unchanged closed (by rw [State.fillDone, if_neg h])

/-- Settles O7. -/
theorem runStartsTheStoppedPart : Obligations.RunStartsTheStoppedPart := by
  unfold Obligations.RunStartsTheStoppedPart
  intro s pin closed
  have taken : exec .run s = s.take State.run := rfl
  rw [taken]
  constructor
  · intro stopped
    have e : s.run = ({ s with runState := .running, lock := true, divider := 0 } : State).readInterval := by
      rw [State.run, if_pos stopped]
    exact State.take_plain_eq pin closed e rfl
  · intro h
    exact State.take_unchanged closed (by rw [State.run, if_neg h])

/-! ### The end of stopping -/

/-- The four shares of STOP are complete (R161). -/
theorem State.sharesDone_iff (s : State) : s.sharesDone = true ↔
    (∀ p, (s.port p).status.state = .disabled ∧ (s.port p).jobs = []) ∧
      (∀ e, (s.engine e).meas = none ∧ s.grant e = none) ∧ (∀ q, s.claimed q = false) ∧ s.requests = [] ∧
      s.intakeQueue = [] := by
  simp only [State.sharesDone, Bool.and_eq_true, List.all_eq_true, List.mem_finRange, true_implies, decide_eq_true_eq,
    List.isEmpty_iff, Option.isNone_iff_eq_none, Bool.not_eq_true', and_assoc]

/-- Settles O9: a part at rest has its shares complete, and each of the other cases leaves one open. -/
theorem stopDoneEntersStopped : Obligations.StopDoneEntersStopped := by
  unfold Obligations.StopDoneEntersStopped
  intro s pin closed
  have taken : exec .stopDone s = s.take State.stopDone := rfl
  rw [taken]
  constructor
  · intro stopping rest
    have done : s.sharesDone = true :=
      s.sharesDone_iff.mpr ⟨fun p => ⟨(rest.ports p).1, (rest.ports p).2.2⟩, rest.engines, rest.claims, rest.requests,
        rest.queue.1⟩
    have e : s.stopDone = ({ s with runState := .stopped } : State).raiseGlobal .stopDone := by
      rw [State.stopDone, if_pos (by simp [stopping, done])]
    exact State.take_plain_eq pin closed e rfl
  · intro h
    refine State.take_unchanged closed ?_
    rw [State.stopDone, if_neg]
    intro c
    obtain ⟨stopping, done⟩ := Bool.and_eq_true_iff.mp c
    obtain ⟨ports, engines, claims, requests, queue⟩ := s.sharesDone_iff.mp done
    rcases h with h | h | h | ⟨e, h⟩ | ⟨q, h⟩ | ⟨p, h⟩
    · exact h (of_decide_eq_true stopping)
    · exact h requests
    · exact h queue
    · exact h.elim (fun h => h (engines e).1) (fun h => h (engines e).2)
    · rw [claims q] at h
      cases h
    · exact h.elim (fun h => h (ports p).1) (fun h => h (ports p).2)

/-! ### Host writes to registers -/

/-- Settles O10. -/
theorem timebaseWritableUntilLocked : Obligations.TimebaseWritableUntilLocked := by
  unfold Obligations.TimebaseWritableUntilLocked
  intro s v pin closed
  have e : s.writeTimebase v =
      if s.runState = .filling ∨ s.lock = true ∨ v = 0 then s else { s with divisor := v } := by
    simp only [State.writeTimebase, State.ifFilled, Bool.or_eq_true, decide_eq_true_eq]
    by_cases filling : s.runState = .filling
    · rw [if_pos filling, if_pos (.inl filling)]
    · simp only [filling, if_false, false_or]
  refine State.take_plain_eq (f := fun s => s.writeTimebase v) pin closed e ?_
  split_ifs <;> rfl

/-- A hand-in in RUNNING, judged by index, custody and queue (R137). -/
theorem State.handIn_running {s : State} (h : s.runState = .running) (c : CellNo) {v : Word}
    (hv : v = BitVec.ofNat 16 c.val) : s.handIn v =
      if s.custodyOf c ≠ .outside then s.refuseHandIn .duplicate
      else if 16 ≤ s.intakeQueue.length then s.refuseHandIn .overrun else s.acceptHandIn c := by
  have index : v.toNat = c.val := by
    have := c.isLt
    rw [hv, BitVec.toNat_ofNat]
    omega
  have isCell : v.toNat < 128 := by omega
  have named : (⟨v.toNat, isCell⟩ : CellNo) = c := Fin.ext index
  unfold State.handIn
  rw [h]
  dsimp only
  rw [dif_pos isCell, named]
  rfl

/-- Settles O11, by the checks of R137 in their order. -/
theorem handInIsJudged : Obligations.HandInIsJudged := by
  unfold Obligations.HandInIsJudged
  intro s v pin closed
  have answer : ∀ t : State, s.handIn v = t → t.ports = s.ports → exec (.handIn v) s = .next t := fun t e hp => by
    exact State.take_plain_eq (f := fun s => s.handIn v) pin closed e hp
  refine ⟨fun filling => answer _ ?_ rfl, fun h => answer (s.refuseHandIn .closed) ?_ rfl,
    fun running far => answer (s.refuseHandIn .badIndex) ?_ rfl, fun c running hv => ?_⟩
  · rw [State.handIn, filling]
  · rw [State.handIn]
    rcases h with h | h <;> rw [h]
  · have noCell : ¬ v.toNat < 128 := by omega
    rw [State.handIn, running]
    dsimp only
    rw [dif_neg noCell]
  · have judged := State.handIn_running running c hv
    refine ⟨fun held => answer (s.refuseHandIn .duplicate) ?_ rfl, fun free full => answer (s.refuseHandIn .overrun) ?_ rfl,
      fun free room => answer (s.acceptHandIn c) ?_ rfl⟩
    · rw [judged, if_pos held]
    · rw [judged, if_neg (not_not.mpr free), if_pos full]
    · rw [judged, if_neg (not_not.mpr free), if_neg (by omega)]

theorem State.ifFilled_filling {s : State} (h : s.runState = .filling) (f : State → State) : s.ifFilled f = s := by
  rw [State.ifFilled, if_pos h]

theorem State.ifFilled_filled {s : State} (h : s.runState ≠ .filling) (f : State → State) : s.ifFilled f = f s := by
  rw [State.ifFilled, if_neg h]

/-- Settles O12. -/
theorem statusClearAndEnableWrite : Obligations.StatusClearAndEnableWrite := by
  unfold Obligations.StatusClearAndEnableWrite
  intro s v pin closed
  have clear : exec (.intakeStatusClear v) s = s.take fun s => s.clearIntakeStatus v := rfl
  have enable : exec (.newsEnableWrite v) s = s.take fun s => s.writeNewsEnable v := rfl
  rw [clear, enable]
  refine ⟨fun filled => ?_, fun filled => ?_, fun filling => ⟨?_, ?_⟩⟩
  · exact State.take_plain_eq pin closed (State.ifFilled_filled filled _) rfl
  · exact State.take_plain_eq pin closed (State.ifFilled_filled filled _) rfl
  · exact State.take_unchanged closed (State.ifFilled_filling filling _)
  · exact State.take_unchanged closed (State.ifFilled_filling filling _)

/-- Settles O13: only a one to CAL_FAIL opens an edit, and that whether or not the page changes. -/
theorem newsClearClearsOnes : Obligations.NewsClearClearsOnes := by
  unfold Obligations.NewsClearClearsOnes
  intro s v p pin closed
  have taken : ∀ target, exec (.newsClear target v) s = s.take fun s => s.clearNews target v := fun _ => rfl
  simp only [taken]
  refine ⟨fun filling target => State.take_unchanged closed (State.ifFilled_filling filling _), fun filled => ⟨?_, ?_, ?_⟩⟩
  · exact State.take_plain_eq pin closed (State.ifFilled_filled filled _) rfl
  all_goals
    intro bit
    have e : s.clearNews (some p) v = s.updPort p fun x => x.clearNews v :=
      State.ifFilled_filled filled fun s => s.updPort p fun x => x.clearNews v
    rw [State.take_released pin, e]
    refine congrArg Host.Outcome.next ?_
  · have cleared : (s.port p).clearNews v =
        { s.port p with news := clearFlags (s.port p).news (v.extractLsb' 0 8) } := by
      rw [Port.clearNews, if_neg (by rw [show PortFlag.calFail.bit = 4 from rfl, bit]; exact Bool.false_ne_true)]
    rw [State.closeEdits_updPort_same closed (by rw [cleared]) (by rw [cleared]; exact Port.samePage_of_eq rfl rfl rfl rfl rfl),
      cleared]
    rfl
  · set y : Port := { s.port p with
      news := clearFlags (s.port p).news (v.extractLsb' 0 8), status := { (s.port p).status with failedSince := false } }
      with hy
    have cleared : (s.port p).clearNews v = y.openEdit := by
      rw [Port.clearNews, if_pos (show v.getLsbD PortFlag.calFail.bit = true from bit)]
    have even : y.editCount.getLsbD 0 = false := closed p
    rw [State.updPort_eq, cleared, Port.openEdit_openEdit, ite_self, State.closeEdits_setPort closed,
      Port.closeEdit_openEdit even]
    rfl

end Sys2Proof.Machine

namespace Sys2Proof.Machine

/-! ### Intake's entry (R139 to R148) -/

/-- What an abort of port p leaves of the places of cells: its job list, and all custody. -/
theorem State.freeSlab_port (s : State) (k : Option SlabNo) (p : PortNo) : (s.freeSlab k).port p = s.port p := by
  cases k <;> rfl

@[simp] theorem State.freeSlab_custody (s : State) (k : Option SlabNo) : (s.freeSlab k).custody = s.custody := by
  cases k <;> rfl

@[simp] theorem State.endGrant_custody (s : State) (e : EngineNo) : (s.endGrant e).custody = s.custody := by
  rw [State.endGrant]
  cases s.grant e <;> rfl

@[simp] theorem State.release_custody (s : State) (e : EngineNo) : (s.release e).custody = s.custody := by
  rw [State.release, State.applyGrantRule_frame]
  exact State.endGrant_custody _ e

@[simp] theorem State.writeReport_custody (s : State) (p : PortNo) (r : Report) :
    (s.writeReport p r).custody = s.custody := rfl

@[simp] theorem State.raisePort_jobs (s : State) (p q : PortNo) (f : PortFlag) :
    ((s.raisePort p f).port q).jobs = (s.port q).jobs := by
  rw [State.raisePort, State.port_setPort]
  split_ifs with h
  · rw [← h]
    rfl
  · rfl

theorem State.updPort_jobs (s : State) (p q : PortNo) {f : Port → Port} (h : (f (s.port p)).jobs = (s.port p).jobs) :
    ((s.updPort p f).port q).jobs = (s.port q).jobs := by
  by_cases hq : q = p
  · rw [hq, State.port_updPort_jobs, h]
  · rw [State.port_updPort_ne s hq]

theorem State.writeReport_jobs (s : State) (p q : PortNo) (r : Report) :
    ((s.writeReport p r).port q).jobs = (s.port q).jobs := by
  rw [State.writeReport, State.raisePort_jobs]
  exact State.updPort_jobs s p q (by rw [Port.openEdit_jobs])

theorem State.withdraw_jobs (s : State) (p q : PortNo) : ((s.withdraw p).port q).jobs = (s.port q).jobs := by
  refine State.updPort_jobs s p q ?_
  cases (s.port p).request <;> rfl

theorem State.abortEngine_places (s : State) (e : EngineNo) (flag : Option (BitVec 5)) :
    (s.abortEngine e flag).custody = s.custody ∧
      ∀ q, ((s.abortEngine e flag).port q).jobs = (s.port q).jobs := by
  rw [State.abortEngine]
  split
  · cases flag with
    | none => exact ⟨by simp, fun q => by simp [State.freeSlab_port]⟩
    | some f =>
      refine ⟨by simp, fun q => ?_⟩
      rw [State.release_port]
      exact (State.writeReport_jobs _ _ _ _).trans (by rw [State.freeSlab_port])
  · exact ⟨rfl, fun _ => rfl⟩

theorem State.abortPort_places (s : State) (p : PortNo) (flag : Option (BitVec 5)) :
    (s.abortPort p flag).custody = s.custody ∧ ∀ q, ((s.abortPort p flag).port q).jobs = (s.port q).jobs := by
  have h1 : ∀ q, ((s.updPort p Port.stopActivity).port q).jobs = (s.port q).jobs := fun q =>
    State.updPort_jobs s p q rfl
  rw [State.abortPort]
  split
  · obtain ⟨custody, jobs⟩ := (s.updPort p Port.stopActivity).abortEngine_places _ flag
    exact ⟨custody, fun q => (jobs q).trans (h1 q)⟩
  · exact ⟨rfl, fun q => (State.withdraw_jobs _ p q).trans (h1 q)⟩

theorem State.abortJob_places (s : State) (p : PortNo) (w : Work) :
    (s.abortJob p w).custody = s.custody ∧ ∀ q, ((s.abortJob p w).port q).jobs = (s.port q).jobs := by
  obtain ⟨custody, jobs⟩ := s.abortPort_places p (some flagCancelled)
  cases w with
  | train f =>
    exact ⟨custody, fun q => (State.updPort_jobs _ p q rfl).trans ((State.updPort_jobs _ p q rfl).trans (jobs q))⟩
  | diagnose r i => exact ⟨custody, jobs⟩
  | hold => exact ⟨rfl, fun _ => rfl⟩

/-- The copy intake takes of a cell has its parameters in range (R141). -/
theorem State.workOf_valid {s : State} {c : CellNo} {k : JobKind} {w : Work} (h : s.workOf c k = some w) :
    (∀ f, w = .train f → f.valid = true) ∧ ∀ r i, w = .diagnose r i → r.valid = true := by
  cases k with
  | train =>
    simp only [State.workOf, Option.ite_none_right_eq_some, Option.some.injEq] at h
    obtain ⟨valid, rfl⟩ := h
    exact ⟨fun f e => (Work.train.inj e) ▸ valid, nofun⟩
  | diagnose =>
    simp only [State.workOf, Option.ite_none_right_eq_some, Option.some.injEq] at h
    obtain ⟨valid, rfl⟩ := h
    exact ⟨nofun, fun r i e => (Work.diagnose.inj e).1 ▸ valid⟩
  | hold =>
    cases h
    exact ⟨nofun, nofun⟩
  | cancel => cases h

/-- The state in which job w of cell c has joined the list of port p, before any start (R142). -/
def State.joined (s : State) (p : PortNo) (c : CellNo) (w : Work) : State :=
  ((s.updPort p fun x => { x with jobs := x.jobs ++ [⟨c, s.cellTag c, w, s.tick⟩] }).writeCellState c
    .queued).setCustody c .listed

/-- Cell t, which waits in the queue, leaves it CANCELLED (R146). -/
def State.unqueued (s : State) (t : CellNo) : State :=
  ({ s with intakeQueue := s.intakeQueue.filter fun c => decide (c ≠ t) } : State).cancelCell t s.tick

/-- Cell t, which waits in the list of port p, leaves it CANCELLED (R146). -/
def State.unlisted (s : State) (p : PortNo) (t : CellNo) : State :=
  (s.updPort p fun x => { x with jobs := x.jobs.filter fun j => decide (j.cell ≠ t) }).cancelCell t s.tick

/-- The running cell t leaves the head of the list of port p CANCELLED (R147). -/
def State.unrun (s : State) (p : PortNo) (t : CellNo) (start : Ticks) (rest : List Job) : State :=
  (s.cancelCell t start).updPort p fun x => { x with jobs := rest, status := { x.status with running := none } }

/-- What intake's entry of cell c needs of a predicate P: `L` holds while intake has the cell, `WL p` inside an event of
port p then, and `W p` inside an event of port p with the cell in a list. -/
structure KeptIntake (B R : Prop) (W : PortNo → State → Prop) (P : State → Prop) (WL : PortNo → State → Prop)
    (L : State → Prop) (c : CellNo) : Prop where
  out : ∀ p, Lifts B R (W p) P p
  held : ∀ p, Lifts B R (WL p) L p
  global : ∀ {s : State} (f : GlobalFlag), P s → P (s.raiseGlobal f)
  globalHeld : ∀ {s : State} (f : GlobalFlag), L s → L (s.raiseGlobal f)
  ends : ∀ {s : State} (st : CellState) (out : JobOutcome) (why : Reason), L s → P (s.endCell c st out why s.tick)
  dropped : ∀ {s : State}, L s → P (({ s with intakeErrors := satInc s.intakeErrors } : State).setCustody c .outside)
  joins : ∀ {s : State} (p : PortNo) (w : Work), (∀ f, w = .train f → f.valid = true) →
    (∀ r i, w = .diagnose r i → r.valid = true) → (s.port p).jobs.length < 4 → L s → W p (s.joined p c w)
  unqueue : ∀ {s : State} (t : CellNo), s.custodyOf t = .intake → t ≠ c → L s → L (s.unqueued t)
  unlist : ∀ {s : State} (p : PortNo) (t : CellNo), s.custodyOf t = .listed → s.inList p t → L s →
    L (s.unlisted p t)
  unrun : ∀ {s : State} (p : PortNo) (t : CellNo) (j : Job) (rest : List Job), s.custodyOf t = .running →
    s.inList p t → (s.port p).jobs = j :: rest → WL p s → WL p (s.unrun p t j.start rest)

theorem State.inList_of_listPortOf {s : State} {t : CellNo} {p : PortNo} (h : s.listPortOf t = some p) :
    s.inList p t := by
  have found := List.find?_some h
  simpa using found

theorem State.targetOf_ne {s : State} {c t : CellNo} (h : s.targetOf c = some t) : t ≠ c := by
  unfold State.targetOf at h
  split_ifs at h with lt same
  injection h with h
  exact h ▸ same

namespace KeptIntake
variable {B R : Prop} {W WL : PortNo → State → Prop} {P L : State → Prop} {c : CellNo}
  (K : KeptIntake B R W P WL L c) {s : State}
include K

theorem news (p : Option PortNo) (h : P s) : P (s.cellNews p) := by
  cases p with
  | none => exact K.global _ h
  | some p => exact (K.out p).outer.raisePort p _ h

theorem newsHeld (p : Option PortNo) (h : L s) : L (s.cellNews p) := by
  cases p with
  | none => exact K.globalHeld _ h
  | some p => exact (K.held p).outer.raisePort p _ h

/-- The running job's share of its own cancel (R147 step 1). -/
theorem abortJob (p : PortNo) (w : Work) (h : WL p s) : WL p (s.abortJob p w) := by
  cases w with
  | train f => exact (K.held p).removeProfile_enterDisabled ((K.held p).abortPort _ h)
  | diagnose r i => exact (K.held p).abortPort _ h
  | hold => exact h

theorem cancelRunning (p : PortNo) (t : CellNo) (running : s.custodyOf t = .running) (listed : s.inList p t)
    (h : L s) : L (s.cancelRunning p t) := by
  cases hj : (s.port p).jobs with
  | nil =>
    rw [State.cancelRunning, hj]
    exact h
  | cons j rest =>
    obtain ⟨custody, jobs⟩ := s.abortJob_places p j.work
    have running' : (s.abortJob p j.work).custodyOf t = .running := by
      rw [State.custodyOf, custody]
      exact running
    have listed' : (s.abortJob p j.work).inList p t := by
      rw [State.inList, jobs p]
      exact listed
    have h1 : WL p ((s.abortJob p j.work).unrun p t j.start rest) :=
      K.unrun p t j rest running' listed' ((jobs p).trans hj) (K.abortJob p j.work ((K.held p).weaken h))
    have h2 : WL p (((s.abortJob p j.work).unrun p t j.start rest).cellNews (some p)) :=
      (K.held p).plain.raisePort p _ h1
    have e : s.cancelRunning p t =
        (((((s.abortJob p j.work).unrun p t j.start rest).cellNews (some p)).resumeAfter p j.work).startJobs p) := by
      rw [State.cancelRunning, hj]
      rfl
    rw [e]
    refine (K.held p).starts ?_
    generalize ((s.abortJob p j.work).unrun p t j.start rest).cellNews (some p) = s2 at h2 ⊢
    cases j.work with
    | train f => exact h2
    | diagnose r i => exact (K.held p).resume h2
    | hold => exact h2

theorem cancelOutside (t : CellNo) (h : L s) : P (s.cancelOutside c t) := by
  rw [State.cancelOutside]
  split_ifs
  · exact K.news _ (K.ends _ _ _ h)
  · exact K.global _ (K.news _ (K.ends _ _ _ h))

theorem cancel (t : CellNo) (other : t ≠ c) (h : L s) : P (s.cancel c t) := by
  unfold State.cancel
  split
  · rename_i held
    exact K.news _ (K.ends _ _ _ (K.newsHeld _ (K.unqueue t held other h)))
  · rename_i held port
    exact K.news _ (K.ends _ _ _ (K.newsHeld _ (K.unlist _ t held (State.inList_of_listPortOf port) h)))
  · rename_i held port
    exact K.news _ (K.ends _ _ _ (K.cancelRunning _ t held (State.inList_of_listPortOf port) h))
  · exact K.cancelOutside t h
  · exact K.cancelOutside t h
  · exact K.cancelOutside t h

theorem judgeJob (k : JobKind) (p : PortNo) (h : L s) : P (s.judgeJob c k p) := by
  unfold State.judgeJob
  split
  · exact (K.out p).outer.raisePort p _ (K.ends _ _ _ h)
  · rename_i w hw
    obtain ⟨train, diagnose⟩ := State.workOf_valid hw
    split_ifs with full
    · exact (K.out p).outer.raisePort p _ (K.ends _ _ _ h)
    · exact (K.out p).starts (K.joins p w train diagnose (by simpa [Config.listDepth] using full) h)

theorem judge (h : L s) : P (s.judge c) := by
  unfold State.judge
  split
  · rename_i p _ _
    exact (K.out p).outer.raisePort p _ (K.global _ (K.ends _ _ _ h))
  · exact K.global _ (K.ends _ _ _ h)
  · unfold State.judgeCancel
    split
    · exact K.global _ (K.ends _ _ _ h)
    · rename_i t ht
      exact K.cancel t (State.targetOf_ne ht) h
  · exact K.global _ (K.ends _ _ _ h)
  · exact K.judgeJob _ _ h

theorem entry (h : L s) : P (if s.cellWord c 0 = CellState.ready.code then s.judge c else s.notReady c) := by
  split_ifs
  · exact K.judge h
  · exact K.global _ (K.dropped h)

end KeptIntake

/-- Intake's entry, by what the queue holds. -/
theorem State.intakeTake_nil {s : State} (h : s.intakeQueue = []) : s.intakeTake = s := by
  rw [State.intakeTake, h]

theorem State.intakeTake_cons {s : State} {c : CellNo} {rest : List CellNo} (h : s.intakeQueue = c :: rest) :
    s.intakeTake = if s.cellWord c 0 = CellState.ready.code then ({ s with intakeQueue := rest } : State).judge c
      else ({ s with intakeQueue := rest } : State).notReady c := by
  rw [State.intakeTake, h]
  rfl

end Sys2Proof.Machine

namespace Sys2Proof.Machine

/-! ### Predicates that do not look where cells are

Such a predicate is kept by every command as soon as each change of a port, and each move of the arbiter, keeps it. -/

/-- One change of a port, of those that every operation is built of. -/
inductive Port.Step (B R : Prop) : Port → Port → Prop
  | plain {x y : Port} : x.SameCore y → y.status.state = x.status.state → Port.Step B R x y
  | enter {x y : Port} : x.SameCore y → y.status.state ≠ .disabled →
      (B → x.profile ≠ none ∨ y.status.state = .probe) → Port.Step B R x y
  | retire {x y : Port} : x.Retires y → Port.Step B R x y
  | record (x : Port) (tick : Ticks) (down : Option DownReason) : Port.Step B R x (x.writeRecord tick down)
  | charge (x : Port) (r : Rate) : Port.Step B R x (x.charge r)
  | ask (x : Port) (k : ReqKind) : (R → k.inRange) →
      Port.Step B R x { x with request := some k, outbox := x.outbox ++ [.request k] }
  | transition (x : Port) (rising : Bool) (n : Nat) : Port.Step B R x (x.takeTransition rising n)
  | seed (x : Port) : Port.Step B R x { x with seedGen := seedStep x.seedGen }
  | relist (x : Port) (jobs : List Job) (c : Option CellNo) :
      (∀ j ∈ jobs, ∃ k ∈ x.jobs, k.work = j.work) →
      Port.Step B R x { x with jobs := jobs, status := { x.status with running := c } }
  | join (x : Port) (j : Job) : (B → ∀ f, j.work = .train f → f.valid = true) →
      (R → ∀ r i, j.work = .diagnose r i → r.valid = true) → Port.Step B R x { x with jobs := x.jobs ++ [j] }

/-- Changes of a port one after another. -/
abbrev Port.Steps (B R : Prop) : Port → Port → Prop := Relation.ReflTransGen (Port.Step B R)

theorem Port.Steps.openEdit {B R : Prop} {x y : Port} (h : Port.Steps B R x y) : Port.Steps B R x y.openEdit :=
  h.tail (.plain (Port.SameCore.of_eq rfl rfl rfl).openEdit (by simp))

/-- A tick of a port is the step of its seed generator, and changes that no invariant speaks of (R158). -/
theorem Port.tick_steps (B R : Prop) (x : Port) : Port.Steps B R x x.tick := by
  refine Relation.ReflTransGen.tail (.single (.seed x)) (.plain ?_ ?_)
  · unfold Port.tick Port.addUnlockTick
    dsimp only
    split_ifs <;> exact .of_eq rfl rfl rfl
  · unfold Port.tick Port.addUnlockTick
    dsimp only
    split_ifs <;> rfl

/-- t is s but for the places of cells, counts and flags that no such predicate speaks of. -/
structure State.SameParts (s t : State) : Prop where
  pending : t.pending = s.pending
  mem : t.mem = s.mem
  ports : t.ports = s.ports
  engines : t.engines = s.engines
  grants : t.grants = s.grants
  claims : t.claims = s.claims
  requests : t.requests = s.requests
  ready : t.ready = s.ready
  runState : t.runState = s.runState

/-- P does not look where cells are, and is kept by the changes that the operations of a port are built of, but for the
start of a TRAIN job. `B` asks that it knows of each port whether it has a profile, `R` that recipes are in range. -/
structure CellBlindBase (B R : Prop) (P : State → Prop) : Prop where
  sees : ∀ {s t : State}, P s → s.SameParts t → P t
  write : ∀ {s : State} (a : Nat) (v : Word), a < 32768 → P s → P (s.writeMem a v)
  port : ∀ {s : State} (q : PortNo) (y : Port), Port.Steps B R (s.port q) y → P s → P (s.setPort q y)
  all : ∀ {s : State} (f : PortNo → Port), (∀ p, Port.Steps B R (s.port p) (f p)) → P s →
    P { s with ports := Vector.ofFn f }
  release : ∀ {s : State} (e : EngineNo) (m : Measurement), (s.engine e).meas = some m → P s → P (s.release e)
  hasProfile : ∀ {s : State} (p : PortNo), B → P s → (s.port p).status.state ≠ .disabled →
    (s.port p).status.state ≠ .probe → (s.port p).profile ≠ none

/-- P does not look where cells are, and is kept by every change that commands are built of. -/
structure CellBlind (B R : Prop) (P : State → Prop) : Prop extends CellBlindBase B R P where
  train : ∀ {s : State} (p : PortNo) (f : Profile), (B → f.valid = true) → P s → P (s.startTrain p f)
  trainOk : ∀ {s : State} (p : PortNo) (j : Job) (f : Profile), B → P s → j ∈ (s.port p).jobs → j.work = .train f →
    f.valid = true
  recipeOk : ∀ {s : State} (p : PortNo) (j : Job) (r : Recipe) (i : Bool), R → P s → j ∈ (s.port p).jobs →
    j.work = .diagnose r i → r.valid = true
  measure : ∀ {s : State} (e : EngineNo) (m m' : Measurement), (s.engine e).meas = some m → m'.holder = m.holder →
    m'.recipe = m.recipe → m'.filling = m.filling ∨ m'.filling = none → P s →
    P (s.setEngine e { s.engine e with meas := some m' })
  fill : ∀ {s : State} (e : EngineNo) (m : Measurement) (k : SlabNo), (s.engine e).meas = some m →
    s.lowestFreeSlab = some k → P s →
    P ((s.writeMem (ownerAddr k) ownerFilling).setEngine e { s.engine e with meas := some { m with filling := some k } })
  enginesTick : ∀ {s : State}, P s → P { s with engines := Vector.ofFn fun e => (s.engine e).tick }
  load : ∀ {s : State} (e : EngineNo) (g : Grant), s.grantStands e g → s.loadCheck g.request.kind = true →
    s.runState = .running → P s → P (s.loading e g)
  fault : ∀ (e : EngineNo) (p : PortNo), ∃ Qw Qp, Finishing P P Qw Qp p e ∧
    ∀ {s : State} (g : Grant), s.grantStands e g → g.request.port = p → s.runState = .running → P s →
      Qp ((s.loading e g).raiseGlobal .recipeFault)
  returning : ∀ {s : State} (e : EngineNo) (g : Grant), s.grantStands e g → s.runState = .running → P s →
    P (s.returning e g).applyGrantRule
  takeRequest : ∀ {s : State} (p : PortNo), s.runState = .running → P s → P (s.takeRequest p)
  takeWithdrawal : ∀ {s : State} (p : PortNo), s.runState = .running → P s → P (s.takeWithdrawal p)
  raiseWatch : ∀ {s : State} (p : PortNo), s.runState = .running → P s → P (s.raiseWatch p)
  falls : ∀ {s : State} (q : QuadNo), P s → P (s.setReady q false)
  rises : ∀ {s : State} (q : QuadNo), s.runState ≠ .running → P s → P (s.setReady q true)
  risesRunning : ∀ {s : State} (q : QuadNo), s.runState = .running → P s → P (s.setReady q true).applyGrantRule
  filled : ∀ {s : State}, s.runState = .filling → P s → P { s with runState := .stopped }
  run : ∀ {s : State}, s.runState = .stopped → P s → P { s with runState := .running }
  stopDone : ∀ {s : State}, s.runState = .stopping → P s → P { s with runState := .stopped }

@[simp] theorem State.endCell_port (s : State) (c : CellNo) (st : CellState) (out : JobOutcome) (why : Reason)
    (start : Ticks) (p : PortNo) : (s.endCell c st out why start).port p = s.port p := by
  simp only [State.endCell_eq, State.setCustody_port, State.writeMem_port]

namespace CellBlindBase
variable {B R : Prop} {P : State → Prop} (U : CellBlindBase B R P) {s : State}
include U

/-- What is not spoken of may be anything. -/
theorem blind {t : State} (h : P s) (pending : t.pending = s.pending := by rfl) (mem : t.mem = s.mem := by rfl)
    (ports : t.ports = s.ports := by rfl) (engines : t.engines = s.engines := by rfl)
    (grants : t.grants = s.grants := by rfl) (claims : t.claims = s.claims := by rfl)
    (requests : t.requests = s.requests := by rfl) (ready : t.ready = s.ready := by rfl)
    (runState : t.runState = s.runState := by rfl) : P t :=
  U.sees h ⟨pending, mem, ports, engines, grants, claims, requests, ready, runState⟩

theorem upd (p : PortNo) {f : Port → Port} (steps : Port.Steps B R (s.port p) (f (s.port p))) (h : P s) :
    P (s.updPort p f) := by
  rw [State.updPort_eq]
  split_ifs
  · exact U.port p _ steps h
  · exact U.port p _ steps.openEdit h

theorem plain : KeepsPlain P where
  port := fun q _ same st h => U.port q _ (.single (.plain same st)) h

theorem endCell (c : CellNo) (st : CellState) (out : JobOutcome) (why : Reason) (start : Ticks) (h : P s) :
    P (s.endCell c st out why start) := by
  have hc := c.isLt
  have base : cellBase c = 0x0400 + 32 * c.val := rfl
  rw [State.endCell_eq]
  have h1 := U.write (cellBase c + 3) (packWord [(8, out.code), (0, why.code)]) (by omega) h
  have h2 := U.write (cellBase c + 4) (highWord start) (by omega) h1
  have h3 := U.write (cellBase c + 5) (lowWord start) (by omega) h2
  have h4 := U.write (cellBase c + 6) (highWord s.tick) (by omega) h3
  have h5 := U.write (cellBase c + 7) (lowWord s.tick) (by omega) h4
  have h6 := U.write (cellBase c) st.code (by omega) h5
  exact U.blind h6

theorem writeTicks {a : Nat} (t : Ticks) (ha : a + 1 < 32768) (h : P s) : P (s.writeTicks a t) :=
  U.write _ _ ha (U.write _ _ (by omega) h)

theorem writeCellState (c : CellNo) (st : CellState) (h : P s) : P (s.writeCellState c st) := by
  have := c.isLt
  exact U.write _ _ (by unfold cellBase; omega) h

theorem freeOwner (k : SlabNo) (v : Word) (h : P s) : P (s.writeMem (ownerAddr k) v) := by
  have := k.isLt
  exact U.write _ _ (by unfold ownerAddr; omega) h

theorem headBegun (p : PortNo) (j : Job) (rest : List Job) (hj : (s.port p).jobs = j :: rest) (h : P s) :
    P (s.headBegun p j rest) := by
  have hc := j.cell.isLt
  have h1 : P ((s.writeTicks (cellBase j.cell + 4) s.tick).writeCellState j.cell .running) :=
    U.writeCellState _ _ (U.writeTicks _ (by unfold cellBase; omega) h)
  have h2 : P (((s.writeTicks (cellBase j.cell + 4) s.tick).writeCellState j.cell .running).setCustody j.cell
      .running) := U.blind h1
  refine U.upd p (.single (.relist _ _ _ ?_)) h2
  intro k hk
  show ∃ i ∈ (s.port p).jobs, i.work = k.work
  rw [hj]
  rcases List.mem_cons.mp hk with rfl | hk
  · exact ⟨j, List.mem_cons_self, rfl⟩
  · exact ⟨k, List.mem_cons_of_mem _ hk, rfl⟩

theorem endJob (p : PortNo) (out : JobOutcome) (h : P s) : P (s.endJob p out) := by
  cases hj : (s.port p).jobs with
  | nil =>
    rw [State.endJob_nil hj]
    exact h
  | cons j rest =>
    rw [State.endJob_cons hj]
    refine U.plain.raisePort p _ (U.upd p (.single (.relist _ _ _ fun k hk => ⟨k, ?_, rfl⟩)) (U.endCell _ _ _ _ _ h))
    rw [State.endCell_port, hj]
    exact List.mem_cons_of_mem _ hk

theorem base (p : PortNo) : KeptBase B R P p where
  plain := U.plain
  enter := fun _ same st prof h => U.port p _ (.single (.enter same st prof)) h
  record := fun tick down h => U.port p _ (.single (.record _ tick down)) h
  charge := fun r h => U.port p _ (.single (.charge _ r)) h
  ask := fun k hk h => U.port p _ (.single (.ask _ k hk)) h
  transition := fun rising n h => U.port p _ (.single (.transition _ rising n)) h
  endJob := fun out h => U.endJob p out h
  begin := fun j rest hj _ h => U.headBegun p j rest hj h
  free := fun k h => U.freeOwner k _ h
  release := fun e m hm _ h => U.release e m hm h
  hasProfile := fun b h => U.hasProfile p b h

end CellBlindBase

namespace CellBlind
variable {B R : Prop} {P : State → Prop} (U : CellBlind B R P) {s : State}
include U

theorem kept (p : PortNo) : Kept B R P p :=
  { U.base p with
    retire := fun _ retires h => U.port p _ (.single (.retire retires)) h
    train := fun f hf h => U.train p f hf h
    trainOk := fun j f b h hj hw => U.trainOk p j f b h hj hw
    recipeOk := fun j r i b h hj hw => U.recipeOk p j r i b h hj hw }

theorem lifts (p : PortNo) : Lifts B R P P p := (U.kept p).lifts

theorem finishing (p : PortNo) (e : EngineNo) : Finishing P P P P p e where
  plain := U.plain
  weaken := id
  endJob := fun out h => U.endJob p out h
  measure := fun m m' => U.measure e m m'
  released := fun m hm _ h => U.release e m hm h
  releasedOut := fun m hm _ h => U.release e m hm h

theorem measuring : KeepsMeasuring P where
  write := U.write
  measure := U.measure
  fill := U.fill
  global := fun _ h => U.blind h
  freeValue := fun _ h => U.blind h

theorem intake (c : CellNo) : KeptIntake B R (fun _ => P) P (fun _ => P) P c where
  out := U.lifts
  held := U.lifts
  global := fun _ h => U.blind h
  globalHeld := fun _ h => U.blind h
  ends := fun _ _ _ h => U.endCell _ _ _ _ _ h
  dropped := fun h => U.blind h
  joins := fun {s} p w train diagnose _ h =>
    U.blind (s := (s.updPort p fun x =>
        { x with jobs := x.jobs ++ [⟨c, s.cellTag c, w, s.tick⟩] }).writeCellState c .queued)
      (U.writeCellState _ _ (U.upd p (.single (.join _ _ (fun _ => train) fun _ => diagnose)) h))
  unqueue := fun {s} t _ _ h => U.endCell _ _ _ _ _
    (U.blind (t := { s with intakeQueue := s.intakeQueue.filter fun c => decide (c ≠ t) }) h)
  unlist := fun p t _ _ h => U.endCell _ _ _ _ _
    (U.upd p (.single (.relist _ _ _ fun k hk => ⟨k, List.mem_of_mem_filter hk, rfl⟩)) h)
  unrun := fun p t j rest _ _ hj h =>
    U.upd p (.single (.relist _ _ _ fun k hk => ⟨k, by
      rw [State.cancelCell, State.endCell_port, hj]
      exact List.mem_cons_of_mem _ hk, rfl⟩)) (U.endCell _ _ _ _ _ h)

theorem intakeTake (h : P s) : P s.intakeTake := by
  cases hq : s.intakeQueue with
  | nil =>
    rw [State.intakeTake_nil hq]
    exact h
  | cons c rest =>
    rw [State.intakeTake_cons hq]
    exact (U.intake c).entry (s := { s with intakeQueue := rest }) (U.blind h)

theorem watchTick (h : P s) : P s.watchTick := by
  unfold State.watchTick
  split_ifs <;> exact U.blind h

/-- A tick at every block but intake (R158). -/
theorem tickBlocks (h : P s) : P s.tickBlocks := by
  have h1 : P { s with ports := Vector.ofFn fun p => (s.port p).tick } :=
    U.all _ (fun p => Port.tick_steps B R _) h
  have h2 : P { s with ports := Vector.ofFn fun p => (s.port p).tick, engines := Vector.ofFn fun e => (s.engine e).tick } := by
    have h2 := U.enginesTick h1
    simp only [State.engine] at h2 ⊢
    exact h2
  exact U.watchTick (s := { s with
    tick := s.tick + 1, divider := 0, ports := Vector.ofFn fun p => (s.port p).tick
    engines := Vector.ofFn fun e => (s.engine e).tick }) (U.blind h2)

theorem closeEdits (h : P s) : P s.closeEdits :=
  U.all _ (fun _ => .single (.plain (.of_eq (by rw [Port.closeEdit_eq]; rfl) (by rw [Port.closeEdit_eq])
    (by rw [Port.closeEdit_eq])) (by rw [Port.closeEdit_eq]))) h

theorem openEdits (h : P s) : P { s with ports := Vector.ofFn fun p => (s.port p).openEdit } :=
  U.all _ (fun _ => .single (.plain (Port.SameCore.of_eq rfl rfl rfl).openEdit (by simp))) h

theorem machine : KeptMachine B R (fun _ => P) P :=
  { U.measuring with
    lifts := U.lifts
    finishing := U.finishing
    misc := fun same h => by
      rw [same]
      exact U.blind h
    close := U.closeEdits
    load := U.load
    fault := U.fault
    returning := U.returning
    takeRequest := U.takeRequest
    takeWithdrawal := U.takeWithdrawal
    raiseWatch := U.raiseWatch
    falls := U.falls
    rises := U.rises
    risesRunning := U.risesRunning
    blocks := fun _ h => U.blind (U.tickBlocks h)
    entry := fun _ h => U.intakeTake (U.blind h)
    handIn := fun _ _ _ _ h => U.blind h
    fillDone := fun {s} filling h =>
      U.filled (s := { s with ports := Vector.ofFn fun p => (s.port p).openEdit }) filling (U.openEdits h)
    run := U.run
    postWatch := fun p h => (U.base p).post_watch h
    stopDone := U.stopDone }

/-! #### STOP (R161) -/

theorem stopList (p : PortNo) (h : P s) : P (s.stopList p) := by
  have h1 : P (s.forEach (s.port p).jobs fun s j => s.stopJob p j) :=
    State.forEach_keeps P _ (fun t j ht => U.plain.raisePort p _ (U.endCell _ _ _ _ _ ht)) _ h
  exact U.upd p (.single (.relist _ _ _ fun _ hk => absurd hk List.not_mem_nil)) h1

theorem stopIntake (h : P s) : P s.stopIntake := by
  have h1 : P (s.forEach s.intakeQueue fun s c => s.stopCell c s.tick) :=
    State.forEach_keeps P _ (fun t c ht => U.endCell _ _ _ _ _ ht) _ h
  exact State.forEach_keeps P State.stopList (fun t p ht => U.stopList p ht) _ (U.blind h1)

/-- STOP keeps P where it keeps the change of the run state and what it does with the arbiter. -/
theorem stop (stopping : ∀ {s : State}, P s → P { s with runState := .stopping, requests := [] })
    (turnBack : ∀ {s : State} (e : EngineNo), P s → P (s.turnBack e)) (h : P s) : P s.stop := by
  refine U.stopIntake (State.forEach_keeps P State.stopPort (fun _ p ht => (U.kept p).stopPort ht) (List.finRange 48) ?_)
  refine State.forEach_keeps P State.stopGrant (fun t e ht => ?_) _ (U.blind (stopping h))
  unfold State.stopGrant
  split
  · split_ifs
    · exact ht
    · exact turnBack e ht
  · exact ht

end CellBlind
end Sys2Proof.Machine

namespace Sys2Proof.Machine

/-- The port with the profile and the sets of a TRAIN job (R15). -/
def Port.trained (x : Port) (f : Profile) : Port :=
  { x with
    profile := some f
    status := { x.status with offerSet := f.allowed, qualSet := RateSet.all,
                              failCounts := Vector.replicate 4 0, attempts := 0, downshifts := 0 } }

theorem State.startTrain_eq (s : State) (p : PortNo) (f : Profile) : s.startTrain p f =
    (((if (s.port p).status.state = .linked then s.dropLink p .retrainRequested else s).abortPort p none).updPort p
      fun x => x.trained f).beginSequence p false := rfl

/-- What keeps the change to the profile of a TRAIN job keeps its start. -/
theorem KeptBase.startTrain {B R : Prop} {P : State → Prop} {p : PortNo} (K : KeptBase B R P p) (f : Profile)
    (set : ∀ {s : State}, P s → P (s.updPort p fun x => x.trained f)) {s : State} (h : P s) :
    P (s.startTrain p f) := by
  have h1 : P (if (s.port p).status.state = .linked then s.dropLink p .retrainRequested else s) := by
    split_ifs
    · exact K.dropLink _ h
    · exact h
  rw [State.startTrain_eq]
  exact K.beginSequence _ (fun _ => by rw [State.port_updPort_profile]; exact nofun) (set (K.abortPort none h1))

/-! ### Predicates on work memory and on each port

A predicate that speaks of work memory and of each port by itself, and of no place of a cell, engine or grant. -/

/-- P speaks of the queue of commands, of work memory and of each port by itself. -/
structure Placeless (B : Prop) (P : State → Prop) : Prop where
  sees : ∀ {s t : State}, P s → t.pending = s.pending → t.mem = s.mem → t.ports = s.ports → P t
  write : ∀ {s : State} (a : Nat) (v : Word), a < 32768 → P s → P (s.writeMem a v)
  port : ∀ {s : State} (q : PortNo) (y : Port), Port.Steps B False (s.port q) y → P s → P (s.setPort q y)
  all : ∀ {s : State} (f : PortNo → Port), (∀ p, Port.Steps B False (s.port p) (f p)) → P s →
    P { s with ports := Vector.ofFn f }
  reset : ∀ {s : State} (levels : BitVec 12), P s → P (s.pinReset levels)
  trainOk : ∀ {s : State} (p : PortNo) (j : Job) (f : Profile), B → P s → j ∈ (s.port p).jobs → j.work = .train f →
    f.valid = true
  hasProfile : ∀ {s : State} (p : PortNo), B → P s → (s.port p).status.state ≠ .disabled →
    (s.port p).status.state ≠ .probe → (s.port p).profile ≠ none

/-- Such a predicate that the start of a TRAIN job keeps too. -/
structure Unplaced (B : Prop) (P : State → Prop) : Prop extends Placeless B P where
  train : ∀ {s : State} (p : PortNo) (f : Profile), (B → f.valid = true) → P s → P (s.startTrain p f)

namespace Placeless
variable {B : Prop} {P : State → Prop} (U : Placeless B P) {s : State}
include U

theorem grantRule (h : P s) : P s.applyGrantRule := by
  rw [State.applyGrantRule_frame]
  exact U.sees h rfl rfl rfl

theorem endGrant (e : EngineNo) (h : P s) : P (s.endGrant e) := by
  rw [State.endGrant]
  split
  · exact U.sees h rfl rfl rfl
  · exact h

theorem turnBack (e : EngineNo) (h : P s) : P (s.turnBack e) :=
  U.sees (U.endGrant e h) rfl rfl rfl

theorem release (e : EngineNo) (h : P s) : P (s.release e) :=
  U.grantRule (U.endGrant e (U.sees (t := s.setEngine e { s.engine e with meas := none }) h rfl rfl rfl))

theorem cellBlindBase : CellBlindBase B False P where
  sees := fun h same => U.sees h same.pending same.mem same.ports
  write := U.write
  port := U.port
  all := U.all
  release := fun e _ _ h => U.release e h
  hasProfile := U.hasProfile

theorem loading (e : EngineNo) (g : Grant) (h : P s) : P (s.loading e g) :=
  U.cellBlindBase.plain.upd g.request.port ⟨rfl, .inr rfl, fun _ hk => hk⟩ rfl
    (U.sees (t := (s.setGrant e (some { g with accepted := true })).setEngine e
      { s.engine e with meas := some (s.loaded g.request.port g.request.kind) }) h rfl rfl rfl)

theorem messageTaken (p : PortNo) (rest : List PortMsg) (sub : ∀ m ∈ rest, m ∈ (s.port p).outbox) (h : P s) :
    P (s.setPort p { s.port p with outbox := rest }) :=
  U.port p _ (.single (.plain ⟨rfl, ⟨.inl rfl, fun _ hk => sub _ hk⟩⟩ rfl)) h

theorem takeRequest (p : PortNo) (h : P s) : P (s.takeRequest p) := by
  unfold State.takeRequest
  split
  · rename_i k rest hout
    exact U.grantRule (U.sees (U.messageTaken p rest (fun m hm => hout ▸ List.mem_cons_of_mem _ hm) h) rfl rfl rfl)
  · exact h

theorem takeWithdrawal (p : PortNo) (h : P s) : P (s.takeWithdrawal p) := by
  unfold State.takeWithdrawal
  split
  · rename_i rest hout
    have h1 := U.messageTaken p rest (fun m hm => hout ▸ List.mem_cons_of_mem _ hm) h
    dsimp only
    split_ifs
    · exact U.grantRule (U.sees h1 rfl rfl rfl)
    · split
      · exact U.grantRule (U.turnBack _ h1)
      · exact h1
  · exact h

end Placeless

namespace Unplaced
variable {B : Prop} {P : State → Prop} (U : Unplaced B P) {s : State}
include U

theorem cellBlind : CellBlind B False P :=
  { U.cellBlindBase with
    train := U.train
    trainOk := U.trainOk
    recipeOk := fun _ _ _ _ r => r.elim
    measure := fun _ _ _ _ _ _ _ h => U.sees h rfl rfl rfl
    fill := fun _ _ k _ _ h => U.sees (U.cellBlindBase.freeOwner k ownerFilling h) rfl rfl rfl
    enginesTick := fun h => U.sees h rfl rfl rfl
    load := fun e g _ _ _ h => U.loading e g h
    fault := fun e p => ⟨P, P,
      { plain := U.cellBlindBase.plain
        weaken := id
        endJob := fun out h => U.cellBlindBase.endJob p out h
        measure := fun _ _ _ _ _ _ h => U.sees h rfl rfl rfl
        released := fun _ _ _ h => U.release e h
        releasedOut := fun _ _ _ h => U.release e h },
      fun g _ _ _ h => U.sees (U.loading e g h) rfl rfl rfl⟩
    returning := fun e _ _ _ h => U.grantRule (U.sees (U.turnBack e h) rfl rfl rfl)
    takeRequest := fun p _ h => U.takeRequest p h
    takeWithdrawal := fun p _ h => U.takeWithdrawal p h
    raiseWatch := fun {s} p _ h => by
      rw [State.raiseWatch]
      split_ifs
      · exact h
      · exact U.sees h rfl rfl rfl
    falls := fun _ h => U.sees h rfl rfl rfl
    rises := fun _ _ h => U.sees h rfl rfl rfl
    risesRunning := fun q _ h => U.grantRule (U.sees (t := State.setReady _ q true) h rfl rfl rfl)
    filled := fun _ h => U.sees h rfl rfl rfl
    run := fun _ h => U.sees h rfl rfl rfl
    stopDone := fun _ h => U.sees h rfl rfl rfl }

/-! #### STOP -/

theorem stop (h : P s) : P s.stop :=
  U.cellBlind.stop (fun h => U.sees h rfl rfl rfl) (fun e h => U.turnBack e h) h

/-- What a predicate without places keeps of each change, it keeps of each command. -/
theorem exec {c : Instr} (h : P s) {t : State} (e : exec c s = .next t) : P t :=
  U.cellBlind.machine.exec c (fun levels _ => U.reset levels h) (fun _ _ _ => U.stop h) h e

theorem step (pop : ∀ {s : State} (rest : List Instr), P s → P { s with pending := rest }) (h : P s) {t : State}
    (e : Machine.step s = .next t) : P t :=
  U.cellBlind.machine.step pop (fun levels h => U.reset levels h) (fun _ _ h => U.stop h) h e

end Unplaced

/-! ### The queue of commands and work memory -/

theorem pending_placeless (l : List Instr) : Placeless False fun s => s.pending = l where
  sees := fun h e _ _ => e.trans h
  write := fun _ _ _ h => h
  port := fun _ _ _ h => h
  all := fun _ _ h => h
  reset := fun _ h => h
  trainOk := fun _ _ _ b => b.elim
  hasProfile := fun _ b => b.elim

theorem pending_unplaced (l : List Instr) : Unplaced False fun s => s.pending = l :=
  { pending_placeless l with train := fun p f _ h => ((pending_placeless l).cellBlindBase.base p).startTrain f (fun h => h) h }

theorem memOk_placeless : Placeless False State.memOk where
  sees := fun h _ e _ => by
    rw [State.memOk, e]
    exact h
  write := fun _ v ha h => State.memOk_writeMem h v ha
  port := fun _ _ _ h => h
  all := fun _ _ h => h
  reset := fun _ _ => rfl
  trainOk := fun _ _ _ b => b.elim
  hasProfile := fun _ b => b.elim

theorem memOk_unplaced : Unplaced False State.memOk :=
  { memOk_placeless with train := fun p f _ h => (memOk_placeless.cellBlindBase.base p).startTrain f (fun h => h) h }

/-- Settles O3: every command is a `take` or one of the reset pin's two, and no change that commands are built of
touches the queue. -/
theorem everyCommandCompletes : Obligations.EveryCommandCompletes := by
  unfold Obligations.EveryCommandCompletes
  intro c s
  have completes : ∃ t, exec c s = .next t := by
    by_cases reset : (∃ levels, c = .pinReset levels) ∨ c = .resetPinAsserted
    · rcases reset with ⟨levels, rfl⟩ | rfl <;> exact ⟨_, rfl⟩
    · rw [not_or, not_exists] at reset
      obtain ⟨f, hf⟩ := exec_eq_take reset.1 reset.2 s
      exact ⟨_, hf⟩
  obtain ⟨t, ht⟩ := completes
  exact ⟨t, ht, (pending_unplaced s.pending).exec rfl ht⟩

/-! ### What each port keeps by itself -/

/-- Q is kept by each change of a port, and by the profile of a TRAIN job. -/
structure KeptOnPort (B : Prop) (Q : Port → Prop) : Prop where
  step : ∀ {x y : Port}, Port.Step B False x y → Q x → Q y
  reset : ∀ p, Q (Port.reset p)
  trainOk : ∀ {x : Port} (j : Job) (f : Profile), B → Q x → j ∈ x.jobs → j.work = .train f → f.valid = true
  hasProfile : ∀ {x : Port}, B → Q x → x.status.state ≠ .disabled → x.status.state ≠ .probe → x.profile ≠ none

theorem KeptOnPort.steps {B : Prop} {Q : Port → Prop} (K : KeptOnPort B Q) {x y : Port} (h : Port.Steps B False x y)
    (hx : Q x) : Q y := by
  induction h with
  | refl => exact hx
  | tail _ last ih => exact K.step last ih

theorem State.port_pinReset (s : State) (levels : BitVec 12) (p : PortNo) :
    (s.pinReset levels).port p = Port.reset p := by
  simp [State.pinReset, State.reset, State.port]

/-- Kept at every port of a set S, whatever the others do. -/
theorem KeptOnPort.placelessOn {B : Prop} {Q : Port → Prop} (K : KeptOnPort B Q) (S : PortNo → Prop)
    (known : B → ∀ p, S p) : Placeless B fun s => ∀ p, S p → Q (s.port p) where
  sees := fun h _ _ e p hp => by
    rw [State.port, e]
    exact h p hp
  write := fun _ _ _ h => h
  port := fun {s} q y steps h p hp => by
    rw [State.port_setPort]
    split_ifs with same
    · exact K.steps steps (h q (same ▸ hp))
    · exact h p hp
  all := fun {s} f steps h p hp => by
    rw [State.port_ofFn]
    exact K.steps (steps p) (h p hp)
  reset := fun _ _ p _ => by
    rw [State.port_pinReset]
    exact K.reset p
  trainOk := fun p j f b h => K.trainOk j f b (h p (known b p))
  hasProfile := fun p b h => K.hasProfile b (h p (known b p))

theorem Placeless.congr {B : Prop} {P P' : State → Prop} (U : Placeless B P) (e : ∀ s, P s ↔ P' s) :
    Placeless B P' := by
  obtain rfl : P = P' := funext fun s => propext (e s)
  exact U

theorem KeptOnPort.placeless {B : Prop} {Q : Port → Prop} (K : KeptOnPort B Q) :
    Placeless B fun s => ∀ p, Q (s.port p) :=
  (K.placelessOn (fun _ => True) fun _ _ => trivial).congr fun _ => by simp only [true_implies]

theorem KeptOnPort.unplaced {B : Prop} {Q : Port → Prop} (K : KeptOnPort B Q)
    (train : ∀ (x : Port) (f : Profile), (B → f.valid = true) → Q x → Q (x.trained f)) :
    Unplaced B fun s => ∀ p, Q (s.port p) :=
  { K.placeless with
    train := fun p f hf h => (K.placeless.cellBlindBase.base p).startTrain f (fun {s} h => by
      refine State.updPort_keeps Q (fun x hx => K.steps (.openEdit .refl) hx) (train _ f hf (h p)) fun q _ => h q) h }

/-! #### Link histories (R24) -/

/-- A history numbered up to its record counter stays so as the next record joins it. -/
theorem numberedUpTo_append {last : Word} {l : List HistoryRecord} (h : numberedUpTo last l = true)
    {r : HistoryRecord} (hr : r.sequence = last + 1) : numberedUpTo (last + 1) (l ++ [r]) = true := by
  induction l with
  | nil => simp [numberedUpTo, hr]
  | cons a l ih =>
    cases l with
    | nil =>
      simp only [numberedUpTo, decide_eq_true_eq] at h
      simp [numberedUpTo, hr, h]
    | cons b l =>
      simp only [numberedUpTo, Bool.and_eq_true] at h
      rw [List.cons_append, List.cons_append, numberedUpTo, Bool.and_eq_true]
      exact ⟨h.1, ih h.2⟩

theorem numberedUpTo_drop {last : Word} {l : List HistoryRecord} (h : numberedUpTo last l = true) (n : Nat) :
    numberedUpTo last (l.drop n) = true := by
  induction n generalizing l with
  | zero => exact h
  | succ n ih =>
    cases l with
    | nil => rfl
    | cons a l =>
      refine ih ?_
      cases l with
      | nil => rfl
      | cons b l => exact (Bool.and_eq_true_iff.mp h).2

/-- The history of a port holds at most four records, numbered up to its record counter (R24). -/
def Port.historyOk (x : Port) : Prop := x.history.length ≤ 4 ∧ numberedUpTo x.recordCount x.history = true

theorem Port.historyOk_of_core {x y : Port} (hh : y.history = x.history) (hc : y.recordCount = x.recordCount)
    (h : x.historyOk) : y.historyOk := by
  rw [Port.historyOk, hh, hc]
  exact h

theorem Port.historyOk_writeRecord {x : Port} (h : x.historyOk) (tick : Ticks) (down : Option DownReason) :
    (x.writeRecord tick down).historyOk := by
  obtain ⟨short, numbered⟩ := h
  refine ⟨?_, numberedUpTo_append (numberedUpTo_drop numbered _) rfl⟩
  show (x.history.drop (x.history.length - 3) ++ [_]).length ≤ 4
  rw [List.length_append, List.length_drop, List.length_singleton]
  omega

theorem Port.SameCore.history {x y : Port} (h : x.SameCore y) :
    y.history = x.history ∧ y.recordCount = x.recordCount :=
  ⟨congrArg PortCore.history h.core, congrArg PortCore.recordCount h.core⟩

theorem Port.Retires.history {x y : Port} (h : x.Retires y) :
    y.history = x.history ∧ y.recordCount = x.recordCount :=
  ⟨congrArg PortCore.history h.core, congrArg PortCore.recordCount h.core⟩

end Sys2Proof.Machine

namespace Sys2Proof.Machine

theorem Port.charge_eq (x : Port) (r : Rate) : x.charge r = { x with status := { x.status with
    failCounts := (x.charge r).status.failCounts, offerSet := (x.charge r).status.offerSet
    downshifts := (x.charge r).status.downshifts, counters := (x.charge r).status.counters } } := by
  unfold Port.charge
  dsimp only
  split_ifs <;> rfl

/-! #### The decoder (R42 to R44) -/

theorem Port.endWindow_eq (x : Port) : x.endWindow = { x with
    editCount := x.endWindow.editCount, news := x.endWindow.news
    status := { x.status with
      pubMap := x.decoder.working, split := (findSplit x.decoder.working).getD x.status.split
      lastFailed := x.endWindow.status.lastFailed, failedSince := x.endWindow.status.failedSince }
    decoder := { x.decoder with windowCount := 0, working := 0 } } := by
  unfold Port.endWindow
  dsimp only
  rw [Port.openEdit_eq]
  cases findSplit x.decoder.working with
  | some g => rfl
  | none =>
    dsimp only
    split_ifs <;> rfl

/-- A received transition leaves all of a port but its decoder, calibration, news and edit count (R37, R42). -/
theorem Port.takeTransition_eq (x : Port) (rising : Bool) (n : Nat) : x.takeTransition rising n =
    { x with
      editCount := (x.takeTransition rising n).editCount, news := (x.takeTransition rising n).news
      status := { x.status with
        pubMap := (x.takeTransition rising n).status.pubMap, split := (x.takeTransition rising n).status.split
        lastFailed := (x.takeTransition rising n).status.lastFailed
        failedSince := (x.takeTransition rising n).status.failedSince }
      decoder := (x.takeTransition rising n).decoder } := by
  have counted : ∀ y : Port, y.countTransition = { y with
      editCount := y.countTransition.editCount, news := y.countTransition.news
      status := { y.status with
        pubMap := y.countTransition.status.pubMap, split := y.countTransition.status.split
        lastFailed := y.countTransition.status.lastFailed, failedSince := y.countTransition.status.failedSince }
      decoder := y.countTransition.decoder } := fun y => by
    unfold Port.countTransition
    dsimp only
    split_ifs
    · rw [Port.endWindow_eq]
    · rfl
  unfold Port.takeTransition
  split
  · exact counted { x with decoder := { x.decoder with burst := some (beginBurst rising n x.status.split) } }
  · rename_i b _
    exact counted ({ x with decoder := { x.decoder with
      burst := some { b.readInterval (n - b.last) with last := n } } }.markBin (n - b.last))

theorem historyOk_kept : KeptOnPort False Port.historyOk where
  step := fun {x y} step h => by
    cases step with
    | plain same _ => exact Port.historyOk_of_core same.history.1 same.history.2 h
    | enter same _ _ => exact Port.historyOk_of_core same.history.1 same.history.2 h
    | retire retires => exact Port.historyOk_of_core retires.history.1 retires.history.2 h
    | record tick down => exact Port.historyOk_writeRecord h tick down
    | charge r => exact Port.historyOk_of_core (by rw [Port.charge_eq]) (by rw [Port.charge_eq]) h
    | ask k _ => exact h
    | transition rising n =>
      exact Port.historyOk_of_core (by rw [Port.takeTransition_eq]) (by rw [Port.takeTransition_eq]) h
    | seed => exact h
    | relist jobs c _ => exact h
    | join j _ _ => exact h
  reset := fun _ => ⟨Nat.zero_le 4, rfl⟩
  trainOk := fun _ _ b => b.elim
  hasProfile := fun b => b.elim

theorem historiesOk_unplaced : Unplaced False State.historiesOk :=
  historyOk_kept.unplaced fun _ _ _ h => h

/-- The seed generator of a port is not 0, its split 0 or 2 to 15, its window count below 256 (R20, R42, R43). -/
def Port.decoderOk (x : Port) : Prop :=
  x.seedGen ≠ 0 ∧ (x.status.split = 0 ∨ 2 ≤ x.status.split ∧ x.status.split ≤ 15) ∧ x.decoder.windowCount < 256

theorem Port.decoderOk_of_eq {x y : Port} (hg : y.seedGen = x.seedGen) (hs : y.status.split = x.status.split)
    (hw : y.decoder.windowCount = x.decoder.windowCount) (h : x.decoderOk) : y.decoderOk := by
  rw [Port.decoderOk, hg, hs, hw]
  exact h

theorem Port.SameCore.decoder {x y : Port} (h : x.SameCore y) : y.seedGen = x.seedGen ∧
    y.status.split = x.status.split ∧ y.decoder.windowCount = x.decoder.windowCount :=
  ⟨congrArg PortCore.seedGen h.core, congrArg PortCore.split h.core, congrArg PortCore.windowCount h.core⟩

theorem mem_binLengths {i : Nat} (h : i ∈ binLengths) : 1 ≤ i ∧ i ≤ 16 := by
  simp only [binLengths, List.mem_map, List.mem_range, Config.longestInterval] at h
  obtain ⟨j, hj, rfl⟩ := h
  omega

/-- The split that the search finds is 2 to 15 (R43). -/
theorem findSplit_range {m : BitVec 16} {g : Nat} (h : findSplit m = some g) : 2 ≤ g ∧ g ≤ 15 := by
  unfold findSplit at h
  split at h
  · cases h
  · rename_i a ha
    split at h
    · cases h
    · rename_i g' hg
      split_ifs at h with above
      injection h with h
      subst h
      obtain ⟨a1, -⟩ := mem_binLengths (List.mem_of_find?_eq_some ha)
      have beyond := List.find?_some hg
      obtain ⟨i, hi, occupied⟩ := List.any_eq_true.mp above
      obtain ⟨-, i16⟩ := mem_binLengths hi
      simp only [Bool.and_eq_true, decide_eq_true_eq] at beyond occupied
      omega

theorem Port.decoderOk_countTransition {x : Port} (h : x.decoderOk) : x.countTransition.decoderOk := by
  obtain ⟨seed, split, window⟩ := h
  unfold Port.countTransition
  dsimp only
  split_ifs with full
  · rw [Port.endWindow_eq]
    refine ⟨seed, ?_, Nat.zero_lt_succ _⟩
    dsimp only
    cases hg : findSplit x.decoder.working with
    | none => exact split
    | some g => exact .inr (findSplit_range hg)
  · simp only [Config.windowLength] at full
    exact ⟨seed, split, by dsimp only; omega⟩

theorem Port.decoderOk_takeTransition {x : Port} (h : x.decoderOk) (rising : Bool) (n : Nat) :
    (x.takeTransition rising n).decoderOk := by
  unfold Port.takeTransition
  split
  · exact Port.decoderOk_countTransition h
  · exact Port.decoderOk_countTransition h

/-- The bit a seed step shifts in (R20). -/
def seedFeed (g : Word) : Bool := g.getLsbD 15 != (g.getLsbD 13 != (g.getLsbD 12 != g.getLsbD 10))

theorem getLsbD_shiftIn (g : Word) (b : Bool) (i : Nat) : ((g <<< 1) ||| (if b then 1 else 0)).getLsbD i =
    if i = 0 then b else decide (i < 16) && g.getLsbD (i - 1) := by
  rw [BitVec.getLsbD_or, BitVec.getLsbD_shiftLeft]
  by_cases zero : i = 0
  · subst zero
    cases b <;> simp
  · cases b <;> simp [zero]

theorem seedStep_low (g : Word) : (seedStep g).getLsbD 0 = seedFeed g :=
  getLsbD_shiftIn g (seedFeed g) 0

theorem seedStep_succ (g : Word) {i : Nat} (h : i < 15) : (seedStep g).getLsbD (i + 1) = g.getLsbD i := by
  have bit := getLsbD_shiftIn g (seedFeed g) (i + 1)
  rw [if_neg (Nat.succ_ne_zero i), decide_eq_true (by omega : i + 1 < 16), Bool.true_and] at bit
  exact bit

/-- A seed generator that is not 0 steps to another that is not (R20). -/
theorem seedStep_ne_zero {g : Word} (h : g ≠ 0) : seedStep g ≠ 0 := by
  intro e
  have low : ∀ i, i < 15 → g.getLsbD i = false := fun i hi => by
    rw [← seedStep_succ g hi, e, show (0 : Word) = 0#16 from rfl, BitVec.getLsbD_zero]
  have feed : seedFeed g = false := by
    rw [← seedStep_low, e, show (0 : Word) = 0#16 from rfl, BitVec.getLsbD_zero]
  have top : g.getLsbD 15 = false := by
    rw [seedFeed, low 13 (by omega), low 12 (by omega), low 10 (by omega)] at feed
    simpa using feed
  refine h (BitVec.eq_of_getLsbD_eq fun i hi => ?_)
  rw [show (0 : Word) = 0#16 from rfl, BitVec.getLsbD_zero]
  by_cases last : i < 15
  · exact low i last
  · obtain rfl : i = 15 := by omega
    exact top

theorem decoderOk_kept : KeptOnPort False Port.decoderOk where
  step := fun {x y} step h => by
    cases step with
    | plain same _ => exact Port.decoderOk_of_eq same.decoder.1 same.decoder.2.1 same.decoder.2.2 h
    | enter same _ _ => exact Port.decoderOk_of_eq same.decoder.1 same.decoder.2.1 same.decoder.2.2 h
    | retire retires =>
      refine ⟨?_, .inl (congrArg PortCore.split retires.core), ?_⟩
      · rw [show y.seedGen = x.seedGen from congrArg PortCore.seedGen retires.core]
        exact h.1
      · rw [show y.decoder.windowCount = 0 from congrArg PortCore.windowCount retires.core]
        exact Nat.zero_lt_succ _
    | record tick down => exact h
    | charge r => exact Port.decoderOk_of_eq (by rw [Port.charge_eq]) (by rw [Port.charge_eq]) (by rw [Port.charge_eq]) h
    | ask k _ => exact h
    | transition rising n => exact Port.decoderOk_takeTransition h rising n
    | seed => exact ⟨seedStep_ne_zero h.1, h.2⟩
    | relist jobs c _ => exact h
    | join j _ _ => exact h
  reset := by
    intro p
    refine ⟨fun e => ?_, .inl rfl, Nat.zero_lt_succ _⟩
    have hp := p.isLt
    have value : (p.val + 1) % 2 ^ 16 = 0 := (BitVec.toNat_ofNat _ _).symm.trans (congrArg BitVec.toNat e)
    omega
  trainOk := fun _ _ b => b.elim
  hasProfile := fun b => b.elim

theorem decodersOk_unplaced : Unplaced False State.decodersOk :=
  decoderOk_kept.unplaced fun _ _ _ h => h

/-! #### Edits (R153) -/

/-- Every command leaves each edit closed: `take` closes it, and the reset pin's two open none. -/
theorem editsClosed_exec {c : Instr} {s t : State} (h : s.editsClosed) (e : exec c s = .next t) : t.editsClosed := by
  by_cases reset : (∃ levels, c = .pinReset levels) ∨ c = .resetPinAsserted
  · rcases reset with ⟨levels, rfl⟩ | rfl
    · injection e with e
      subst e
      intro p
      rw [State.port_pinReset]
      exact BitVec.getLsbD_zero
    · injection e with e
      subst e
      exact h
  · rw [not_or, not_exists] at reset
    obtain ⟨f, hf⟩ := exec_eq_take reset.1 reset.2 s
    exact State.editsClosed_take h (hf ▸ e)

theorem editsClosed_step {s t : State} (h : s.editsClosed) (e : step s = .next t) : t.editsClosed := by
  rw [step.eq_def] at e
  split at e
  · rename_i rest _
    exact editsClosed_exec (s := { s with pending := rest }) h e
  · exact State.editsClosed_take h e

/-- Settles O56: the four invariants are kept by each change that commands are built of. -/
theorem stepKeepsDataInvariants : Obligations.StepKeepsDataInvariants := by
  unfold Obligations.StepKeepsDataInvariants
  intro s t e
  exact ⟨fun h => memOk_unplaced.step (fun _ h => h) h e, fun h => editsClosed_step h e,
    fun h => historiesOk_unplaced.step (fun _ h => h) h e, fun h => decodersOk_unplaced.step (fun _ h => h) h e⟩

end Sys2Proof.Machine

namespace Sys2Proof.Machine

/-! ### Profiles and recipes (R5, R6, R85, R121) -/

/-- The profiles in the list of a port are in range; so is the profile in force, whose allowed set holds the offer set;
and a port without one is DISABLED or in PROBE. -/
structure Port.profileOk (x : Port) : Prop where
  listed : ∀ (j : Job) (f : Profile), j ∈ x.jobs → j.work = .train f → f.valid = true
  inForce : ∀ f : Profile, x.profile = some f →
    f.valid = true ∧ x.status.offerSet ≠ 0 ∧ x.status.offerSet &&& ~~~f.allowed = 0
  absent : x.profile = none → x.status.state = .disabled ∨ x.status.state = .probe

theorem Port.SameCore.profiles {x y : Port} (h : x.SameCore y) :
    y.profile = x.profile ∧ y.jobs = x.jobs ∧ y.status.offerSet = x.status.offerSet :=
  ⟨congrArg PortCore.profile h.core, congrArg PortCore.jobs h.core, congrArg PortCore.offerSet h.core⟩

/-- The offer set shrinks only where some of it is left (R74). -/
theorem Port.charge_offerSet (x : Port) (r : Rate) : (x.charge r).status.offerSet = x.status.offerSet ∨
    RateSet.remove x.status.offerSet r ≠ 0 ∧ (x.charge r).status.offerSet = RateSet.remove x.status.offerSet r := by
  unfold Port.charge
  dsimp only
  split_ifs with due
  · refine .inr ⟨?_, rfl⟩
    simp only [Port.downshiftDue, Bool.and_eq_true, decide_eq_true_eq] at due
    exact due.1.2
  · exact .inl rfl

theorem RateSet.remove_subset {s a : RateSet} (h : s &&& ~~~a = 0) (r : Rate) : RateSet.remove s r &&& ~~~a = 0 := by
  rw [RateSet.remove, BitVec.and_assoc, BitVec.and_comm (~~~RateSet.single r), ← BitVec.and_assoc, h]
  exact BitVec.zero_and

theorem Profile.valid_allowed {f : Profile} (h : f.valid = true) : f.allowed ≠ 0 := by
  intro e
  simp [Profile.valid, e] at h

theorem Port.profileOk.of_eq {x y : Port} (h : x.profileOk) (jobs : y.jobs = x.jobs) (profile : y.profile = x.profile)
    (offer : y.status.offerSet = x.status.offerSet) (state : y.status.state = x.status.state) :
    y.profileOk :=
  ⟨by rw [jobs]; exact h.listed, by rw [profile, offer]; exact h.inForce, by rw [profile, state]; exact h.absent⟩

theorem Port.charge_jobs (x : Port) (r : Rate) : (x.charge r).jobs = x.jobs := by rw [Port.charge_eq]

theorem Port.charge_state (x : Port) (r : Rate) : (x.charge r).status.state = x.status.state := by
  rw [Port.charge_eq]

theorem profileOk_kept : KeptOnPort True Port.profileOk where
  step := fun {x y} step h => by
    cases step with
    | plain same st =>
      obtain ⟨profile, jobs, offer⟩ := same.profiles
      exact h.of_eq jobs profile offer st
    | enter same st prof =>
      obtain ⟨profile, jobs, offer⟩ := same.profiles
      refine ⟨by rw [jobs]; exact h.listed, by rw [profile, offer]; exact h.inForce, fun none => ?_⟩
      exact .inr ((prof trivial).resolve_left fun some => some (profile ▸ none))
    | retire retires =>
      have profile : y.profile = none := congrArg PortCore.profile retires.core
      have jobs : y.jobs = x.jobs := congrArg PortCore.jobs retires.core
      exact ⟨by rw [jobs]; exact h.listed, fun f hf => absurd (profile.symm.trans hf) nofun, fun _ => .inl retires.state⟩
    | record tick down => exact h.of_eq rfl rfl rfl rfl
    | charge r =>
      refine ⟨by rw [x.charge_jobs]; exact h.listed, fun f hf => ?_, by
        rw [x.charge_profile, x.charge_state]; exact h.absent⟩
      obtain ⟨valid, nonempty, subset⟩ := h.inForce f ((x.charge_profile r).symm.trans hf)
      rcases x.charge_offerSet r with e | ⟨left, e⟩
      · rw [e]
        exact ⟨valid, nonempty, subset⟩
      · rw [e]
        exact ⟨valid, left, RateSet.remove_subset subset r⟩
    | ask k _ => exact h.of_eq rfl rfl rfl rfl
    | transition rising n =>
      rw [Port.takeTransition_eq]
      exact h.of_eq rfl rfl rfl rfl
    | seed => exact h.of_eq rfl rfl rfl rfl
    | relist jobs c from_ =>
      refine ⟨fun j f hj hw => ?_, h.inForce, h.absent⟩
      obtain ⟨k, hk, same⟩ := from_ j hj
      exact h.listed k f hk (same.trans hw)
    | join j valid _ =>
      refine ⟨fun k f hk hw => ?_, h.inForce, h.absent⟩
      rcases List.mem_append.mp hk with hk | hk
      · exact h.listed k f hk hw
      · rw [List.mem_singleton.mp hk] at hw
        exact valid trivial f hw
  reset := fun _ => ⟨fun _ _ hj _ => absurd hj List.not_mem_nil, fun f hf => (Option.some_ne_none f hf.symm).elim,
    fun _ => .inl rfl⟩
  trainOk := fun j f _ h => h.listed j f
  hasProfile := fun _ h st st' none => (h.absent none).elim st st'

theorem profileOk_unplaced : Unplaced True fun s => ∀ p, (s.port p).profileOk :=
  profileOk_kept.unplaced fun x f valid h =>
    ⟨h.listed, fun g hg => by
      obtain rfl : f = g := Option.some.inj hg
      exact ⟨valid trivial, Profile.valid_allowed (valid trivial), BitVec.and_not_self _⟩, nofun⟩

/-! #### A DISABLED port has no profile -/

/-- A DISABLED port has no profile (R5). -/
def Port.bareWhenDisabled (x : Port) : Prop := x.status.state = .disabled → x.profile = none

theorem bareWhenDisabled_kept : KeptOnPort False Port.bareWhenDisabled where
  step := fun {x y} step h => by
    cases step with
    | plain same st => exact fun off => (same.profile_eq.trans (h (st ▸ off)))
    | enter same st prof => exact fun off => absurd off st
    | retire retires => exact fun _ => congrArg PortCore.profile retires.core
    | record tick down => exact h
    | charge r => exact fun off => (x.charge_profile r).trans (h (by rw [Port.charge_eq] at off; exact off))
    | ask k _ => exact h
    | transition rising n =>
      rw [Port.takeTransition_eq]
      exact h
    | seed => exact h
    | relist jobs c _ => exact h
    | join j _ _ => exact h
  reset := fun _ _ => rfl
  trainOk := fun _ _ b => b.elim
  hasProfile := fun b => b.elim

theorem State.endJob_state (s : State) (p : PortNo) (out : JobOutcome) :
    ((s.endJob p out).port p).status.state = (s.port p).status.state := by
  cases h : (s.port p).jobs with
  | nil => rw [State.endJob_nil h]
  | cons j rest => rw [State.endJob_cons h, State.raisePort_status, State.port_updPort_status, State.endCell_port]

theorem State.endTrain_state (s : State) (p : PortNo) (out : JobOutcome) :
    ((s.endTrain p out).port p).status.state = (s.port p).status.state := by
  rw [State.endTrain]
  split_ifs
  · exact s.endJob_state p out
  · rfl

/-- The start of an attempt leaves DISABLED (R8). -/
theorem State.startAttempt_state (s : State) (p : PortNo) :
    ((s.startAttempt p).port p).status.state ≠ .disabled := by
  unfold State.startAttempt
  dsimp only
  split_ifs
  · rw [State.endTrain_state, State.enterState, State.port_updPort_status]
    nofun
  · rw [State.port_updPort_status]
    nofun
  · rw [State.port_updPort_status]
    nofun

/-- A sequence that begins leaves DISABLED (R7). -/
theorem State.beginSequence_state (s : State) (p : PortNo) (byWatch : Bool) :
    ((s.beginSequence p byWatch).port p).status.state ≠ .disabled := by
  rw [State.beginSequence]
  split_ifs
  · rw [State.post, State.port_updPort_status, State.enterState, State.port_updPort_status]
    nofun
  · exact State.startAttempt_state _ p

theorem bareWhenDisabled_unplaced : Unplaced False fun s => ∀ p, (s.port p).bareWhenDisabled :=
  { bareWhenDisabled_kept.placeless with
    train := fun {s} p f _ h q => by
      by_cases hq : q = p
      · subst hq
        exact fun off => absurd off (State.beginSequence_state _ q false)
      · have others := bareWhenDisabled_kept.placelessOn (fun q => q ≠ p) nofun
        refine (others.cellBlindBase.base p).startTrain f (fun {s} h q hq => ?_) (fun q _ => h q) q hq
        rw [State.port_updPort_ne _ hq]
        exact h q hq }

theorem State.profilesOk_iff (s : State) :
    s.profilesOk ↔ (∀ p, (s.port p).profileOk) ∧ ∀ p, (s.port p).bareWhenDisabled :=
  ⟨fun h => ⟨fun p => ⟨h.listed p, h.inForce p, h.absent p⟩, h.disabled⟩,
    fun h => ⟨fun p => (h.1 p).listed, fun p => (h.1 p).inForce, fun p => (h.1 p).absent, h.2⟩⟩

theorem profilesOk_step {s t : State} (h : s.profilesOk) (e : step s = .next t) : t.profilesOk := by
  rw [State.profilesOk_iff] at h ⊢
  exact ⟨profileOk_unplaced.step (fun _ h => h) h.1 e, bareWhenDisabled_unplaced.step (fun _ h => h) h.2 e⟩

end Sys2Proof.Machine

namespace Sys2Proof.Machine

/-! ## What an event makes of its port

An event of port p is a chain of changes of that port among changes elsewhere. `Moves o b t p y` says what the chain has
come to: the state b, in which the port is still as it was, with the port y in place of the old one, but for the edit
count; the edit is open if `o` says so, and in any case if the page has changed. -/

/-- x is y but for the edit count. -/
def Port.Alike (x y : Port) : Prop := x = { y with editCount := x.editCount }

theorem Port.Alike.eq {x y : Port} (h : x.Alike y) : x = { y with editCount := x.editCount } := h

theorem Port.Alike.refl (x : Port) : x.Alike x := rfl

theorem Port.Alike.symm {x y : Port} (h : x.Alike y) : y.Alike x := by
  rw [Port.Alike] at h ⊢
  rw [h]

theorem Port.Alike.trans {x y z : Port} (h : x.Alike y) (h' : y.Alike z) : x.Alike z := by
  rw [Port.Alike] at h h' ⊢
  rw [h, h']

theorem Port.alike_openEdit (x : Port) : x.openEdit.Alike x := Port.openEdit_eq x

theorem Port.alike_closeEdit (x : Port) : x.closeEdit.Alike x := Port.closeEdit_eq x

/-- The change f neither reads nor writes the edit count. -/
def Port.Blind (f : Port → Port) : Prop := ∀ (x : Port) (n : Word), f { x with editCount := n } = { f x with editCount := n }

theorem Port.Blind.editCount {f : Port → Port} (h : Port.Blind f) (x : Port) : (f x).editCount = x.editCount := by
  have e := congrArg Port.editCount (h x x.editCount)
  exact e

theorem Port.Blind.alike {f : Port → Port} (h : Port.Blind f) {x y : Port} (e : x.Alike y) : (f x).Alike (f y) := by
  have hx : f x = { f y with editCount := x.editCount } := by
    conv_lhs => rw [e]
    exact h y x.editCount
  rw [Port.Alike, hx]

theorem Port.Blind.comp {f g : Port → Port} (hf : Port.Blind f) (hg : Port.Blind g) :
    Port.Blind fun x => g (f x) := fun x n => by
  show g (f { x with editCount := n }) = _
  rw [hf x n, hg (f x) n]

theorem Port.samePage_refl (x : Port) : Port.samePage x x = true := Port.samePage_of_eq rfl rfl rfl rfl rfl

theorem Port.samePage_trans {x y z : Port} (h : Port.samePage x y = true) (h' : Port.samePage y z = true) :
    Port.samePage x z = true := by
  simp only [Port.samePage, Bool.and_eq_true, decide_eq_true_eq] at h h' ⊢
  obtain ⟨⟨⟨⟨h1, h2⟩, h3⟩, h4⟩, h5⟩ := h
  obtain ⟨⟨⟨⟨k1, k2⟩, k3⟩, k4⟩, k5⟩ := h'
  exact ⟨⟨⟨⟨h1.trans k1, h2.trans k2⟩, h3.trans k3⟩, h4.trans k4⟩, h5.trans k5⟩

theorem Port.Alike.samePage {x y : Port} (h : x.Alike y) : Port.samePage x y = true := by
  rw [h]
  exact Port.samePage_refl y

/-- The edit of the event on a page that was x and is z now: open, or not yet needed (R153). -/
def Port.Edits (x z : Port) : Prop :=
  z.editCount = x.openEdit.editCount ∨ z.editCount = x.editCount ∧ Port.samePage x z = true

theorem Port.openEdit_count_congr {x y : Port} (h : x.editCount = y.editCount) :
    x.openEdit.editCount = y.openEdit.editCount := by
  unfold Port.openEdit
  rw [h]
  split_ifs
  · exact h
  · rfl

/-- What an event has made of port p so far. -/
def Moves (o : Bool) (b t : State) (p : PortNo) (y : Port) : Prop :=
  ∃ z : Port, t = b.setPort p z ∧ z.Alike y ∧ (b.port p).Edits z ∧
    (o = true → z.editCount = (b.port p).openEdit.editCount)

namespace Moves
variable {o : Bool} {b t : State} {p : PortNo} {y : Port}

/-- At its start an event has changed nothing. -/
theorem start (s : State) (p : PortNo) : Moves false s s p (s.port p) :=
  ⟨s.port p, (s.setPort_port p).symm, .refl _, .inr ⟨rfl, Port.samePage_refl _⟩, nofun⟩

theorem port (h : Moves o b t p y) : (t.port p).Alike y := by
  obtain ⟨z, rfl, alike, -, -⟩ := h
  rw [State.port_setPort_self]
  exact alike

theorem port_ne (h : Moves o b t p y) {q : PortNo} (hq : q ≠ p) : t.port q = b.port q := by
  obtain ⟨z, rfl, -, -, -⟩ := h
  exact State.port_setPort_ne b p z q hq

/-- y may be written another way. -/
theorem as {y' : Port} (h : Moves o b t p y) (e : y = y') : Moves o b t p y' := e ▸ h

theorem loosen (h : Moves o b t p y) : Moves false b t p y := by
  obtain ⟨z, e, alike, edits, -⟩ := h
  exact ⟨z, e, alike, edits, nofun⟩

/-- Once the page differs, the edit is open. -/
theorem opened (h : Moves o b t p y) (changed : Port.samePage (b.port p) y = false) : Moves true b t p y := by
  obtain ⟨z, e, alike, edits, -⟩ := h
  refine ⟨z, e, alike, edits, fun _ => edits.resolve_right fun same => ?_⟩
  rw [Port.samePage_trans same.2 alike.samePage] at changed
  cases changed

/-- The next change of the port. -/
theorem upd (h : Moves o b t p y) {f : Port → Port} (blind : Port.Blind f) : Moves o b (t.updPort p f) p (f y) := by
  obtain ⟨z, rfl, alike, edits, open_⟩ := h
  have count : (f z).editCount = z.editCount := blind.editCount z
  have openCount : (f z).openEdit.editCount = z.openEdit.editCount := Port.openEdit_count_congr count
  have stays : z.editCount = (b.port p).openEdit.editCount → (f z).openEdit.editCount = (b.port p).openEdit.editCount := by
    intro e
    rw [openCount, Port.openEdit_count_congr (y := (b.port p).openEdit) e, Port.openEdit_openEdit]
  rw [State.updPort_eq, State.port_setPort_self, State.setPort_setPort]
  split_ifs with same
  · refine ⟨f z, rfl, blind.alike alike, ?_, fun ho => count.trans (open_ ho)⟩
    rcases edits with e | ⟨e, e'⟩
    · exact .inl (count.trans e)
    · exact .inr ⟨count.trans e, Port.samePage_trans e' same⟩
  · refine ⟨(f z).openEdit, rfl, (Port.alike_openEdit _).trans (blind.alike alike), .inl ?_, fun ho => stays (open_ ho)⟩
    rcases edits with e | ⟨e, -⟩
    · exact stays e
    · rw [openCount]
      exact Port.openEdit_count_congr e

/-- A change whose rule names a publication of its own (R153). -/
theorem updOpen (h : Moves o b t p y) {f : Port → Port} (blind : Port.Blind f) :
    Moves true b (t.updPort p fun x => (f x).openEdit) p (f y) := by
  obtain ⟨z, rfl, alike, edits, open_⟩ := h
  have count : (f z).openEdit.editCount = (b.port p).openEdit.editCount := by
    rw [Port.openEdit_count_congr (blind.editCount z)]
    rcases edits with e | ⟨e, -⟩
    · rw [Port.openEdit_count_congr (y := (b.port p).openEdit) e, Port.openEdit_openEdit]
    · exact Port.openEdit_count_congr e
  refine ⟨(f z).openEdit, ?_, (Port.alike_openEdit _).trans (blind.alike alike), .inl count, fun _ => count⟩
  rw [State.updPort_eq, State.port_setPort_self, State.setPort_setPort, Port.openEdit_openEdit, ite_self]

/-- A change outside the page. -/
theorem set (h : Moves o b t p y) {f : Port → Port} (blind : Port.Blind f)
    (page : ∀ x : Port, Port.samePage x (f x) = true) : Moves o b (t.setPort p (f (t.port p))) p (f y) := by
  obtain ⟨z, rfl, alike, edits, open_⟩ := h
  rw [State.port_setPort_self, State.setPort_setPort]
  refine ⟨f z, rfl, blind.alike alike, ?_, fun ho => (blind.editCount z).trans (open_ ho)⟩
  rcases edits with e | ⟨e, e'⟩
  · exact .inl ((blind.editCount z).trans e)
  · exact .inr ⟨(blind.editCount z).trans e, Port.samePage_trans e' (page z)⟩

theorem raise (h : Moves o b t p y) (f : PortFlag) : Moves o b (t.raisePort p f) p (y.raise f) :=
  h.set (f := fun x => x.raise f) (fun _ _ => rfl) fun _ => Port.samePage_of_eq rfl rfl rfl rfl rfl

/-- A change elsewhere, which does not look at the port. -/
theorem elsewhere (h : Moves o b t p y) {F : State → State} (port : (F b).port p = b.port p)
    (commutes : ∀ z, F (b.setPort p z) = (F b).setPort p z) : Moves o (F b) (F t) p y := by
  obtain ⟨z, rfl, alike, edits, open_⟩ := h
  refine ⟨z, commutes z, alike, ?_, ?_⟩
  · rw [port]
    exact edits
  · rw [port]
    exact open_

/-- At the close of an event with its edit open the page has had one edit. -/
theorem close (h : Moves true b t p y) (closed : b.editsClosed) :
    t.closeEdits = b.setPort p { y with editCount := (b.port p).editCount + 2 } := by
  obtain ⟨z, rfl, alike, -, open_⟩ := h
  have count := open_ rfl
  have odd : z.editCount.getLsbD 0 = true := by
    rw [count]
    exact Port.openEdit_isOdd _
  have next : z.editCount + 1 = (b.port p).editCount + 2 := by
    rw [count, Port.openEdit_of_even (closed p), BitVec.add_assoc]
    rfl
  rw [State.closeEdits_setPort closed, Port.closeEdit_of_odd odd, next]
  congr 1
  rw [alike]

/-- At the close of an event that changed the page it has had one edit. -/
theorem close_changed (h : Moves o b t p y) (closed : b.editsClosed)
    (changed : Port.samePage (b.port p) y = false) :
    t.closeEdits = b.setPort p { y with editCount := (b.port p).editCount + 2 } :=
  (h.opened changed).close closed

end Moves

/-- A first change of the port. -/
theorem Moves.first (s : State) (p : PortNo) {f : Port → Port} (blind : Port.Blind f) :
    Moves false s (s.updPort p f) p (f (s.port p)) :=
  (Moves.start s p).upd blind

end Sys2Proof.Machine

namespace Sys2Proof.Machine

/-! ## Grants, engines and claims (R83, R111 to R115) -/

/-! ### Reading after a move of the arbiter -/

section
variable (s : State) (e f : EngineNo) (p : PortNo) (q : QuadNo)

theorem State.turnedBack_grant : (s.turnedBack e p).grant f = if e = f then none else s.grant f := by
  simp only [State.turnedBack, State.setEngine_grant, State.setClaim_grant, State.grant_setGrant]

theorem State.turnedBack_claimed : (s.turnedBack e p).claimed q = if quadOf p = q then false else s.claimed q := by
  simp only [State.turnedBack, State.setEngine_claimed, State.claimed_setClaim, State.setGrant_claimed]

theorem State.turnedBack_engine : (s.turnedBack e p).engine f =
    if e = f then { s.engine e with unused := oneMore (s.engine e).unused } else s.engine f := by
  simp only [State.turnedBack, State.engine_setEngine, State.setClaim_engine, State.setGrant_engine]

theorem State.turnedBack_meas : ((s.turnedBack e p).engine f).meas = (s.engine f).meas := by
  rw [State.turnedBack_engine]
  split_ifs with h
  · rw [← h]
  · rfl

theorem State.freed_grant : (s.freed e p).grant f = if e = f then none else s.grant f := by
  simp only [State.freed, State.setClaim_grant, State.grant_setGrant, State.setEngine_grant]

theorem State.freed_claimed : (s.freed e p).claimed q = if quadOf p = q then false else s.claimed q := by
  simp only [State.freed, State.claimed_setClaim, State.setGrant_claimed, State.setEngine_claimed]

theorem State.freed_engine : (s.freed e p).engine f =
    if e = f then { s.engine e with meas := none } else s.engine f := by
  simp only [State.freed, State.setClaim_engine, State.setGrant_engine, State.engine_setEngine]

theorem State.freed_meas : ((s.freed e p).engine f).meas = if e = f then none else (s.engine f).meas := by
  rw [State.freed_engine]
  split_ifs <;> rfl

variable (r : Request)

theorem State.makeGrant_grant : (s.makeGrant e r).grant f = if e = f then some ⟨r, false⟩ else s.grant f := by
  rw [State.makeGrant, State.setClaim_grant, State.grant_setGrant]
  rfl

theorem State.makeGrant_claimed : (s.makeGrant e r).claimed q = if quadOf r.port = q then true else s.claimed q := by
  rw [State.makeGrant, State.claimed_setClaim]
  rfl

theorem State.makeGrant_engine : (s.makeGrant e r).engine f = s.engine f := rfl

end

/-- A grant turned back is what `turnedBack` says (R112, R114). -/
theorem State.turnBack_eq {s : State} {e : EngineNo} {g : Grant} (h : s.grant e = some g) :
    s.turnBack e = s.turnedBack e g.request.port := by
  rw [State.turnBack, State.endGrant, h]
  simp only [State.setClaim_engine, State.setGrant_engine, satInc_eq_oneMore]
  rfl

/-- A release frees the engine and applies the grant rule (R104, R115). -/
theorem State.release_eq {s : State} {e : EngineNo} {g : Grant} (h : s.grant e = some g) :
    s.release e = (s.freed e g.request.port).applyGrantRule := by
  have granted : (s.setEngine e { s.engine e with meas := none }).grant e = some g := by
    rw [State.setEngine_grant, h]
  rw [State.release, State.endGrant, granted]
  rfl

/-- The engine of a port is the one engine that measures it. -/
theorem State.grantsOk.grant_of_meas {s : State} (h : s.grantsOk) {e : EngineNo} {m : Measurement}
    (hm : (s.engine e).meas = some m) : ∃ g, s.grant e = some g ∧ g.request.port = m.holder := by
  obtain ⟨g, hg, -, port⟩ := h.measuring e m hm
  exact ⟨g, hg, port⟩

theorem State.grantsOk.release_eq {s : State} (h : s.grantsOk) {e : EngineNo} {m : Measurement}
    (hm : (s.engine e).meas = some m) : s.release e = (s.freed e m.holder).applyGrantRule := by
  obtain ⟨g, hg, port⟩ := h.grant_of_meas hm
  rw [State.release_eq hg, port]

theorem State.grantsOk.holder_unique {s : State} (h : s.grantsOk) {e f : EngineNo} {m n : Measurement}
    (hm : (s.engine e).meas = some m) (hn : (s.engine f).meas = some n) (same : m.holder = n.holder) : e = f := by
  obtain ⟨g, hg, gp⟩ := h.grant_of_meas hm
  obtain ⟨k, hk, kp⟩ := h.grant_of_meas hn
  exact h.onePerQuad e f g k hg hk (by rw [gp, kp, same])

/-! ### What keeps them in agreement -/

/-- Only engines, grants and claims are looked at. -/
theorem State.grantsOk.of_parts {s t : State} (h : s.grantsOk) (engines : t.engines = s.engines)
    (grants : t.grants = s.grants) (claims : t.claims = s.claims) : t.grantsOk := by
  have engine : ∀ e, t.engine e = s.engine e := fun e => by rw [State.engine, engines]; rfl
  have grant : ∀ e, t.grant e = s.grant e := fun e => by rw [State.grant, grants]; rfl
  have claimed : ∀ q, t.claimed q = s.claimed q := fun q => by rw [State.claimed, claims]; rfl
  constructor
  all_goals simp only [engine, grant, claimed]
  exacts [h.measuring, h.accepted, h.claim, h.onePerQuad, h.oneFilling]

/-- A grant that no engine measures under, taken away with its claim. -/
theorem State.grantsOk.drop {s t : State} (h : s.grantsOk) {e : EngineNo} {g : Grant} (hg : s.grant e = some g)
    (meas : ∀ f, (t.engine f).meas = if e = f then none else (s.engine f).meas)
    (grant : ∀ f, t.grant f = if e = f then none else s.grant f)
    (claimed : ∀ q, t.claimed q = if quadOf g.request.port = q then false else s.claimed q) : t.grantsOk := by
  have other : ∀ {f : EngineNo} {k : Grant}, t.grant f = some k → e ≠ f ∧ s.grant f = some k := by
    intro f k hk
    rw [grant] at hk
    split_ifs at hk with same
    exact ⟨same, hk⟩
  have held : ∀ {f : EngineNo} {m : Measurement}, (t.engine f).meas = some m → e ≠ f ∧ (s.engine f).meas = some m := by
    intro f m hm
    rw [meas] at hm
    split_ifs at hm with same
    exact ⟨same, hm⟩
  constructor
  · intro f m hm
    obtain ⟨same, hm⟩ := held hm
    obtain ⟨k, hk⟩ := h.measuring f m hm
    exact ⟨k, by rw [grant, if_neg same]; exact hk.1, hk.2⟩
  · intro f k hk acc
    obtain ⟨same, hk⟩ := other hk
    rw [meas, if_neg same]
    exact h.accepted f k hk acc
  · intro q
    rw [claimed]
    split_ifs with quad
    · refine ⟨nofun, fun ⟨f, k, hk, port⟩ => ?_⟩
      obtain ⟨same, hk⟩ := other hk
      exact absurd (h.onePerQuad e f g k hg hk (quad.trans port.symm)) same
    · rw [h.claim q]
      constructor
      · rintro ⟨f, k, hk, port⟩
        refine ⟨f, k, ?_, port⟩
        rw [grant, if_neg]
        · exact hk
        · rintro rfl
          rw [hg] at hk
          injection hk with hk
          exact quad (hk ▸ port)
      · rintro ⟨f, k, hk, port⟩
        exact ⟨f, k, (other hk).2, port⟩
  · intro f f' k k' hk hk'
    exact h.onePerQuad f f' k k' (other hk).2 (other hk').2
  · intro f f' m n k hm hn
    exact h.oneFilling f f' m n k (held hm).2 (held hn).2

/-- A release keeps them in agreement (R115). -/
theorem State.grantsOk.freed {s : State} (h : s.grantsOk) {e : EngineNo} {m : Measurement}
    (hm : (s.engine e).meas = some m) : (s.freed e m.holder).grantsOk := by
  obtain ⟨g, hg, port⟩ := h.grant_of_meas hm
  exact h.drop hg (fun f => s.freed_meas e f _) (fun f => s.freed_grant e f _) fun q => by
    rw [State.freed_claimed, port]

/-- The engine of a grant that is not accepted is free (R111). -/
theorem State.grantsOk.free_of_waiting {s : State} (h : s.grantsOk) {e : EngineNo} {g : Grant} (hg : s.grant e = some g)
    (waiting : g.accepted = false) : (s.engine e).meas = none := by
  cases hm : (s.engine e).meas with
  | none => rfl
  | some m =>
    obtain ⟨k, hk, acc, -⟩ := h.measuring e m hm
    rw [hg] at hk
    injection hk with hk
    rw [← hk, waiting] at acc
    cases acc

/-- So does a grant turned back (R112, R114). -/
theorem State.grantsOk.turnedBack {s : State} (h : s.grantsOk) {e : EngineNo} {g : Grant} (hg : s.grant e = some g)
    (waiting : g.accepted = false) : (s.turnedBack e g.request.port).grantsOk := by
  have free := h.free_of_waiting hg waiting
  refine h.drop hg (fun f => ?_) (fun f => s.turnedBack_grant e f _) fun q => s.turnedBack_claimed e _ q
  rw [State.turnedBack_meas]
  split_ifs with same
  · rw [← same, free]
  · rfl

/-- The request picked may be granted (R110). -/
theorem State.eligible_of_pick {s : State} {r : Request} (h : s.pickRequest = some r) : s.eligible r = true := by
  unfold State.pickRequest at h
  split at h
  · rename_i hf
    injection h with h
    subst h
    have found := List.find?_some hf
    simp only [Bool.and_eq_true] at found
    exact found.2
  · exact List.find?_some (p := fun r => s.eligible r) h

theorem State.eligible_iff (s : State) (r : Request) : s.eligible r = true ↔ s.grantable r := by
  simp [State.eligible, State.grantable]

/-- A grant is made to a request that waits in the list (R111). -/
theorem State.mem_of_pick {s : State} {r : Request} (h : s.pickRequest = some r) : r ∈ s.requests := by
  unfold State.pickRequest at h
  split at h
  · rename_i hf
    injection h with h
    subst h
    exact List.mem_of_find?_eq_some hf
  · exact List.mem_of_find?_eq_some h

/-- A grant made by the grant rule keeps them in agreement (R111). -/
theorem State.grantsOk.makeGrant {s : State} (h : s.grantsOk) {e : EngineNo} {r : Request}
    (free : s.freeEngine = some e) (pick : s.pickRequest = some r) : (s.makeGrant e r).grantsOk := by
  obtain ⟨noMeas, noGrant⟩ := State.isFree_of_freeEngine free
  obtain ⟨unclaimed, -⟩ := (s.eligible_iff r).mp (State.eligible_of_pick pick)
  have old : ∀ {f : EngineNo} {k : Grant}, (s.makeGrant e r).grant f = some k →
      e = f ∧ k = ⟨r, false⟩ ∨ s.grant f = some k := by
    intro f k hk
    rw [State.makeGrant_grant] at hk
    split_ifs at hk with same
    · injection hk with hk
      exact .inl ⟨same, hk.symm⟩
    · exact .inr hk
  have keep : ∀ {f : EngineNo} {k : Grant}, s.grant f = some k → (s.makeGrant e r).grant f = some k := by
    intro f k hk
    rw [State.makeGrant_grant, if_neg]
    · exact hk
    · rintro rfl
      rw [noGrant] at hk
      cases hk
  have clash : ∀ {f : EngineNo} {k : Grant}, s.grant f = some k → quadOf k.request.port ≠ quadOf r.port := by
    intro f k hk quad
    have claimed := (h.claim (quadOf r.port)).mpr ⟨f, k, hk, quad⟩
    rw [unclaimed] at claimed
    cases claimed
  constructor
  · intro f m hm
    obtain ⟨k, hk, rest⟩ := h.measuring f m hm
    exact ⟨k, keep hk, rest⟩
  · intro f k hk acc
    rcases old hk with ⟨rfl, rfl⟩ | hk
    · cases acc
    · exact h.accepted f k hk acc
  · intro q
    rw [State.makeGrant_claimed]
    split_ifs with quad
    · exact ⟨fun _ => ⟨e, ⟨r, false⟩, by rw [State.makeGrant_grant, if_pos rfl], quad⟩, fun _ => rfl⟩
    · rw [h.claim q]
      constructor
      · rintro ⟨f, k, hk, port⟩
        exact ⟨f, k, keep hk, port⟩
      · rintro ⟨f, k, hk, port⟩
        rcases old hk with ⟨rfl, rfl⟩ | hk
        · exact absurd port quad
        · exact ⟨f, k, hk, port⟩
  · intro f f' k k' hk hk' quad
    rcases old hk with ⟨rfl, rfl⟩ | hk
    · rcases old hk' with ⟨rfl, -⟩ | hk'
      · rfl
      · exact absurd quad.symm (clash hk')
    · rcases old hk' with ⟨rfl, rfl⟩ | hk'
      · exact absurd quad (clash hk)
      · exact h.onePerQuad f f' k k' hk hk' quad
  · exact h.oneFilling

theorem State.grantsOk.applyGrantRule {s : State} (h : s.grantsOk) : s.applyGrantRule.grantsOk :=
  State.applyGrantRule_keeps State.grantsOk (fun _ _ _ free pick ht => ht.makeGrant free pick) h

theorem State.grantsOk.release {s : State} (h : s.grantsOk) {e : EngineNo} {m : Measurement}
    (hm : (s.engine e).meas = some m) : (s.release e).grantsOk := by
  rw [h.release_eq hm]
  exact (h.freed hm).applyGrantRule

/-- The grant rule leaves nothing to grant (R111, R115). -/
theorem State.grantsDone_applyGrantRule (s : State) : s.applyGrantRule.grantsDone := by
  rcases s.applyGrantRule_ends with none | none
  · refine .inl fun e free => ?_
    rcases State.freeEngine_eq_none.mp none e with h | h
    · exact h free.1
    · exact h free.2
  · refine .inr fun r hr grantable => ?_
    have := State.pickRequest_eq_none.mp none r hr
    rw [(State.eligible_iff _ r).mpr grantable] at this
    cases this

end Sys2Proof.Machine

namespace Sys2Proof.Machine

/-! ### Changes elsewhere, seen past a port -/

theorem State.grantUpTo_setPort (n : Nat) (s : State) (p : PortNo) (z : Port) :
    State.grantUpTo n (s.setPort p z) = (State.grantUpTo n s).setPort p z := by
  induction n generalizing s with
  | zero => rfl
  | succ n ih =>
    rw [State.grantUpTo, State.grantUpTo, show (s.setPort p z).freeEngine = s.freeEngine from rfl,
      show (s.setPort p z).pickRequest = s.pickRequest from rfl]
    cases s.freeEngine with
    | none => rfl
    | some e =>
      cases s.pickRequest with
      | none => rfl
      | some r => exact ih (s.makeGrant e r)

theorem State.applyGrantRule_setPort (s : State) (p : PortNo) (z : Port) :
    (s.setPort p z).applyGrantRule = s.applyGrantRule.setPort p z := s.grantUpTo_setPort 4 p z

theorem State.endGrant_setPort (s : State) (e : EngineNo) (p : PortNo) (z : Port) :
    (s.setPort p z).endGrant e = (s.endGrant e).setPort p z := by
  rw [State.endGrant, State.endGrant, show (s.setPort p z).grant e = s.grant e from rfl]
  cases s.grant e <;> rfl

theorem State.release_setPort (s : State) (e : EngineNo) (p : PortNo) (z : Port) :
    (s.setPort p z).release e = (s.release e).setPort p z := by
  rw [State.release, State.release, ← State.applyGrantRule_setPort, ← State.endGrant_setPort]
  rfl

theorem State.freeSlab_setPort (s : State) (k : Option SlabNo) (p : PortNo) (z : Port) :
    (s.setPort p z).freeSlab k = (s.freeSlab k).setPort p z := by
  cases k <;> rfl

namespace Moves
variable {o : Bool} {b t : State} {p : PortNo} {y : Port}

theorem release (h : Moves o b t p y) (e : EngineNo) : Moves o (b.release e) (t.release e) p y :=
  h.elsewhere (F := fun s => s.release e) (by simp) fun z => State.release_setPort b e p z

theorem freeSlab (h : Moves o b t p y) (k : Option SlabNo) : Moves o (b.freeSlab k) (t.freeSlab k) p y :=
  h.elsewhere (F := fun s => s.freeSlab k) (State.freeSlab_port b k p) fun z => State.freeSlab_setPort b k p z

theorem endCell (h : Moves o b t p y) (c : CellNo) (st : CellState) (out : JobOutcome) (why : Reason) (start : Ticks) :
    Moves o (b.endCell c st out why start) (t.endCell c st out why start) p y :=
  h.elsewhere (F := fun s => s.endCell c st out why start) (by simp) fun _ => rfl

theorem raiseGlobal (h : Moves o b t p y) (f : GlobalFlag) : Moves o (b.raiseGlobal f) (t.raiseGlobal f) p y :=
  h.elsewhere (F := fun s => s.raiseGlobal f) rfl fun _ => rfl

/-- What an event of the port does not touch is as it was. -/
theorem engineOf (h : Moves o b t p y) (q : PortNo) : t.engineOf q = b.engineOf q := by
  obtain ⟨z, rfl, -, -, -⟩ := h
  rfl

theorem engine (h : Moves o b t p y) (e : EngineNo) : t.engine e = b.engine e := by
  obtain ⟨z, rfl, -, -, -⟩ := h
  rfl

theorem tick (h : Moves o b t p y) : t.tick = b.tick := by
  obtain ⟨z, rfl, -, -, -⟩ := h
  rfl

theorem isReady (h : Moves o b t p y) (q : QuadNo) : t.isReady q = b.isReady q := by
  obtain ⟨z, rfl, -, -, -⟩ := h
  rfl

theorem status (h : Moves o b t p y) : (t.port p).status = y.status := by rw [h.port.eq]

theorem prof (h : Moves o b t p y) : (t.port p).prof = y.prof := by
  rw [h.port.eq]
  rfl

theorem profile (h : Moves o b t p y) : (t.port p).profile = y.profile := by rw [h.port.eq]

theorem jobs (h : Moves o b t p y) : (t.port p).jobs = y.jobs := by rw [h.port.eq]

theorem request (h : Moves o b t p y) : (t.port p).request = y.request := by rw [h.port.eq]

theorem exch (h : Moves o b t p y) : (t.port p).exch = y.exch := by rw [h.port.eq]

theorem runsTrain (h : Moves o b t p y) : (t.port p).runsTrain = y.runsTrain := by
  rw [h.port.eq]
  rfl

end Moves

/-! ### What the operations on one port make of it -/

/-- The link dropped (R22, R80), before the port enters its next state. -/
def Port.linkDropped (x : Port) (tick : Ticks) (why : DownReason) : Port :=
  (((({ x with timers := Timers.stopped, monitor := Monitor.zero } : Port).writeRecord tick (some why)).bump
    .linkDowns).publishTotals).raise .linkDown

/-- A withdrawal is what `withdrawn` says (R114). -/
theorem State.withdraw_eq (s : State) (p : PortNo) : s.withdraw p = s.updPort p Port.withdrawn := by
  cases h : (s.port p).request with
  | none =>
    have same : (s.port p).withdrawn = s.port p := by
      unfold Port.withdrawn
      rw [if_pos h, ← h]
    rw [State.withdraw_none h, State.updPort_id same]
  | some k => simp only [State.withdraw, State.updPort, Port.withdrawn, h, reduceCtorEq, if_false]

theorem Port.blind_charge : Port.Blind fun x => x.charge x.link.rate := by
  intro x n
  show Port.charge { x with editCount := n } x.link.rate = _
  unfold Port.charge
  dsimp only
  have due : ∀ r, Port.downshiftDue { x with editCount := n, status := { x.status with
      failCounts := x.status.failCounts.set r.code (satInc x.status.failCounts[r.code]) } } r =
      Port.downshiftDue { x with status := { x.status with
        failCounts := x.status.failCounts.set r.code (satInc x.status.failCounts[r.code]) } } r := fun _ => rfl
  rw [due]
  split_ifs <;> rfl

namespace Moves
variable {o : Bool} {b t : State} {p : PortNo} {y : Port}

theorem withdraw (h : Moves o b t p y) : Moves o b (t.withdraw p) p y.withdrawn := by
  rw [State.withdraw_eq]
  exact h.upd fun _ _ => rfl

theorem enterState (h : Moves o b t p y) (st : PortState) : Moves o b (t.enterState p st) p (y.enter st) :=
  h.upd fun _ _ => rfl

theorem post (h : Moves o b t p y) (k : ReqKind) :
    Moves o b (t.post p k) p { y with request := some k, outbox := y.outbox ++ [.request k] } :=
  h.upd (f := fun x => { x with request := some k, outbox := x.outbox ++ [.request k] }) fun _ _ => rfl

theorem dropLink (h : Moves o b t p y) (why : DownReason) :
    Moves o b (t.dropLink p why) p (y.linkDropped b.tick why) := by
  have h1 := h.upd (f := fun x => ((({ x with timers := Timers.stopped, monitor := Monitor.zero } : Port).writeRecord
    t.tick (some why)).bump .linkDowns).publishTotals) fun _ _ => rfl
  rw [h.tick] at h1
  rw [State.dropLink, h.tick]
  exact h1.raise .linkDown

theorem chargeRate (h : Moves o b t p y) : Moves o b (t.chargeRate p) p (y.charge y.link.rate) :=
  h.upd Port.blind_charge

theorem removeProfile (h : Moves o b t p y) : Moves o b (t.removeProfile p) p { y with profile := none } :=
  h.upd (f := fun x => { x with profile := none }) fun _ _ => rfl

theorem enterDisabled (h : Moves o b t p y) : Moves o b (t.enterDisabled p) p y.disable :=
  h.upd fun _ _ => rfl

/-- An abort of a port that no engine holds (R15). -/
theorem abortPort_free (h : Moves o b t p y) (free : b.engineOf p = none) (flag : Option (BitVec 5)) :
    Moves o b (t.abortPort p flag) p y.stopActivity.withdrawn := by
  have h1 := h.upd (f := Port.stopActivity) fun _ _ => rfl
  rw [State.abortPort, h1.engineOf, free]
  exact h1.withdraw

/-- An abort without a report of a port that an engine holds (R15, R105). -/
theorem abortPort_held (h : Moves o b t p y) {e : EngineNo} {m : Measurement} (held : b.engineOf p = some e)
    (hm : (b.engine e).meas = some m) :
    Moves o ((b.freeSlab m.filling).release e) (t.abortPort p none) p y.stopActivity := by
  have h1 := h.upd (f := Port.stopActivity) fun _ _ => rfl
  rw [State.abortPort, h1.engineOf, held]
  dsimp only
  rw [State.abortEngine, h1.engine, hm]
  exact (h1.freeSlab m.filling).release e

/-- A report written by the event of its port (R101, R102). -/
theorem writeReport (h : Moves o b t p y) (r : Report) : Moves true b (t.writeReport p r) p (y.reported r) :=
  (h.updOpen (f := fun x => { x with report := r }) fun _ _ => rfl).raise .reportNew

/-- An abort with a report of a port that an engine holds (R15, R105, R106). -/
theorem abortPort_reported (h : Moves o b t p y) {e : EngineNo} {m : Measurement} (held : b.engineOf p = some e)
    (hm : (b.engine e).meas = some m) (holder : m.holder = p) (f : BitVec 5) :
    Moves true ((b.freeSlab m.filling).release e) (t.abortPort p (some f)) p
      (y.stopActivity.reported (m.reportWith (m.flags ||| f) b.tick)) := by
  have h1 := h.upd (f := Port.stopActivity) fun _ _ => rfl
  have tick : ((t.updPort p Port.stopActivity).freeSlab m.filling).tick = b.tick := by
    rw [← h1.tick]
    cases m.filling <;> rfl
  rw [State.abortPort, h1.engineOf, held]
  dsimp only
  rw [State.abortEngine, h1.engine, hm]
  dsimp only
  rw [tick, holder]
  exact ((h1.freeSlab m.filling).writeReport _).release e

end Moves
end Sys2Proof.Machine

namespace Sys2Proof.Machine

/-! ## STOP (R161) -/

/-- What one turn of a list brings about, and the others neither need nor undo. -/
theorem State.forEach_at {α : Type} {f : State → α → State} {x : α} {Before After : State → Prop} :
    ∀ {xs : List α}, xs.Nodup → x ∈ xs → (∀ s y, y ∈ xs → y ≠ x → Before s → Before (f s y)) →
      (∀ s, Before s → After (f s x)) → (∀ s y, y ∈ xs → y ≠ x → After s → After (f s y)) →
      ∀ {s : State}, Before s → After (s.forEach xs f)
  | y :: ys, nodup, mem, before, turn, after, s, h => by
    obtain ⟨fresh, rest⟩ := List.nodup_cons.mp nodup
    have keep : ∀ (zs : List α), (∀ z ∈ zs, z ∈ y :: ys ∧ z ≠ x) → ∀ {s}, After s → After (s.forEach zs f) := by
      intro zs
      induction zs with
      | nil => exact fun _ _ h => h
      | cons z zs ih =>
        intro hz s hs
        obtain ⟨mem, other⟩ := hz z List.mem_cons_self
        exact ih (fun w hw => hz w (List.mem_cons_of_mem _ hw)) (after s z mem other hs)
    rw [State.forEach_cons]
    rcases List.mem_cons.mp mem with rfl | mem
    · exact keep ys (fun z hz => ⟨List.mem_cons_of_mem _ hz, fun e => fresh (e ▸ hz)⟩) (turn s h)
    · have other : y ≠ x := fun e => fresh (e ▸ mem)
      exact State.forEach_at rest mem (fun s z hz => before s z (List.mem_cons_of_mem _ hz)) turn
        (fun s z hz => after s z (List.mem_cons_of_mem _ hz)) (before s y List.mem_cons_self other h)

/-! ### Engines and slabs -/

theorem State.slabFilling_iff (s : State) (k : SlabNo) :
    s.slabFilling k = true ↔ ∃ (e : EngineNo) (m : Measurement), (s.engine e).meas = some m ∧ m.filling = some k := by
  simp only [State.slabFilling, List.any_eq_true, List.mem_finRange, true_and]
  refine exists_congr fun e => ?_
  cases hm : (s.engine e).meas with
  | none => simp
  | some m => simp

theorem State.engineOf_eq_none {s : State} {p : PortNo} (h : s.engineOf p = none) {e : EngineNo} {m : Measurement}
    (hm : (s.engine e).meas = some m) : m.holder ≠ p := by
  have found := List.find?_eq_none.mp h e (List.mem_finRange e)
  simpa [hm] using found

theorem State.engineOf_eq_none_of {s : State} {p : PortNo}
    (h : ∀ (e : EngineNo) (m : Measurement), (s.engine e).meas = some m → m.holder ≠ p) : s.engineOf p = none := by
  refine List.find?_eq_none.mpr fun e _ => ?_
  cases hm : (s.engine e).meas with
  | none => simp
  | some m => simpa [hm] using h e m hm

/-! ### The arbiter's share (R118) -/

/-- Every grant not accepted is turned back, from the engines of a list. -/
structure State.Arbitrated (s u : State) (es : List EngineNo) : Prop where
  frame : ∃ engines grants claims, u = { s with requests := [], engines := engines, grants := grants, claims := claims }
  agree : u.grantsOk
  meas : ∀ e, (u.engine e).meas = (s.engine e).meas
  accepted : ∀ e g, e ∉ es → u.grant e = some g → g.accepted = true
  waits : ∀ e ∈ es, u.grant e = s.grant e ∧ (u.engine e).unused = (s.engine e).unused
  unused : ∀ e, e ∉ es → (u.engine e).unused =
    if (s.engine e).meas = none ∧ s.grant e ≠ none then oneMore (s.engine e).unused else (s.engine e).unused

theorem State.stopGrant_arbitrated {s u : State} (ok : s.grantsOk) {e : EngineNo} {es : List EngineNo}
    (fresh : e ∉ es) (h : s.Arbitrated u (e :: es)) : s.Arbitrated (u.stopGrant e) es := by
  obtain ⟨⟨engines, grants, claims, frame⟩, agree, meas, accepted, waits, unused⟩ := h
  obtain ⟨sameGrant, sameUnused⟩ := waits e List.mem_cons_self
  have later : ∀ {f}, f ∈ es → f ∈ e :: es := fun hf => List.mem_cons_of_mem _ hf
  have split : ∀ {f}, f ∉ es → f = e ∨ f ∉ e :: es := fun {f} hf => by
    by_cases same : f = e
    · exact .inl same
    · exact .inr fun mem => (List.mem_cons.mp mem).elim same hf
  cases hg : s.grant e with
  | none =>
    rw [hg] at sameGrant
    have idle : u.stopGrant e = u := by rw [State.stopGrant, sameGrant]
    rw [idle]
    refine ⟨⟨engines, grants, claims, frame⟩, agree, meas, fun f g hf hfg => ?_, fun f hf => waits f (later hf),
      fun f hf => ?_⟩
    · rcases split hf with rfl | hf
      · rw [sameGrant] at hfg
        cases hfg
      · exact accepted f g hf hfg
    · rcases split hf with rfl | hf
      · rw [sameUnused, if_neg fun c => c.2 hg]
      · exact unused f hf
  | some g =>
    rw [hg] at sameGrant
    cases hacc : g.accepted with
    | true =>
      have idle : u.stopGrant e = u := by rw [State.stopGrant, sameGrant]; exact if_pos hacc
      rw [idle]
      refine ⟨⟨engines, grants, claims, frame⟩, agree, meas, fun f g' hf hfg => ?_, fun f hf => waits f (later hf),
        fun f hf => ?_⟩
      · rcases split hf with rfl | hf
        · rw [sameGrant] at hfg
          injection hfg with hfg
          exact hfg ▸ hacc
        · exact accepted f g' hf hfg
      · rcases split hf with rfl | hf
        · rw [sameUnused, if_neg fun c => ok.accepted f g hg hacc c.1]
        · exact unused f hf
    | false =>
      have turned : u.stopGrant e = u.turnedBack e g.request.port := by
        rw [State.stopGrant, sameGrant, ← State.turnBack_eq sameGrant]
        exact if_neg (by rw [hacc]; exact Bool.false_ne_true)
      have free := ok.free_of_waiting hg hacc
      rw [turned]
      refine ⟨⟨_, _, _, by rw [State.turnedBack, frame]; rfl⟩, agree.turnedBack sameGrant hacc,
        fun f => (u.turnedBack_meas e f _).trans (meas f), fun f g' hf hfg => ?_, fun f hf => ?_, fun f hf => ?_⟩
      · rw [State.turnedBack_grant] at hfg
        split_ifs at hfg with same
        exact accepted f g' ((split hf).resolve_left fun e' => same e'.symm) hfg
      · have other : e ≠ f := fun same => fresh (same ▸ hf)
        rw [State.turnedBack_grant, if_neg other, State.turnedBack_engine, if_neg other]
        exact waits f (later hf)
      · rw [State.turnedBack_engine]
        split_ifs with same cond cond
        · rw [sameUnused, same]
        · exact absurd ⟨same ▸ free, by rw [← same, hg]; exact Option.some_ne_none g⟩ cond
        · rw [unused f ((split hf).resolve_left fun e' => same e'.symm), if_pos cond]
        · rw [unused f ((split hf).resolve_left fun e' => same e'.symm), if_neg cond]

theorem State.stopArbiter_arbitrated {s : State} (ok : s.grantsOk) : s.Arbitrated s.stopArbiter [] := by
  have all : ∀ (es : List EngineNo), es.Nodup → ∀ {u}, s.Arbitrated u es → s.Arbitrated (u.forEach es State.stopGrant) [] := by
    intro es
    induction es with
    | nil => exact fun _ _ h => h
    | cons e es ih =>
      intro nodup u h
      obtain ⟨fresh, rest⟩ := List.nodup_cons.mp nodup
      exact ih rest (State.stopGrant_arbitrated ok fresh h)
  refine all (List.finRange 4) (List.nodup_finRange 4) ⟨⟨_, _, _, rfl⟩, ?_, fun _ => rfl, fun e _ he => ?_,
    fun _ _ => ⟨rfl, rfl⟩, fun e he => ?_⟩
  · exact ok.of_parts rfl rfl rfl
  · exact absurd (List.mem_finRange e) he
  · exact absurd (List.mem_finRange e) he

end Sys2Proof.Machine

namespace Sys2Proof.Machine

/-! ### The ports' share (R23) -/

/-- What the share of STOP makes of a port, but for its jobs. -/
def Port.stoppedDown (x : Port) (tick : Ticks) : Port :=
  { ({ (if x.status.state = .linked then x.linkDropped tick .stopped else x).stopActivity with
      profile := none } : Port).disable with request := none, outbox := [] }

theorem State.freeSlab_parts (s : State) (k : Option SlabNo) : s.freeSlab k = { s with mem := (s.freeSlab k).mem } := by
  cases k <;> rfl

/-- The share of STOP of port p, from the state b of everything else (R23). -/
theorem Moves.stopPort (s : State) (p : PortNo) :
    (s.engineOf p = none → ∃ o, Moves o s (s.stopPort p) p ((s.port p).stoppedDown s.tick)) ∧
      ∀ e m, s.engineOf p = some e → (s.engine e).meas = some m →
        ∃ o, Moves o ((s.freeSlab m.filling).release e) (s.stopPort p) p ((s.port p).stoppedDown s.tick) := by
  set y : Port := if (s.port p).status.state = .linked then (s.port p).linkDropped s.tick .stopped else s.port p
  have h1 : Moves false s (if (s.port p).status.state = .linked then s.dropLink p .stopped else s) p y := by
    show Moves false s _ p (if (s.port p).status.state = .linked then _ else _)
    split_ifs
    · exact (Moves.start s p).dropLink .stopped
    · exact Moves.start s p
  have rest : ∀ {o b t z}, Moves o b t p z →
      Moves o b (((t.removeProfile p).enterDisabled p).updPort p fun x => { x with request := none, outbox := [] }) p
        { ({ z with profile := none } : Port).disable with request := none, outbox := [] } := fun h =>
    h.removeProfile.enterDisabled.upd (f := fun x => { x with request := none, outbox := [] }) fun _ _ => rfl
  constructor
  · intro free
    exact ⟨_, (rest (h1.abortPort_free free none)).as rfl⟩
  · intro e m held hm
    exact ⟨_, (rest (h1.abortPort_held held hm)).as rfl⟩

/-- Between the arbiter's share a of STOP and u only ports and their engines have been stopped. -/
structure State.Clearing (a u : State) : Prop where
  frame : ∃ ports engines grants claims mem,
    u = { a with ports := ports, engines := engines, grants := grants, claims := claims, mem := mem }
  agree : u.grantsOk
  accepted : ∀ e g, u.grant e = some g → g.accepted = true
  unused : ∀ e, (u.engine e).unused = (a.engine e).unused
  meas : ∀ e m, (u.engine e).meas = some m → (a.engine e).meas = some m
  canonical : a.memOk → u.memOk
  freed : a.memOk → ∀ k, a.slabFilling k = true → u.slabFilling k = true ∨ u.readMem (ownerAddr k) = 0
  kept : a.memOk → ∀ b, (∀ k, a.slabFilling k = true → b ≠ ownerAddr k) → u.readMem b = a.readMem b

/-- No engine holds port p. -/
def State.unheld (s : State) (p : PortNo) : Prop :=
  ∀ (e : EngineNo) (m : Measurement), (s.engine e).meas = some m → m.holder ≠ p

theorem ownerAddr_inj {k l : SlabNo} (h : ownerAddr k = ownerAddr l) : k = l := by
  unfold ownerAddr at h
  exact Fin.ext (by omega)

/-- A FREE written for a filling slab (R89). -/
theorem State.readMem_freeSlab {s : State} (h : s.memOk) (k : Option SlabNo) (b : Nat) :
    (s.freeSlab k).readMem b = if ∃ l, k = some l ∧ ownerAddr l = b then 0 else s.readMem b := by
  cases k with
  | none => simp [State.freeSlab]
  | some k =>
    rw [State.freeSlab, State.readMem_writeMem _ _ _ _ h]
    simp [ownerFree]

theorem State.freed_readMem (s : State) (e : EngineNo) (p : PortNo) (b : Nat) :
    (s.freed e p).readMem b = s.readMem b := rfl

/-- With no request waiting a release is no more than the engine freed. -/
theorem State.grantsOk.release_idle {s : State} (h : s.grantsOk) {e : EngineNo} {m : Measurement}
    (hm : (s.engine e).meas = some m) (idle : s.requests = []) : s.release e = s.freed e m.holder := by
  rw [h.release_eq hm]
  exact State.applyGrantRule_noRequests (by exact idle)

theorem State.Clearing.setPort {a u : State} (h : a.Clearing u) (p : PortNo) (z : Port) : a.Clearing (u.setPort p z) := by
  obtain ⟨⟨ports, engines, grants, claims, mem, frame⟩, agree, accepted, unused, meas, canonical, freed, kept⟩ := h
  refine ⟨⟨u.ports.set p z, engines, grants, claims, mem, ?_⟩, agree.of_parts rfl rfl rfl, accepted, unused, meas,
    canonical, freed, kept⟩
  rw [State.setPort, frame]

/-- A slab let go stays in the frame of a stop. -/
theorem State.freed_frame (u : State) (k : Option SlabNo) (e : EngineNo) (p : PortNo) :
    ∃ engines grants claims mem, (u.freeSlab k).freed e p =
      { u with engines := engines, grants := grants, claims := claims, mem := mem } := by
  rw [u.freeSlab_parts k]
  exact ⟨_, _, _, _, rfl⟩

theorem State.meas_of_freed {u : State} {k : Option SlabNo} {e f : EngineNo} {p : PortNo} {n : Measurement}
    (h : (((u.freeSlab k).freed e p).engine f).meas = some n) : e ≠ f ∧ (u.engine f).meas = some n := by
  rw [State.freed_engine, State.freeSlab_engine, State.freeSlab_engine] at h
  split_ifs at h with same
  exact ⟨same, h⟩

/-- Within a stop an engine is freed with the slab that was filling (R115, R89). -/
theorem State.Clearing.freeing {a u : State} (h : a.Clearing u) {e : EngineNo} {m : Measurement}
    (hm : (u.engine e).meas = some m) : a.Clearing ((u.freeSlab m.filling).freed e m.holder) := by
  obtain ⟨⟨ports, engines, grants, claims, mem, frame⟩, agree, accepted, unused, meas, canonical, freed, kept⟩ := h
  obtain ⟨engines', grants', claims', mem', shape⟩ := u.freed_frame m.filling e m.holder
  have agree' : (u.freeSlab m.filling).grantsOk := by
    rw [State.freeSlab_parts]
    exact agree.of_parts rfl rfl rfl
  refine ⟨⟨ports, engines', grants', claims', mem', ?_⟩, agree'.freed (by rw [State.freeSlab_engine]; exact hm),
    fun f g hg => ?_, fun f => ?_, fun f n hn => meas f n (State.meas_of_freed hn).2,
    fun ok => State.memOk_freeSlab (canonical ok) m.filling, fun ok k hk => ?_, fun ok b hb => ?_⟩
  · rw [shape, frame]
  · rw [State.freed_grant, State.freeSlab_parts] at hg
    split_ifs at hg
    exact accepted f g hg
  · rw [State.freed_engine, State.freeSlab_engine, State.freeSlab_engine]
    split_ifs with same
    · rw [← same]
      exact unused e
    · exact unused f
  · rw [State.freed_readMem, State.readMem_freeSlab (canonical ok)]
    rcases freed ok k hk with filling | free
    · obtain ⟨f, n, hn, fills⟩ := (u.slabFilling_iff k).mp filling
      by_cases same : e = f
      · subst same
        rw [hm] at hn
        injection hn with hn
        exact .inr (if_pos ⟨k, hn ▸ fills, rfl⟩)
      · refine .inl ((State.slabFilling_iff _ k).mpr ⟨f, n, ?_, fills⟩)
        rw [State.freed_engine, if_neg same, State.freeSlab_engine]
        exact hn
    · refine .inr ?_
      split_ifs
      · rfl
      · exact free
  · rw [State.freed_readMem, State.readMem_freeSlab (canonical ok), if_neg]
    · exact kept ok b hb
    · rintro ⟨l, fills, addr⟩
      exact hb l ((a.slabFilling_iff l).mpr ⟨e, m, meas e m hm, fills⟩) addr.symm

/-- One port's share of STOP (R23). -/
theorem State.Clearing.stopPort {a u : State} (idle : a.requests = []) (h : a.Clearing u) (p : PortNo) :
    a.Clearing (u.stopPort p) ∧ (u.stopPort p).unheld p ∧ (∀ q, u.unheld q → (u.stopPort p).unheld q) ∧
      ((u.stopPort p).port p).Alike ((u.port p).stoppedDown a.tick) ∧
      ∀ q, q ≠ p → (u.stopPort p).port q = u.port q := by
  obtain ⟨ports, engines, grants, claims, mem, frame⟩ := h.frame
  have tick : u.tick = a.tick := by rw [frame]
  obtain ⟨whenFree, whenHeld⟩ := Moves.stopPort u p
  rw [tick] at whenFree whenHeld
  cases held : u.engineOf p with
  | none =>
    obtain ⟨o, moves⟩ := whenFree held
    refine ⟨?_, ?_, ?_, moves.port, fun q => moves.port_ne⟩ <;> obtain ⟨z, shape, -⟩ := moves <;> rw [shape]
    · exact h.setPort p z
    · exact fun f m hm => State.engineOf_eq_none held hm
    · exact fun q hq => hq
  | some e =>
    obtain ⟨m, hm, holder⟩ := State.holds_of_engineOf held
    obtain ⟨o, moves⟩ := whenHeld e m held hm
    have released : (u.freeSlab m.filling).release e = (u.freeSlab m.filling).freed e m.holder := by
      refine State.grantsOk.release_idle ?_ (by rw [State.freeSlab_engine]; exact hm) ?_
      · rw [State.freeSlab_parts]
        exact h.agree.of_parts rfl rfl rfl
      · rw [State.freeSlab_parts, frame]
        exact idle
    rw [released] at moves
    refine ⟨?_, ?_, ?_, moves.port, fun q hq => ?_⟩
    · obtain ⟨z, shape, -⟩ := moves
      rw [shape]
      exact (h.freeing hm).setPort p z
    · obtain ⟨z, shape, -⟩ := moves
      rw [shape]
      intro f n hn same
      obtain ⟨other, hn⟩ := State.meas_of_freed (p := m.holder) hn
      exact other (h.agree.holder_unique hm hn (holder.trans same.symm))
    · obtain ⟨z, shape, -⟩ := moves
      rw [shape]
      exact fun q hq f n hn => hq f n (State.meas_of_freed (p := m.holder) hn).2
    · exact (moves.port_ne hq).trans (State.freeSlab_port _ _ _)

end Sys2Proof.Machine

namespace Sys2Proof.Machine

/-! ## Cells before and after -/

theorem State.setCustody_custodyOf (s : State) (c d : CellNo) (k : Custody) :
    (s.setCustody c k).custodyOf d = if c = d then k else s.custodyOf d := by
  simp only [State.setCustody, State.custodyOf, Fin.getElem_fin, Vector.getElem_set, Fin.ext_iff]

theorem inCellHead_word {c : CellNo} {i : Nat} (h : i < 8) : inCellHead c (cellBase c + i) := by
  unfold inCellHead
  omega

/-- Two cells share no word. -/
theorem not_inCellHead_of_ne {c d : CellNo} (h : d ≠ c) {a : Nat} (ha : inCellHead d a) : ¬ inCellHead c a := by
  have hv : c.val ≠ d.val := fun e => h (Fin.ext e.symm)
  unfold inCellHead cellBase at *
  omega

/-- No cell shares a word with the owner words of the slabs. -/
theorem ownerAddr_not_inCellHead (k : SlabNo) (c : CellNo) : ¬ inCellHead c (ownerAddr k) := by
  have hk := k.isLt
  unfold inCellHead cellBase ownerAddr
  omega

theorem packWord_outcome (out why : Nat) : packWord [(8, out), (0, why)] = BitVec.ofNat 16 (256 * out + why) := by
  unfold packWord
  congr 1
  simp only [List.foldr]
  omega

theorem State.endCell_custodyOf (s : State) (c d : CellNo) (st : CellState) (out : JobOutcome) (why : Reason)
    (start : Ticks) : (s.endCell c st out why start).custodyOf d = if c = d then .outside else s.custodyOf d := by
  rw [State.endCell_eq, State.setCustody_custodyOf]
  simp only [State.writeMem_custodyOf]

/-- Only work memory and custody differ. -/
def State.SameButCells (s t : State) : Prop := ∃ mem custody, t = { s with mem := mem, custody := custody }

theorem State.SameButCells.writeMem {s t : State} (h : s.SameButCells t) (a : Nat) (v : Word) :
    s.SameButCells (t.writeMem a v) := by
  obtain ⟨mem, custody, rfl⟩ := h
  exact ⟨_, custody, rfl⟩

theorem State.SameButCells.setCustody {s t : State} (h : s.SameButCells t) (c : CellNo) (k : Custody) :
    s.SameButCells (t.setCustody c k) := by
  obtain ⟨mem, custody, rfl⟩ := h
  exact ⟨mem, _, rfl⟩

theorem State.endCell_frame (s : State) (c : CellNo) (st : CellState) (out : JobOutcome) (why : Reason) (start : Ticks) :
    s.SameButCells (s.endCell c st out why start) := by
  have same : s.SameButCells s := ⟨_, _, rfl⟩
  rw [State.endCell_eq]
  exact ((((((same.writeMem _ _).writeMem _ _).writeMem _ _).writeMem _ _).writeMem _ _).writeMem _ _).setCustody _ _

/-- An ended cell changes no word but the first eight of its own (R135). -/
theorem State.endCell_readMem {s : State} (h : s.memOk) {c : CellNo} {a : Nat} (out : ¬ inCellHead c a) (st : CellState)
    (o : JobOutcome) (why : Reason) (start : Ticks) : (s.endCell c st o why start).readMem a = s.readMem a := by
  have far : ∀ i, i < 8 → a ≠ cellBase c + i := fun i hi e => out (e ▸ inCellHead_word hi)
  rw [State.endCell_reads h, if_neg (by simpa using far 0 (by omega)), if_neg (far 3 (by omega)), if_neg (far 4 (by omega)),
    if_neg (far 5 (by omega)), if_neg (far 6 (by omega)), if_neg (far 7 (by omega))]

/-- What an end writes is what the ended cell reads (R135, R136). -/
theorem State.endCell_ended {s : State} (h : s.memOk) (c : CellNo) (st : CellState) (out : JobOutcome) (why : Reason)
    (start : Ticks) :
    (s.endCell c st out why start).cellEnded c st.code out.code why.code start s.tick := by
  refine ⟨?_, ?_, ?_, ?_, ?_, ?_, ?_⟩
  · rw [State.cellWord, State.endCell_reads h, if_pos (Nat.add_zero _)]
  · rw [State.cellWord, State.endCell_reads h, if_neg (by omega), if_pos rfl, packWord_outcome]
  · rw [State.cellWord, State.endCell_reads h, if_neg (by omega), if_neg (by omega), if_pos rfl]
    rfl
  · rw [State.cellWord, State.endCell_reads h, if_neg (by omega), if_neg (by omega), if_neg (by omega), if_pos rfl]
    rfl
  · rw [State.cellWord, State.endCell_reads h, if_neg (by omega), if_neg (by omega), if_neg (by omega),
      if_neg (by omega), if_pos rfl]
    rfl
  · rw [State.cellWord, State.endCell_reads h, if_neg (by omega), if_neg (by omega), if_neg (by omega),
      if_neg (by omega), if_neg (by omega), if_pos rfl]
    rfl
  · rw [State.endCell_custodyOf, if_pos rfl]

/-- A cell reads the same where its first words and its custody are the same. -/
theorem State.cellEnded_of_same {s t : State} {c : CellNo} {st : Word} {out why : Nat} {start stop : Ticks}
    (h : s.cellEnded c st out why start stop) (mem : ∀ a, inCellHead c a → t.readMem a = s.readMem a)
    (custody : t.custodyOf c = s.custodyOf c) : t.cellEnded c st out why start stop := by
  obtain ⟨w0, w3, w4, w5, w6, w7, outside⟩ := h
  have word : ∀ i, i < 8 → t.cellWord c i = s.cellWord c i := fun i hi => mem _ (inCellHead_word hi)
  exact ⟨(word 0 (by omega)).trans w0, (word 3 (by omega)).trans w3, (word 4 (by omega)).trans w4,
    (word 5 (by omega)).trans w5, (word 6 (by omega)).trans w6, (word 7 (by omega)).trans w7, custody.trans outside⟩

/-- The end of another cell leaves an ended cell as it reads. -/
theorem State.cellEnded_endCell {s : State} (hm : s.memOk) {c d : CellNo} {w : Word} {o y : Nat} {start stop : Ticks}
    (h : s.cellEnded c w o y start stop) (other : d ≠ c) (st : CellState) (out : JobOutcome) (why : Reason)
    (start' : Ticks) : (s.endCell d st out why start').cellEnded c w o y start stop :=
  State.cellEnded_of_same h (fun _ ha => State.endCell_readMem hm (not_inCellHead_of_ne other.symm ha) _ _ _ _)
    (by rw [State.endCell_custodyOf, if_neg other])

end Sys2Proof.Machine

namespace Sys2Proof.Machine

/-! ### Intake's share (R150) -/

/-- The cell waits in the queue or in a list. -/
def State.holdsCell (s : State) (c : CellNo) : Prop := c ∈ s.intakeQueue ∨ ∃ p, s.inList p c

/-- Between u and v cells that u holds have been ended, and lists emptied. -/
structure State.Halting (u v : State) : Prop where
  frame : ∃ mem custody ports queue due,
    v = { u with mem := mem, custody := custody, ports := ports, intakeQueue := queue, intakeDue := due }
  canonical : u.memOk → v.memOk
  lists : ∀ q j, j ∈ (v.port q).jobs → j ∈ (u.port q).jobs
  kept : u.memOk → ∀ a, (∀ c, u.holdsCell c → ¬ inCellHead c a) → v.readMem a = u.readMem a

namespace State.Halting
variable {u v : State}

theorem start (u : State) : u.Halting u := ⟨⟨_, _, _, _, _, rfl⟩, id, fun _ _ h => h, fun _ _ _ => rfl⟩

theorem tick (h : u.Halting v) : v.tick = u.tick := by
  obtain ⟨mem, custody, ports, queue, due, frame⟩ := h.frame
  rw [frame]

theorem arbiter (h : u.Halting v) : v.engines = u.engines ∧ v.grants = u.grants ∧ v.claims = u.claims := by
  obtain ⟨mem, custody, ports, queue, due, rfl⟩ := h.frame
  exact ⟨rfl, rfl, rfl⟩

theorem engine (h : u.Halting v) (e : EngineNo) : v.engine e = u.engine e := by
  rw [State.engine, State.engine, h.arbiter.1]

theorem grant (h : u.Halting v) (e : EngineNo) : v.grant e = u.grant e := by
  rw [State.grant, State.grant, h.arbiter.2.1]

theorem claimed (h : u.Halting v) (q : QuadNo) : v.claimed q = u.claimed q := by
  rw [State.claimed, State.claimed, h.arbiter.2.2]

theorem stopCell (h : u.Halting v) {c : CellNo} (held : u.holdsCell c) (start : Ticks) :
    u.Halting (v.stopCell c start) := by
  obtain ⟨⟨mem, custody, ports, queue, due, frame⟩, canonical, lists, kept⟩ := h
  obtain ⟨mem', custody', shape⟩ := v.endCell_frame c .cancelled .none .stopped start
  refine ⟨⟨mem', custody', ports, queue, due, ?_⟩, fun hm => State.memOk_endCell (canonical hm) _ _ _ _ _,
    fun q j hj => lists q j ?_, fun hm a ha => ?_⟩
  · rw [State.stopCell, shape, frame]
  · rwa [State.stopCell, State.endCell_port] at hj
  · exact (State.endCell_readMem (canonical hm) (ha c held) _ _ _ _).trans (kept hm a ha)

theorem setPort (h : u.Halting v) {p : PortNo} {x : Port} (jobs : ∀ j ∈ x.jobs, j ∈ (v.port p).jobs) :
    u.Halting (v.setPort p x) := by
  obtain ⟨⟨mem, custody, ports, queue, due, frame⟩, canonical, lists, kept⟩ := h
  refine ⟨⟨mem, custody, v.ports.set p x, queue, due, ?_⟩, canonical, fun q j hj => ?_, kept⟩
  · rw [State.setPort, frame]
  · rw [State.port_setPort] at hj
    split_ifs at hj with same
    · exact lists q j (same ▸ jobs j hj)
    · exact lists q j hj

theorem updPort (h : u.Halting v) {p : PortNo} {f : Port → Port} (jobs : ∀ j ∈ (f (v.port p)).jobs, j ∈ (v.port p).jobs) :
    u.Halting (v.updPort p f) := by
  obtain ⟨y, e, hy⟩ : ∃ y, v.updPort p f = v.setPort p y ∧ y.jobs = (f (v.port p)).jobs := by
    rw [State.updPort_eq]
    split_ifs
    · exact ⟨_, rfl, rfl⟩
    · exact ⟨_, rfl, by rw [Port.openEdit_eq]⟩
  rw [e]
  exact h.setPort (hy ▸ jobs)

theorem raise (h : u.Halting v) (p : PortNo) (f : PortFlag) : u.Halting (v.raisePort p f) := h.setPort fun _ h => h

theorem stopJob (h : u.Halting v) {p : PortNo} {j : Job} (held : j ∈ (u.port p).jobs) : u.Halting (v.stopJob p j) :=
  (h.stopCell (.inr ⟨p, List.mem_map_of_mem held⟩) _).raise p _

end State.Halting

/-- What turns keep along, and some turn brings about. -/
theorem State.forEach_after {α : Type} {Inv After : State → Prop} {f : State → α → State} {x : α} :
    ∀ {xs : List α}, x ∈ xs → (∀ s, ∀ y ∈ xs, Inv s → Inv (f s y)) → (∀ s, Inv s → After (f s x)) →
      (∀ s, ∀ y ∈ xs, Inv s → After s → After (f s y)) → ∀ {s : State}, Inv s → After (s.forEach xs f)
  | y :: ys, mem, inv, turn, after, s, h => by
    have keep : ∀ (zs : List α), (∀ z ∈ zs, z ∈ y :: ys) → ∀ {s}, Inv s → After s → After (s.forEach zs f) := by
      intro zs
      induction zs with
      | nil => exact fun _ _ _ h => h
      | cons z zs ih =>
        intro hz s hs ha
        have mem := hz z List.mem_cons_self
        exact ih (fun w hw => hz w (List.mem_cons_of_mem _ hw)) (inv s z mem hs) (after s z mem hs ha)
    rw [State.forEach_cons]
    rcases List.mem_cons.mp mem with rfl | mem
    · exact keep ys (fun z hz => List.mem_cons_of_mem _ hz) (inv s _ List.mem_cons_self h) (turn s h)
    · exact State.forEach_after mem (fun s z hz => inv s z (List.mem_cons_of_mem _ hz)) turn
        (fun s z hz => after s z (List.mem_cons_of_mem _ hz)) (inv s y List.mem_cons_self h)

/-- What each turn keeps, the whole row keeps. -/
theorem State.forEach_keepsOn {α : Type} {P : State → Prop} {f : State → α → State} :
    ∀ {xs : List α}, (∀ s, ∀ x ∈ xs, P s → P (f s x)) → ∀ {s : State}, P s → P (s.forEach xs f)
  | [], _, _, h => h
  | x :: _, keep, s, h =>
    State.forEach_keepsOn (fun s y hy => keep s y (List.mem_cons_of_mem _ hy)) (keep s x List.mem_cons_self h)

/-- What speaks of cells alone: no port of the state is read, nor the queue. -/
structure SpeaksOfCells (P : State → Prop) : Prop where
  port : ∀ {s : State} (p : PortNo) (x : Port), P s → P (s.setPort p x)
  emptied : ∀ {s : State}, P s → P { s with intakeQueue := [], intakeDue := false }

theorem SpeaksOfCells.updPort {P : State → Prop} (h : SpeaksOfCells P) {s : State} (p : PortNo) (f : Port → Port)
    (hs : P s) : P (s.updPort p f) := by
  rw [State.updPort_eq]
  split_ifs <;> exact h.port p _ hs

theorem speaksOfCells_ended (c : CellNo) (w : Word) (out why : Nat) (start stop : Ticks) :
    SpeaksOfCells fun s => s.cellEnded c w out why start stop := ⟨fun _ _ h => h, fun h => h⟩

/-- The cell reads CANCELLED / STOPPED, ended at this tick, and is with the host again (R150). -/
def State.cellStopped (T : Ticks) (c : CellNo) (s : State) : Prop :=
  s.cellWord c 0 = 6 ∧ s.cellWord c 3 = 7 ∧ s.cellWord c 6 = T.extractLsb' 16 16 ∧
    s.cellWord c 7 = T.extractLsb' 0 16 ∧ s.custodyOf c = .outside

theorem State.cellStopped_of_ended {s : State} {T start : Ticks} {c : CellNo} (h : s.cellEnded c 6 0 7 start T) :
    s.cellStopped T c := by
  obtain ⟨w0, w3, -, -, w6, w7, outside⟩ := h
  exact ⟨w0, w3, w6, w7, outside⟩

theorem State.stopCell_ended {v : State} (h : v.memOk) (c : CellNo) (start : Ticks) :
    (v.stopCell c start).cellEnded c 6 0 7 start v.tick :=
  State.endCell_ended h c .cancelled .none .stopped start

theorem State.stopCell_stopped {v : State} {T : Ticks} (h : v.memOk) (tick : v.tick = T) (c d : CellNo) (start : Ticks)
    (stopped : c = d ∨ v.cellStopped T c) : (v.stopCell d start).cellStopped T c := by
  by_cases same : d = c
  · subst same
    exact State.cellStopped_of_ended (tick ▸ State.stopCell_ended h d start)
  · obtain ⟨w0, w3, w6, w7, outside⟩ := stopped.resolve_left fun e => same e.symm
    have word : ∀ i, i < 8 → (v.stopCell d start).cellWord c i = v.cellWord c i := fun i hi =>
      State.endCell_readMem h (not_inCellHead_of_ne (Ne.symm same) (inCellHead_word hi)) _ _ _ _
    exact ⟨(word 0 (by omega)).trans w0, (word 3 (by omega)).trans w3, (word 6 (by omega)).trans w6,
      (word 7 (by omega)).trans w7, by rw [State.stopCell, State.endCell_custodyOf, if_neg same]; exact outside⟩

namespace State.Halting
variable {u v : State} {P : State → Prop}

/-- A list of one port stopped keeps what the end of each of its cells keeps. -/
theorem stopList (cells : SpeaksOfCells P) {p : PortNo}
    (keep : ∀ v d start, u.inList p d → u.Halting v → P v → P (v.stopCell d start)) (h : u.Halting v) (hp : P v) :
    u.Halting (v.stopList p) ∧ P (v.stopList p) := by
  have turns : u.Halting (v.forEach (v.port p).jobs fun s j => s.stopJob p j) ∧
      P (v.forEach (v.port p).jobs fun s j => s.stopJob p j) :=
    State.forEach_keepsOn (P := fun s => u.Halting s ∧ P s) (fun s j hj ⟨hs, hps⟩ =>
      ⟨hs.stopJob (h.lists p j hj), cells.port p _ (keep s j.cell _ (List.mem_map_of_mem (h.lists p j hj)) hs hps)⟩) ⟨h, hp⟩
  exact ⟨turns.1.updPort (fun _ h => absurd h List.not_mem_nil), cells.updPort p _ turns.2⟩

theorem stopList_halting (h : u.Halting v) (p : PortNo) : u.Halting (v.stopList p) :=
  (h.stopList (P := fun _ => True) ⟨fun _ _ h => h, fun h => h⟩ (fun _ _ _ _ _ _ => trivial) trivial).1

/-- The lists of these ports stopped keep what the end of each of their cells keeps. -/
theorem stopLists (cells : SpeaksOfCells P) {ps : List PortNo}
    (keep : ∀ p ∈ ps, ∀ v d start, u.inList p d → u.Halting v → P v → P (v.stopCell d start)) (h : u.Halting v)
    (hp : P v) : u.Halting (v.forEach ps State.stopList) ∧ P (v.forEach ps State.stopList) :=
  State.forEach_keepsOn (P := fun s => u.Halting s ∧ P s) (fun _ p hps ⟨hs, hp⟩ => hs.stopList cells (keep p hps) hp) ⟨h, hp⟩

end State.Halting

/-! ### The ports under intake's share -/

/-- A port whose list is stopped (R150, R147). -/
def Port.listStopped (x : Port) : Port :=
  { x with
    jobs := [], status := { x.status with running := none }
    news := if x.jobs = [] then x.news else x.news ||| 1 }

theorem Port.Alike.listStopped {x y : Port} (h : x.Alike y) : x.listStopped.Alike y.listStopped :=
  Port.Blind.alike (f := Port.listStopped) (fun _ _ => rfl) h

theorem State.stopJobs_port (p : PortNo) : ∀ (js : List Job) (v : State) (q : PortNo),
    (v.forEach js fun s j => s.stopJob p j).port q =
      if q = p ∧ js ≠ [] then { v.port q with news := (v.port q).news ||| 1 } else v.port q
  | [], v, q => by rw [if_neg fun h => h.2 rfl]; rfl
  | j :: js, v, q => by
    rw [State.forEach_cons, State.stopJobs_port p js]
    have one : (v.stopJob p j).port q = if q = p then { v.port q with news := (v.port q).news ||| 1 } else v.port q := by
      rw [State.stopJob, State.raisePort, State.port_setPort, State.stopCell, State.endCell_port, State.endCell_port]
      by_cases same : q = p
      · subst same
        rw [if_pos rfl, if_pos rfl]
        rfl
      · rw [if_neg (Ne.symm same), if_neg same]
    rw [one]
    by_cases same : q = p
    · simp only [same, true_and, if_true, ne_eq, reduceCtorEq, not_false_eq_true]
      split_ifs
      · rfl
      · rw [BitVec.or_assoc, BitVec.or_self]
    · simp only [same, false_and, if_false]

theorem State.stopList_port (v : State) (p : PortNo) : ((v.stopList p).port p).Alike (v.port p).listStopped ∧
    ∀ q, q ≠ p → (v.stopList p).port q = v.port q := by
  constructor
  · have moved := ((Moves.start (v.forEach (v.port p).jobs fun s j => s.stopJob p j) p).upd
      (f := fun x => { x with jobs := [], status := { x.status with running := none } }) fun _ _ => rfl).port
    rw [State.stopJobs_port] at moved
    refine moved.eq.trans ?_
    rw [Port.Alike, Port.listStopped] at *
    by_cases none : (v.port p).jobs = []
    · rw [if_neg fun h => h.2 none, if_pos none]
      rfl
    · rw [if_pos ⟨rfl, none⟩, if_neg none]
      rfl
  · intro q hq
    rw [State.stopList, State.port_updPort_ne _ hq, State.stopJobs_port, if_neg fun h => hq h.1]

theorem State.stopLists_port (v : State) (p : PortNo) :
    ((v.forEach (List.finRange 48) State.stopList).port p).Alike (v.port p).listStopped :=
  State.forEach_at (Before := fun s => s.port p = v.port p) (After := fun s => (s.port p).Alike (v.port p).listStopped)
    (List.nodup_finRange 48) (List.mem_finRange p)
    (fun s q _ other h => ((s.stopList_port q).2 p other.symm).trans h) (fun s h => h ▸ (s.stopList_port p).1)
    (fun s q _ other h => by rw [(s.stopList_port q).2 p other.symm]; exact h) rfl

/-! ### The whole of intake's share -/

/-- The queue stopped and empty, before the lists are stopped (R150). -/
def State.queueStopped (u : State) : State :=
  { u.forEach u.intakeQueue fun s c => s.stopCell c s.tick with intakeQueue := [], intakeDue := false }

theorem State.stopIntake_eq (u : State) : u.stopIntake = u.queueStopped.forEach (List.finRange 48) State.stopList := rfl

theorem State.Halting.emptied {u v : State} (h : u.Halting v) :
    u.Halting { v with intakeQueue := [], intakeDue := false } := by
  obtain ⟨⟨mem, custody, ports, queue, due, frame⟩, canonical, lists, kept⟩ := h
  exact ⟨⟨mem, custody, ports, [], false, by rw [frame]⟩, canonical, lists, kept⟩

theorem State.stopQueue_halting {u : State} {cs : List CellNo} (mem : ∀ c ∈ cs, c ∈ u.intakeQueue) :
    u.Halting (u.forEach cs fun s c => s.stopCell c s.tick) :=
  State.forEach_keepsOn (fun _ c hc hs => hs.stopCell (.inl (mem c hc)) _) (.start u)

theorem State.queueStopped_halting (u : State) : u.Halting u.queueStopped :=
  (State.stopQueue_halting fun _ h => h).emptied

theorem State.queueStopped_port (u : State) (p : PortNo) : u.queueStopped.port p = u.port p :=
  State.forEach_keeps (fun s => s.port p = u.port p) _ (fun s c hs => by rwa [State.stopCell, State.endCell_port]) _ rfl

theorem State.stopIntake_halting (u : State) : u.Halting u.stopIntake ∧
    u.stopIntake.intakeQueue = [] ∧ u.stopIntake.intakeDue = false := by
  rw [State.stopIntake_eq]
  refine (State.queueStopped_halting u).stopLists (P := fun s => s.intakeQueue = [] ∧ s.intakeDue = false)
    ⟨fun _ _ h => h, fun _ => ⟨rfl, rfl⟩⟩ (fun _ _ v d start _ _ hv => ?_) ⟨rfl, rfl⟩
  obtain ⟨mem, custody, shape⟩ := v.endCell_frame d .cancelled .none .stopped start
  rw [State.stopCell, shape]
  exact hv

theorem State.stopIntake_port (u : State) (p : PortNo) : (u.stopIntake.port p).Alike (u.port p).listStopped := by
  rw [State.stopIntake_eq, ← u.queueStopped_port p]
  exact u.queueStopped.stopLists_port p

section Cells
variable {u : State} {c : CellNo}

theorem State.Halting.stopCell_keepsStopped {v : State} (hm : u.memOk) (h : u.Halting v) (d : CellNo) (start : Ticks)
    (stopped : v.cellStopped u.tick c) : (v.stopCell d start).cellStopped u.tick c :=
  State.stopCell_stopped (h.canonical hm) h.tick c d start (.inr stopped)

/-- What the end of a cell brings about, and the ends of the others keep, holds of every cell that was held. -/
theorem State.stopIntake_after {After : State → Prop} (cells : SpeaksOfCells After)
    (turn : ∀ {v} start, u.Halting v → After (v.stopCell c start))
    (keep : ∀ {v} d start, u.Halting v → After v → After (v.stopCell d start)) (held : u.holdsCell c) :
    After u.stopIntake := by
  rw [State.stopIntake_eq]
  rcases held with queued | ⟨p, listed⟩
  · refine (u.queueStopped_halting.stopLists cells (fun _ _ v d start _ hv hs => keep d start hv hs) ?_).2
    exact cells.emptied (State.forEach_after (Inv := u.Halting) queued (fun s d hd hs => hs.stopCell (.inl hd) _)
      (fun s hs => turn _ hs) (fun s d _ hs => keep d _ hs) (.start u))
  · refine (State.forEach_at (Before := fun s => u.Halting s ∧ s.port p = u.port p)
      (After := fun s => u.Halting s ∧ After s) (List.nodup_finRange 48) (List.mem_finRange p)
      (fun s q _ other hs => ⟨hs.1.stopList_halting q, ((s.stopList_port q).2 p other.symm).trans hs.2⟩) (fun s hs => ?_)
      (fun s q _ _ hs => hs.1.stopList cells (fun v d start _ hv => keep d start hv) hs.2)
      ⟨u.queueStopped_halting, u.queueStopped_port p⟩).2
    obtain ⟨hs, port⟩ := hs
    obtain ⟨j, mem, rfl⟩ := List.mem_map.mp listed
    have turns := State.forEach_after (Inv := u.Halting) (After := After)
      (f := fun s j => s.stopJob p j) mem (fun s k hk hs => hs.stopJob hk)
      (fun s hs => cells.port _ _ (turn _ hs)) (fun s k _ hs stopped => cells.port _ _ (keep k.cell _ hs stopped)) hs
    refine ⟨hs.stopList_halting p, ?_⟩
    rw [State.stopList, port]
    exact cells.updPort p _ turns

/-- Every cell that was held reads CANCELLED / STOPPED (R150). -/
theorem State.stopIntake_stopped (hm : u.memOk) (held : u.holdsCell c) : u.stopIntake.cellStopped u.tick c :=
  State.stopIntake_after ⟨fun _ _ h => h, fun h => h⟩
    (fun _ hs => State.stopCell_stopped (hs.canonical hm) hs.tick c c _ (.inl rfl))
    (fun d _ hs => hs.stopCell_keepsStopped hm d _) held

theorem State.stopCell_outside {v : State} (d : CellNo) (start : Ticks) (h : c = d ∨ v.custodyOf c = .outside) :
    (v.stopCell d start).custodyOf c = .outside := by
  rw [State.stopCell, State.endCell_custodyOf]
  split_ifs with same
  · rfl
  · exact h.resolve_left fun e => same e.symm

/-- A cell that was held, or with the host, is with the host (R150). -/
theorem State.stopIntake_outside (h : u.holdsCell c ∨ u.custodyOf c = .outside) :
    u.stopIntake.custodyOf c = .outside := by
  have cells : SpeaksOfCells fun s => s.custodyOf c = .outside := ⟨fun _ _ h => h, fun h => h⟩
  rcases h with held | outside
  · exact State.stopIntake_after cells (fun _ _ => State.stopCell_outside c _ (.inl rfl))
      (fun d _ _ h => State.stopCell_outside d _ (.inr h)) held
  · rw [State.stopIntake_eq]
    exact (u.queueStopped_halting.stopLists cells (fun _ _ v d start _ _ h => State.stopCell_outside d start (.inr h))
      (State.forEach_keepsOn (P := fun s => s.custodyOf c = .outside)
        (fun s d _ h => State.stopCell_outside d _ (.inr h)) outside)).2

theorem State.Halting.stopCell_keepsEnded {v : State} (hm : u.memOk) (h : u.Halting v) {d : CellNo} {start0 : Ticks} (other : d ≠ c)
    (start : Ticks) (ended : v.cellEnded c 6 0 7 start0 u.tick) : (v.stopCell d start).cellEnded c 6 0 7 start0 u.tick :=
  State.cellEnded_endCell (h.canonical hm) ended other _ _ _ _

/-- A queued cell takes the tick of the stop as its start (R150). -/
theorem State.stopIntake_queued (hm : u.memOk) (once : u.intakeQueue.Nodup) (queued : c ∈ u.intakeQueue)
    (apart : ∀ p, ¬ u.inList p c) : u.stopIntake.cellEnded c 6 0 7 u.tick u.tick := by
  rw [State.stopIntake_eq]
  refine ((State.queueStopped_halting u).stopLists (speaksOfCells_ended c 6 0 7 u.tick u.tick)
    (fun p _ v d start hd hv hs => hv.stopCell_keepsEnded hm (fun e : d = c => apart p (e ▸ hd)) start hs) ?_).2
  exact (State.forEach_at (Before := u.Halting) (After := fun s => u.Halting s ∧ s.cellEnded c 6 0 7 u.tick u.tick) once
    queued (fun s d hd _ hs => hs.stopCell (.inl hd) _)
    (fun s hs => ⟨hs.stopCell (.inl queued) _, hs.tick ▸ State.stopCell_ended (hs.canonical hm) c _⟩)
    (fun s d hd other hs => ⟨hs.1.stopCell (.inl hd) _, hs.1.stopCell_keepsEnded hm other _ hs.2⟩) (.start u)).2

theorem State.stopCell_custody_ne {v : State} {c d : CellNo} (other : d ≠ c) (start : Ticks) :
    (v.stopCell d start).custodyOf c = v.custodyOf c := by
  rw [State.stopCell, State.endCell_custodyOf, if_neg other]

theorem State.stopJob_custody_ne {v : State} {c : CellNo} {p : PortNo} {k : Job} (other : k.cell ≠ c) :
    (v.stopJob p k).custodyOf c = v.custodyOf c := by
  rw [State.stopJob, State.raisePort, State.setPort_custodyOf, State.stopCell_custody_ne other]

/-- The start tick that a stop writes for a job (R150). -/
def State.stopStart (u : State) (j : Job) : Ticks := if u.custodyOf j.cell = .running then j.start else u.tick

/-- A job's own turn ends its cell, and the other turns of its list leave it. -/
theorem State.Halting.stopJobs_ended {v : State} (hm : u.memOk) (h : u.Halting v) {p : PortNo} {j : Job} (mem : j ∈ (u.port p).jobs)
    (once : ((u.port p).jobs.map Job.cell).Nodup) (custody : v.custodyOf j.cell = u.custodyOf j.cell) :
    (v.forEach (u.port p).jobs fun s k => s.stopJob p k).cellEnded j.cell 6 0 7 (u.stopStart j) u.tick := by
  have others : ∀ k ∈ (u.port p).jobs, k ≠ j → k.cell ≠ j.cell := fun k hk ne e =>
    ne (List.inj_on_of_nodup_map once hk mem e)
  have waits : ∀ s k, k ∈ (u.port p).jobs → k ≠ j → u.Halting s ∧ s.custodyOf j.cell = u.custodyOf j.cell →
      u.Halting (s.stopJob p k) ∧ (s.stopJob p k).custodyOf j.cell = u.custodyOf j.cell :=
    fun s k hk other hs => ⟨hs.1.stopJob hk, (State.stopJob_custody_ne (others k hk other)).trans hs.2⟩
  have turn : ∀ s, u.Halting s ∧ s.custodyOf j.cell = u.custodyOf j.cell →
      u.Halting (s.stopJob p j) ∧ (s.stopJob p j).cellEnded j.cell 6 0 7 (u.stopStart j) u.tick := by
    intro s hs
    refine ⟨hs.1.stopJob mem, ?_⟩
    have ended := State.stopCell_ended (hs.1.canonical hm) j.cell (u.stopStart j)
    rw [hs.1.tick] at ended
    rw [State.stopJob, hs.2, hs.1.tick]
    exact (speaksOfCells_ended j.cell 6 0 7 _ _).port p _ ended
  have after : ∀ s k, k ∈ (u.port p).jobs → k ≠ j →
      u.Halting s ∧ s.cellEnded j.cell 6 0 7 (u.stopStart j) u.tick →
      u.Halting (s.stopJob p k) ∧ (s.stopJob p k).cellEnded j.cell 6 0 7 (u.stopStart j) u.tick :=
    fun s k hk other hs => ⟨hs.1.stopJob hk, (speaksOfCells_ended j.cell 6 0 7 _ _).port p _
      (hs.1.stopCell_keepsEnded hm (others k hk other) _ hs.2)⟩
  exact (State.forEach_at (List.Nodup.of_map _ once) mem waits turn after ⟨h, custody⟩).2

/-- A listed cell takes the tick of the stop as its start, a running one keeps its own (R150). -/
theorem State.stopIntake_listed (hm : u.memOk) {p : PortNo} {j : Job} (mem : j ∈ (u.port p).jobs)
    (once : ((u.port p).jobs.map Job.cell).Nodup) (notQueued : j.cell ∉ u.intakeQueue)
    (apart : ∀ q, q ≠ p → ¬ u.inList q j.cell) :
    u.stopIntake.cellEnded j.cell 6 0 7 (u.stopStart j) u.tick := by
  have ends := speaksOfCells_ended j.cell 6 0 7 (u.stopStart j) u.tick
  have foreign : ∀ {q : PortNo} {d : CellNo}, q ≠ p → u.inList q d → d ≠ j.cell := fun other hd e => apart _ other (e ▸ hd)
  have waits : u.queueStopped.custodyOf j.cell = u.custodyOf j.cell :=
    State.forEach_keepsOn (P := fun s => s.custodyOf j.cell = u.custodyOf j.cell)
      (fun s d hd hs => (State.stopCell_custody_ne (fun e : d = j.cell => notQueued (e ▸ hd)) _).trans hs) rfl
  rw [State.stopIntake_eq]
  refine (State.forEach_at
    (Before := fun s => u.Halting s ∧ s.custodyOf j.cell = u.custodyOf j.cell ∧ s.port p = u.port p)
    (After := fun s => u.Halting s ∧ s.cellEnded j.cell 6 0 7 (u.stopStart j) u.tick) (List.nodup_finRange 48)
    (List.mem_finRange p) (fun s q _ other ⟨hs, same, port⟩ => ⟨hs.stopList_halting q, ?_, ?_⟩)
    (fun s ⟨hs, same, port⟩ => ⟨hs.stopList_halting p, ?_⟩)
    (fun s q _ other ⟨hs, ended⟩ => hs.stopList ends
      (fun v d st hd hv => hv.stopCell_keepsEnded hm (foreign other hd) st) ended)
    ⟨State.queueStopped_halting u, waits, u.queueStopped_port p⟩).2
  · exact (hs.stopList (P := fun s => s.custodyOf j.cell = u.custodyOf j.cell) ⟨fun _ _ h => h, fun h => h⟩
      (fun v d st hd _ h => (State.stopCell_custody_ne (foreign other hd) st).trans h) same).2
  · exact ((s.stopList_port q).2 p other.symm).trans port
  · rw [State.stopList, port]
    exact ends.updPort p _ (hs.stopJobs_ended hm mem once same)

end Cells

end Sys2Proof.Machine

namespace Sys2Proof.Machine

/-! ### The four shares together (R161) -/

/-- The arbiter and the ports with their engines stopped (R118, R23). -/
def State.portsStopped (a : State) : State := a.forEach (List.finRange 48) State.stopPort

section Ports
variable {a : State}

theorem State.portsStopped_clearing (idle : a.requests = []) (start : a.Clearing a) : a.Clearing a.portsStopped :=
  State.forEach_keeps a.Clearing _ (fun _ p h => (h.stopPort idle p).1) _ start

theorem State.portsStopped_unheld (idle : a.requests = []) (start : a.Clearing a) (p : PortNo) :
    a.portsStopped.unheld p :=
  State.forEach_after (Inv := a.Clearing) (After := fun s => s.unheld p) (List.mem_finRange p)
    (fun _ q _ h => (h.stopPort idle q).1) (fun _ h => (h.stopPort idle p).2.1)
    (fun _ q _ h free => (h.stopPort idle q).2.2.1 p free) start

theorem State.portsStopped_port (idle : a.requests = []) (start : a.Clearing a) (p : PortNo) :
    (a.portsStopped.port p).Alike ((a.port p).stoppedDown a.tick) := by
  have other : ∀ s q, a.Clearing s → q ≠ p → (s.stopPort q).port p = s.port p := fun _ q h ne =>
    (h.stopPort idle q).2.2.2.2 p ne.symm
  refine (State.forEach_at (Before := fun s => a.Clearing s ∧ s.port p = a.port p)
    (After := fun s => a.Clearing s ∧ (s.port p).Alike ((a.port p).stoppedDown a.tick)) (List.nodup_finRange 48)
    (List.mem_finRange p) (fun s q _ ne hs => ⟨(hs.1.stopPort idle q).1, (other s q hs.1 ne).trans hs.2⟩)
    (fun s hs => ⟨(hs.1.stopPort idle p).1, ?_⟩)
    (fun s q _ ne hs => ⟨(hs.1.stopPort idle q).1, ?_⟩) ⟨start, rfl⟩).2
  · rw [← hs.2]
    exact (hs.1.stopPort idle p).2.2.2.1
  · rw [other s q hs.1 ne]
    exact hs.2

theorem State.portsStopped_noMeas (idle : a.requests = []) (start : a.Clearing a) (e : EngineNo) :
    (a.portsStopped.engine e).meas = none := by
  cases hm : (a.portsStopped.engine e).meas with
  | none => rfl
  | some m => exact absurd rfl (State.portsStopped_unheld idle start m.holder e m hm)

theorem State.portsStopped_noGrant (idle : a.requests = []) (start : a.Clearing a) (e : EngineNo) :
    a.portsStopped.grant e = none := by
  have clearing := State.portsStopped_clearing idle start
  cases hg : a.portsStopped.grant e with
  | none => rfl
  | some g =>
    exact absurd (State.portsStopped_noMeas idle start e) (clearing.agree.accepted e g hg (clearing.accepted e g hg))

theorem State.portsStopped_noClaim (idle : a.requests = []) (start : a.Clearing a) (q : QuadNo) :
    a.portsStopped.claimed q = false := by
  have clearing := State.portsStopped_clearing idle start
  cases hq : a.portsStopped.claimed q with
  | false => rfl
  | true =>
    obtain ⟨e, g, hg, -⟩ := (clearing.agree.claim q).mp hq
    rw [State.portsStopped_noGrant idle start e] at hg
    cases hg

end Ports

/-- The part as STOP leaves it before its shares (R161). -/
def State.stopping (s : State) : State :=
  { s with runState := .stopping, divider := 0, watchInterval := 0, watchElapsed := 0 }

theorem State.stop_eq (s : State) : s.stop = s.stopping.stopArbiter.portsStopped.stopIntake := rfl

section Stop
variable {s : State} (agree : s.grantsOk)
include agree

theorem State.stopping_arbitrated : s.stopping.Arbitrated s.stopping.stopArbiter [] :=
  State.stopArbiter_arbitrated (agree.of_parts rfl rfl rfl)

theorem State.stopArbiter_idle : s.stopping.stopArbiter.requests = [] := by
  obtain ⟨engines, grants, claims, frame⟩ := (State.stopping_arbitrated agree).frame
  rw [frame]

theorem State.stopArbiter_clearing : s.stopping.stopArbiter.Clearing s.stopping.stopArbiter where
  frame := ⟨_, _, _, _, _, rfl⟩
  agree := (State.stopping_arbitrated agree).agree
  accepted := fun e g hg => (State.stopping_arbitrated agree).accepted e g List.not_mem_nil hg
  unused := fun _ => rfl
  meas := fun _ _ h => h
  canonical := id
  freed := fun _ _ h => .inl h
  kept := fun _ _ _ => rfl

/-- The part before intake's share (R150). -/
theorem State.beforeIntake_frame : ∃ ports engines grants claims mem, s.stopping.stopArbiter.portsStopped =
    { s.stopping with
      requests := [], ports := ports, engines := engines, grants := grants, claims := claims, mem := mem } := by
  obtain ⟨engines, grants, claims, frame⟩ := (State.stopping_arbitrated agree).frame
  obtain ⟨ports, engines', grants', claims', mem, frame'⟩ :=
    (State.portsStopped_clearing (State.stopArbiter_idle agree) (State.stopArbiter_clearing agree)).frame
  exact ⟨ports, engines', grants', claims', mem, by rw [frame', frame]⟩

theorem State.beforeIntake_port (p : PortNo) :
    (s.stopping.stopArbiter.portsStopped.port p).Alike ((s.port p).stoppedDown s.tick) := by
  have stopped := State.portsStopped_port (State.stopArbiter_idle agree) (State.stopArbiter_clearing agree) p
  obtain ⟨engines, grants, claims, frame⟩ := (State.stopping_arbitrated agree).frame
  rw [frame] at stopped ⊢
  exact stopped

/-- What STOP leaves, but for the cells. -/
theorem State.stop_frame : ∃ ports engines grants claims mem custody, s.stop =
    { s.stopping with
      requests := [], ports := ports, engines := engines, grants := grants, claims := claims, mem := mem
      custody := custody, intakeQueue := [], intakeDue := false } := by
  obtain ⟨ports, engines, grants, claims, mem, frame⟩ := State.beforeIntake_frame agree
  obtain ⟨halting, queue, due⟩ := s.stopping.stopArbiter.portsStopped.stopIntake_halting
  obtain ⟨mem', custody, ports', queue', due', frame'⟩ := halting.frame
  rw [frame'] at queue due
  cases queue
  cases due
  refine ⟨ports', engines, grants, claims, mem', custody, ?_⟩
  rw [State.stop_eq, frame', frame]

theorem State.stop_port (p : PortNo) : (s.stop.port p).Alike ((s.port p).stoppedDown s.tick).listStopped := by
  rw [State.stop_eq]
  exact (State.stopIntake_port _ p).trans (State.beforeIntake_port agree p).listStopped

/-- STOP brings the part to rest (R161). -/
theorem State.stop_atRest : s.stop.atRest := by
  have idle := State.stopArbiter_idle agree
  have clearing := State.stopArbiter_clearing agree
  obtain ⟨ports', engines', grants', claims', mem', custody, frame⟩ := State.stop_frame agree
  obtain ⟨halting, -, -⟩ := s.stopping.stopArbiter.portsStopped.stopIntake_halting
  refine ⟨fun p => ?_, fun e => ?_, fun q => ?_, ?_, ?_⟩
  · rw [(State.stop_port agree p).eq]
    exact ⟨rfl, rfl, rfl⟩
  · rw [State.stop_eq, halting.engine, halting.grant]
    exact ⟨State.portsStopped_noMeas idle clearing e, State.portsStopped_noGrant idle clearing e⟩
  · rw [State.stop_eq, halting.claimed]
    exact State.portsStopped_noClaim idle clearing q
  · rw [frame]
  · rw [frame]
    exact ⟨rfl, rfl⟩

/-- An engine with an unaccepted grant counts it as unused (R118). -/
theorem State.stop_unused (e : EngineNo) : (s.stop.engine e).unused =
    if (s.engine e).meas = none ∧ s.grant e ≠ none then oneMore (s.engine e).unused else (s.engine e).unused := by
  obtain ⟨halting, -, -⟩ := s.stopping.stopArbiter.portsStopped.stopIntake_halting
  have clearing := State.portsStopped_clearing (State.stopArbiter_idle agree) (State.stopArbiter_clearing agree)
  rw [State.stop_eq, halting.engine]
  exact (clearing.unused e).trans ((State.stopping_arbitrated agree).unused e List.not_mem_nil)

end Stop

/-! ### What the host finds after a stop -/

section Cells
variable {s : State} (agree : s.grantsOk)
include agree

theorem State.beforeIntake_jobs (p : PortNo) :
    (s.stopping.stopArbiter.portsStopped.port p).jobs = (s.port p).jobs := by
  rw [(State.beforeIntake_port agree p).eq]
  unfold Port.stoppedDown
  split_ifs <;> rfl

theorem State.beforeIntake_inList (p : PortNo) (c : CellNo) :
    s.stopping.stopArbiter.portsStopped.inList p c ↔ s.inList p c := by
  rw [State.inList, State.inList, State.beforeIntake_jobs agree]

theorem State.beforeIntake_holdsCell (c : CellNo) :
    s.stopping.stopArbiter.portsStopped.holdsCell c ↔ s.holdsCell c := by
  obtain ⟨ports, engines, grants, claims, mem, frame⟩ := State.beforeIntake_frame agree
  refine or_congr (by rw [frame]; rfl) (exists_congr fun p => State.beforeIntake_inList agree p c)

theorem State.beforeIntake_memOk (hm : s.memOk) : s.stopping.stopArbiter.portsStopped.memOk := by
  obtain ⟨engines, grants, claims, frame⟩ := (State.stopping_arbitrated agree).frame
  exact (State.portsStopped_clearing (State.stopArbiter_idle agree) (State.stopArbiter_clearing agree)).canonical
    (by rw [frame]; exact hm)

theorem State.beforeIntake_tick : s.stopping.stopArbiter.portsStopped.tick = s.tick := by
  obtain ⟨ports, engines, grants, claims, mem, frame⟩ := State.beforeIntake_frame agree
  rw [frame]
  rfl

theorem State.stop_cellStopped (hm : s.memOk) {c : CellNo} (held : s.holdsCell c) : s.stop.cellStopped s.tick c := by
  rw [State.stop_eq, ← State.beforeIntake_tick agree]
  exact State.stopIntake_stopped (State.beforeIntake_memOk agree hm) ((State.beforeIntake_holdsCell agree c).mpr held)

theorem State.stop_queuedEnded (hm : s.memOk) (jobs : s.jobsOk) {c : CellNo} (queued : c ∈ s.intakeQueue) :
    s.stop.cellEnded c 6 0 7 s.tick s.tick := by
  obtain ⟨ports, engines, grants, claims, mem, frame⟩ := State.beforeIntake_frame agree
  have queue : s.stopping.stopArbiter.portsStopped.intakeQueue = s.intakeQueue := by
    rw [frame]
    rfl
  rw [State.stop_eq, ← State.beforeIntake_tick agree]
  refine State.stopIntake_queued (State.beforeIntake_memOk agree hm) (by rw [queue]; exact jobs.queueOnce)
    (by rw [queue]; exact queued) fun p listed => ?_
  have waiting := (jobs.queueCustody c).mp queued
  rcases jobs.listCustody p c ((State.beforeIntake_inList agree p c).mp listed) with ⟨running, -⟩ | ⟨listed, -⟩
  · rw [waiting] at running
    cases running
  · rw [waiting] at listed
    cases listed

theorem State.stop_jobEnded (hm : s.memOk) (jobs : s.jobsOk) {p : PortNo} {j : Job} (mem : j ∈ (s.port p).jobs) :
    s.stop.cellEnded j.cell 6 0 7 (if s.custodyOf j.cell = .running then j.start else s.tick) s.tick := by
  obtain ⟨ports, engines, grants, claims, memory, frame⟩ := State.beforeIntake_frame agree
  have queue : s.stopping.stopArbiter.portsStopped.intakeQueue = s.intakeQueue := by
    rw [frame]
    rfl
  have start : s.stopping.stopArbiter.portsStopped.stopStart j =
      if s.custodyOf j.cell = .running then j.start else s.tick := by
    have custody : s.stopping.stopArbiter.portsStopped.custodyOf j.cell = s.custodyOf j.cell := by
      rw [frame]
      rfl
    rw [State.stopStart, custody, State.beforeIntake_tick agree]
  have listed : s.inList p j.cell := List.mem_map_of_mem mem
  rw [State.stop_eq, ← start, ← State.beforeIntake_tick agree]
  refine State.stopIntake_listed (State.beforeIntake_memOk agree hm) (p := p) ?_ ?_ ?_ fun q other hq => ?_
  · rw [State.beforeIntake_jobs agree]
    exact mem
  · rw [State.beforeIntake_jobs agree]
    exact jobs.listOnce p
  · rw [queue, jobs.queueCustody]
    intro waiting
    rcases jobs.listCustody p j.cell listed with ⟨running, -⟩ | ⟨listed, -⟩
    · rw [waiting] at running
      cases running
    · rw [waiting] at listed
      cases listed
  · exact other (jobs.oneList q p j.cell ((State.beforeIntake_inList agree q j.cell).mp hq) listed)

/-- A stop writes to the cells that were held and to the owner words of the slabs that were filling (R150, R89). -/
theorem State.stop_readMem (hm : s.memOk) {a : Nat} (cells : ∀ c, s.holdsCell c → ¬ inCellHead c a)
    (slabs : ∀ k, s.slabFilling k = true → a ≠ ownerAddr k) : s.stop.readMem a = s.readMem a := by
  obtain ⟨engines, grants, claims, frame⟩ := (State.stopping_arbitrated agree).frame
  have clearing := State.portsStopped_clearing (State.stopArbiter_idle agree) (State.stopArbiter_clearing agree)
  have filling : ∀ k, s.stopping.stopArbiter.slabFilling k = true → s.slabFilling k = true := fun k hk => by
    obtain ⟨e, m, meas, fills⟩ := (State.slabFilling_iff _ k).mp hk
    exact (s.slabFilling_iff k).mpr ⟨e, m, ((State.stopping_arbitrated agree).meas e).symm.trans meas, fills⟩
  obtain ⟨halting, -, -⟩ := s.stopping.stopArbiter.portsStopped.stopIntake_halting
  calc s.stop.readMem a
    _ = s.stopping.stopArbiter.portsStopped.readMem a :=
        halting.kept (State.beforeIntake_memOk agree hm) a fun c held =>
          cells c ((State.beforeIntake_holdsCell agree c).mp held)
    _ = s.stopping.stopArbiter.readMem a :=
        clearing.kept (by rw [frame]; exact hm) a fun k hk => slabs k (filling k hk)
    _ = s.readMem a := by rw [frame]; rfl

/-- The slabs that were filling are FREE again (R89). -/
theorem State.stop_slabFreed (hm : s.memOk) {k : SlabNo} (hk : s.slabFilling k = true) :
    s.stop.readMem (ownerAddr k) = 0 := by
  have idle := State.stopArbiter_idle agree
  have start := State.stopArbiter_clearing agree
  obtain ⟨engines, grants, claims, frame⟩ := (State.stopping_arbitrated agree).frame
  have filling : s.stopping.stopArbiter.slabFilling k = true := by
    obtain ⟨e, m, meas, fills⟩ := (s.slabFilling_iff k).mp hk
    exact (State.slabFilling_iff _ k).mpr ⟨e, m, ((State.stopping_arbitrated agree).meas e).trans meas, fills⟩
  obtain ⟨halting, -, -⟩ := s.stopping.stopArbiter.portsStopped.stopIntake_halting
  rw [State.stop_eq, halting.kept (State.beforeIntake_memOk agree hm) _ fun c _ => ownerAddr_not_inCellHead k c]
  refine ((State.portsStopped_clearing idle start).freed (by rw [frame]; exact hm) k filling).resolve_left fun still => ?_
  obtain ⟨e, m, meas, -⟩ := (State.slabFilling_iff _ k).mp still
  rw [State.portsStopped_noMeas idle start e] at meas
  cases meas

end Cells

end Sys2Proof.Machine

namespace Sys2Proof.Machine

/-! ### The ports after a stop (R23) -/

/-- Where the history is short enough the drop of a link is what `dropped` says (R22, R24). -/
theorem Port.linkDropped_eq_dropped {x : Port} (h : x.history.length ≤ 4) (tick : Ticks) (why : DownReason) :
    x.linkDropped tick why = { x.dropped tick why x.link with
      timers := Timers.stopped, monitor := Monitor.zero
      status := { (x.dropped tick why x.link).status with errPub := x.errTotal, unlockPub := x.unlockTotal } } := by
  rw [Port.linkDropped, Port.writeRecord_eq_recorded _ (by exact h), Port.bump_eq_counted]
  rfl

theorem PortState.inAttempt_iff (st : PortState) :
    st.inAttempt = true ↔ st = .offer ∨ st = .exchange ∨ st = .verify := by
  cases st <;> decide

/-- Activity ended and the profile gone, the port is DISABLED (R15, R21). -/
theorem Port.stopActivity_disable (x : Port) :
    ({ x.stopActivity with profile := none } : Port).disable = x.cutShort.disabledNow := by
  have result : x.stopActivity.status.lastResult = x.cutShort.status.lastResult :=
    if_congr (PortState.inAttempt_iff _) rfl rfl
  rw [Port.disable_eq_disabledNow _ rfl]
  unfold Port.disabledNow Port.leftFor
  simp only [Port.stopActivity, Port.cutShort] at result ⊢
  rw [result]

/-- A port after its shares of STOP, by R23. -/
theorem Port.stopped_eq {x : Port} (h : x.history.length ≤ 4) (tick : Ticks) : (x.stoppedDown tick).listStopped =
    { (x.unlinked tick .stopped).cutShort.disabledNow with
      jobs := [], request := none, outbox := []
      news := if x.jobs = [] then (x.unlinked tick .stopped).cutShort.disabledNow.news
        else (x.unlinked tick .stopped).cutShort.disabledNow.news ||| 1 } := by
  unfold Port.stoppedDown Port.unlinked
  rw [Port.stopActivity_disable]
  by_cases linked : x.status.state = .linked
  · rw [if_pos linked, if_pos linked, Port.linkDropped_eq_dropped h]
    rfl
  · rw [if_neg linked, if_neg linked]
    rfl

/-- What R23 keeps at a port, whatever its history holds. -/
theorem Port.stoppedDown_keeps (x : Port) (tick : Ticks) :
    (x.stoppedDown tick).report = x.report ∧ (x.stoppedDown tick).seedGen = x.seedGen ∧
      (x.stoppedDown tick).status.offerSet = x.status.offerSet ∧
      (x.stoppedDown tick).status.qualSet = x.status.qualSet ∧
      (x.stoppedDown tick).status.failCounts = x.status.failCounts ∧
      (x.stoppedDown tick).status.attempts = x.status.attempts ∧
      (x.stoppedDown tick).status.downshifts = x.status.downshifts := by
  unfold Port.stoppedDown
  split_ifs <;> exact ⟨rfl, rfl, rfl, rfl, rfl, rfl, rfl⟩

theorem Port.stoppedDown_linked {x : Port} (linked : x.status.state = .linked) (tick : Ticks) :
    (x.stoppedDown tick).recordCount = x.recordCount + 1 ∧ (x.stoppedDown tick).news = x.news ||| 4 := by
  unfold Port.stoppedDown
  rw [if_pos linked]
  exact ⟨rfl, rfl⟩

theorem Port.listStopped_linkDown {x : Port} (h : x.news.getLsbD 2 = true) : x.listStopped.news.getLsbD 2 = true := by
  unfold Port.listStopped
  by_cases empty : x.jobs = []
  · rw [if_pos empty]
    exact h
  · rw [if_neg empty, BitVec.getLsbD_or, h, Bool.true_or]

/-- What R23 says of a port that reads as stopped. -/
theorem Port.stopped_reads {x z : Port} {tick : Ticks} (alike : z.Alike (x.stoppedDown tick).listStopped) :
    z.report = x.report ∧ z.seedGen = x.seedGen ∧ z.status.offerSet = x.status.offerSet ∧
      z.status.qualSet = x.status.qualSet ∧ z.status.failCounts = x.status.failCounts ∧
      z.status.attempts = x.status.attempts ∧ z.status.downshifts = x.status.downshifts ∧
      (x.status.state = .linked → z.recordCount = x.recordCount + 1 ∧ z.news.getLsbD 2 = true) ∧
      (x.history.length ≤ 4 →
        let y := (x.unlinked tick .stopped).cutShort.disabledNow
        z = { y with
          jobs := [], request := none, outbox := [], editCount := z.editCount
          news := if x.jobs = [] then y.news else y.news ||| 1 }) := by
  obtain ⟨report, seed, offer, qual, fails, attempts, downshifts⟩ := x.stoppedDown_keeps tick
  have shape := alike.eq
  refine ⟨?_, ?_, ?_, ?_, ?_, ?_, ?_, fun linked => ?_, fun short => ?_⟩
  case refine_8 =>
    obtain ⟨count, news⟩ := Port.stoppedDown_linked linked tick
    rw [shape]
    exact ⟨count, Port.listStopped_linkDown (by rw [news, BitVec.getLsbD_or]; exact Bool.or_true _)⟩
  case refine_9 =>
    rw [Port.stopped_eq short] at shape
    exact shape
  all_goals rw [shape]; assumption

/-- The close of the edits touches the ports alone. -/
theorem State.closeEdits_frame (v : State) : ∃ ports, v.closeEdits = { v with ports := ports } := ⟨_, rfl⟩

theorem State.atRest_closeEdits {v : State} (h : v.atRest) : v.closeEdits.atRest := by
  have rest : ∀ p, (v.closeEdits.port p).status.state = .disabled ∧ (v.closeEdits.port p).profile = none ∧
      (v.closeEdits.port p).jobs = [] := fun p => by
    rw [State.port_closeEdits, Port.closeEdit_eq]
    exact h.ports p
  obtain ⟨-, engines, claims, requests, queue⟩ := h
  obtain ⟨ports, frame⟩ := v.closeEdits_frame
  rw [frame] at rest ⊢
  exact ⟨rest, engines, claims, requests, queue⟩

/-- Settles O8: the arbiter's share, then the ports', then intake's, each read by the lemmas above. -/
theorem stopBringsThePartToRest : Obligations.StopBringsThePartToRest := by
  intro s working hm agree
  have halted : exec .stop s = .next s.stop.closeEdits :=
    State.take_working working _
  obtain ⟨ports, engines, grants, claims, mem, custody, frame⟩ := State.stop_frame agree
  have rest := State.stop_atRest agree
  have stopped := fun (c : CellNo) => State.stop_cellStopped agree hm (c := c)
  have queued := fun jobs (c : CellNo) => State.stop_queuedEnded agree hm jobs (c := c)
  have listed := fun jobs (p : PortNo) (j : Job) => State.stop_jobEnded agree hm jobs (p := p) (j := j)
  have kept := fun (a : Nat) => State.stop_readMem agree hm (a := a)
  have freed := fun (k : SlabNo) => State.stop_slabFreed agree hm (k := k)
  have unused := State.stop_unused agree
  have port := fun p => Port.stopped_reads ((Port.alike_closeEdit _).trans (State.stop_port agree p))
  simp only [← State.port_closeEdits] at port
  have closed := State.atRest_closeEdits rest
  rw [halted]
  generalize s.stop = v at *
  obtain ⟨ports', shape⟩ := v.closeEdits_frame
  rw [shape] at port closed ⊢
  refine ⟨_, rfl, ?_, closed, ?_, ?_, ?_, stopped,
    fun jobs => ⟨queued jobs, listed jobs⟩, kept, freed, unused, ?_, ?_, ?_, ?_, ?_, ?_, ?_, ?_, fun q => ?_, fun p => ?_⟩
  case refine_5 =>
    rw [frame]
    exact working.1
  case refine_14 => exact port p
  all_goals rw [frame]; rfl

end Sys2Proof.Machine

namespace Sys2Proof.Machine

/-! ### Recipes in range (R85, R121) -/

/-- The recipes in the list of a port, and in what it asks of the arbiter, are in range. -/
structure Port.recipesIn (x : Port) : Prop where
  listed : ∀ (j : Job) (r : Recipe) (i : Bool), j ∈ x.jobs → j.work = .diagnose r i → r.valid = true
  sent : ∀ k : ReqKind, x.request = some k ∨ PortMsg.request k ∈ x.outbox → k.inRange

theorem Port.recipesIn.of_less {x y : Port} (h : x.recipesIn) (jobs : y.jobs = x.jobs) (asks : x.AsksLess y) :
    y.recipesIn := by
  refine ⟨by rw [jobs]; exact h.listed, fun k hk => h.sent k ?_⟩
  rcases hk with hk | hk
  · rcases asks.request with same | none
    · exact .inl (same ▸ hk)
    · rw [none] at hk
      cases hk
  · exact .inr (asks.outbox k hk)

theorem Port.recipesIn.of_eq {x y : Port} (h : x.recipesIn) (jobs : y.jobs = x.jobs) (request : y.request = x.request)
    (outbox : y.outbox = x.outbox) : y.recipesIn :=
  h.of_less jobs (.of_eq request outbox)

theorem Port.recipesIn.step {x y : Port} (h : x.recipesIn) (step : Port.Step False True x y) : y.recipesIn := by
  cases step with
  | plain same _ => exact h.of_less same.profiles.2.1 same.asks
  | enter same _ _ => exact h.of_less same.profiles.2.1 same.asks
  | retire retires => exact h.of_less (congrArg PortCore.jobs retires.core) retires.asks
  | record tick down => exact h.of_eq rfl rfl rfl
  | charge r =>
    rw [Port.charge_eq]
    exact h.of_eq rfl rfl rfl
  | ask k inRange =>
    refine ⟨h.listed, fun l hl => ?_⟩
    rcases hl with hl | hl
    · cases hl
      exact inRange trivial
    · rcases List.mem_append.mp hl with hl | hl
      · exact h.sent l (.inr hl)
      · cases List.mem_singleton.mp hl
        exact inRange trivial
  | transition rising n =>
    rw [Port.takeTransition_eq]
    exact h.of_eq rfl rfl rfl
  | seed => exact h.of_eq rfl rfl rfl
  | relist jobs c from_ =>
    refine ⟨fun j r i hj hw => ?_, h.sent⟩
    obtain ⟨k, hk, same⟩ := from_ j hj
    exact h.listed k r i hk (same.trans hw)
  | join j _ valid =>
    refine ⟨fun k r i hk hw => ?_, h.sent⟩
    rcases List.mem_append.mp hk with hk | hk
    · exact h.listed k r i hk hw
    · rw [List.mem_singleton.mp hk] at hw
      exact valid trivial r i hw

theorem Port.recipesIn.steps {x y : Port} (h : x.recipesIn) (steps : Port.Steps False True x y) : y.recipesIn := by
  induction steps with
  | refl => exact h
  | tail _ last ih => exact ih.step last

/-- Recipes are in range wherever one is held, but in the engines outside S: a load puts its recipe into the engine
before it checks it (R84, R85). -/
structure State.recipesFor (S : EngineNo → Prop) (s : State) : Prop where
  ports : ∀ p, (s.port p).recipesIn
  waiting : ∀ r ∈ s.requests, r.kind.inRange
  granted : ∀ (e : EngineNo) (g : Grant), s.grant e = some g → g.request.kind.inRange
  measuring : ∀ (e : EngineNo) (m : Measurement), S e → (s.engine e).meas = some m → m.recipe.valid = true

theorem State.recipesOk_iff (s : State) : s.recipesOk ↔ s.recipesFor fun _ => True :=
  ⟨fun h => ⟨fun p => ⟨h.listed p, h.sent p⟩, h.waiting, h.granted, fun e m _ => h.measuring e m⟩,
    fun h => ⟨fun p => (h.ports p).listed, fun p => (h.ports p).sent, h.waiting, h.granted, fun e m => h.measuring e m trivial⟩⟩

namespace State.recipesFor
variable {S : EngineNo → Prop} {s t : State}

theorem of_parts (h : s.recipesFor S) (ports : t.ports = s.ports) (requests : t.requests = s.requests)
    (grants : t.grants = s.grants) (engines : t.engines = s.engines) : t.recipesFor S := by
  refine ⟨fun p => ?_, by rw [requests]; exact h.waiting, fun e g hg => h.granted e g ?_, fun e m he hm => h.measuring e m he ?_⟩
  · rw [State.port, ports]
    exact h.ports p
  · rwa [State.grant, grants] at hg
  · rwa [State.engine, engines] at hm

theorem setPort (h : s.recipesFor S) (q : PortNo) (y : Port) (hy : y.recipesIn) : (s.setPort q y).recipesFor S :=
  ⟨fun p => by
    rw [State.port_setPort]
    split_ifs
    · exact hy
    · exact h.ports p, h.waiting, h.granted, h.measuring⟩

theorem withPorts (h : s.recipesFor S) (v : Vector Port 48)
    (ports : ∀ p, (({ s with ports := v } : State).port p).recipesIn) : ({ s with ports := v } : State).recipesFor S :=
  ⟨ports, h.waiting, h.granted, h.measuring⟩

theorem withEngines (h : s.recipesFor S) (v : Vector Engine 4)
    (measuring : ∀ (e : EngineNo) (m : Measurement), (({ s with engines := v } : State).engine e).meas = some m →
      ∃ n, (s.engine e).meas = some n ∧ n.recipe = m.recipe) : ({ s with engines := v } : State).recipesFor S :=
  ⟨h.ports, h.waiting, h.granted, fun e m he hm => by
    obtain ⟨n, hn, same⟩ := measuring e m hm
    exact same ▸ h.measuring e n he hn⟩

theorem makeGrant (h : s.recipesFor S) {e : EngineNo} {r : Request} (pick : s.pickRequest = some r) :
    (s.makeGrant e r).recipesFor S where
  ports := h.ports
  waiting := fun q hq => h.waiting q (List.mem_of_mem_filter hq)
  granted := fun f g hg => by
    rw [State.makeGrant_grant] at hg
    split_ifs at hg
    · cases hg
      exact h.waiting r (State.mem_of_pick pick)
    · exact h.granted f g hg
  measuring := h.measuring

theorem grantRule (h : s.recipesFor S) : s.applyGrantRule.recipesFor S :=
  State.applyGrantRule_keeps _ (fun _ _ _ _ pick h => h.makeGrant pick) h

/-- The measurements in S are no more than before; the grants too. -/
theorem less (h : s.recipesFor S) {S' : EngineNo → Prop} (ports : t.ports = s.ports) (requests : t.requests = s.requests)
    (granted : ∀ e g, t.grant e = some g → s.grant e = some g)
    (measuring : ∀ e m, S' e → (t.engine e).meas = some m → S e ∧ (s.engine e).meas = some m) : t.recipesFor S' where
  ports := fun p => by
    rw [State.port, ports]
    exact h.ports p
  waiting := requests ▸ h.waiting
  granted := fun e g hg => h.granted e g (granted e g hg)
  measuring := fun e m he hm => h.measuring e m (measuring e m he hm).1 (measuring e m he hm).2

theorem endGrant_less (s : State) (e : EngineNo) : (s.endGrant e).ports = s.ports ∧
    (s.endGrant e).requests = s.requests ∧ (s.endGrant e).engines = s.engines ∧
    ∀ f g, (s.endGrant e).grant f = some g → s.grant f = some g := by
  unfold State.endGrant
  split
  · refine ⟨rfl, rfl, rfl, fun f g hg => ?_⟩
    rw [State.setClaim_grant, State.grant_setGrant] at hg
    split_ifs at hg
    exact hg
  · exact ⟨rfl, rfl, rfl, fun _ _ h => h⟩

theorem turnBack (h : s.recipesFor S) (e : EngineNo) : (s.turnBack e).recipesFor S := by
  obtain ⟨ports, requests, engines, granted⟩ := endGrant_less s e
  refine h.less ports requests granted fun f m hf hm => ⟨hf, ?_⟩
  rw [State.turnBack, State.engine_setEngine] at hm
  rw [State.engine, ← engines]
  split_ifs at hm with same
  · exact same ▸ hm
  · exact hm

/-- A release frees the engine, whatever recipe it held (R115). -/
theorem release {e : EngineNo} (h : s.recipesFor fun f => S f ∧ f ≠ e) : (s.release e).recipesFor S := by
  obtain ⟨ports, requests, engines, granted⟩ := endGrant_less (s.setEngine e { s.engine e with meas := none }) e
  refine grantRule (h.less (t := (s.setEngine e { s.engine e with meas := none }).endGrant e) ports requests granted
    fun f m hf hm => ?_)
  rw [State.engine, engines] at hm
  change ((s.setEngine e { s.engine e with meas := none }).engine f).meas = some m at hm
  rw [State.engine_setEngine] at hm
  split_ifs at hm with same
  exact ⟨⟨hf, Ne.symm same⟩, hm⟩

theorem weaken (h : s.recipesFor S) {S' : EngineNo → Prop} (sub : ∀ e, S' e → S e) : s.recipesFor S' :=
  ⟨h.ports, h.waiting, h.granted, fun e m he => h.measuring e m (sub e he)⟩

theorem setMeas (h : s.recipesFor S) (e : EngineNo) {x : Engine} (hx : ∀ m, S e → x.meas = some m → m.recipe.valid = true) :
    (s.setEngine e x).recipesFor S :=
  ⟨h.ports, h.waiting, h.granted, fun f m hf hm => by
    rw [State.engine_setEngine] at hm
    split_ifs at hm with same
    · subst same
      exact hx m hf hm
    · exact h.measuring f m hf hm⟩

end State.recipesFor

theorem recipesFor_cellBlindBase (S : EngineNo → Prop) : CellBlindBase False True (State.recipesFor S) where
  sees := fun h same => h.of_parts same.ports same.requests same.grants same.engines
  write := fun _ _ _ h => h.of_parts rfl rfl rfl rfl
  port := fun q y steps h => h.setPort q y ((h.ports q).steps steps)
  all := fun f steps h => h.withPorts _ fun p => by
    rw [State.port_ofFn]
    exact (h.ports p).steps (steps p)
  release := fun e _ _ h => State.recipesFor.release (h.weaken fun _ he => he.1)
  hasProfile := fun _ b => b.elim

theorem ReqKind.inRange_of_source {k : ReqKind} (h : k.source ≠ .job) : k.inRange := by
  intro r tag e
  rw [e] at h
  exact absurd rfl h

/-- A recipe that is loaded after the check is in range (R85). -/
theorem State.loaded_valid {s : State} {p : PortNo} {k : ReqKind} (check : s.loadCheck k = true) (inRange : k.inRange) :
    (s.loaded p k).recipe.valid = true := by
  simp only [State.loadCheck, Bool.and_eq_true, Bool.or_eq_true, decide_eq_true_eq] at check
  obtain ⟨-, job | valid⟩ := check
  · cases k with
    | job r tag => exact inRange r tag rfl
    | precheck => cases job
    | watch => cases job
  · exact valid

theorem recipesFor_loading {s : State} (h : s.recipesFor fun _ => True) (e : EngineNo) (g : Grant)
    (hg : s.grant e = some g) {S : EngineNo → Prop} (valid : S e → (s.loaded g.request.port g.request.kind).recipe.valid = true) :
    (s.loading e g).recipesFor S := by
  have h1 : (s.setGrant e (some { g with accepted := true })).recipesFor S :=
    ⟨h.ports, h.waiting, fun f g' hf => by
      rw [State.grant_setGrant] at hf
      split_ifs at hf
      · cases hf
        exact h.granted e g hg
      · exact h.granted f g' hf, fun f m _ => h.measuring f m trivial⟩
  have h2 := h1.setMeas e (x := { s.engine e with meas := some (s.loaded g.request.port g.request.kind) })
    fun m he hm => by cases hm; exact valid he
  exact (recipesFor_cellBlindBase S).plain.upd _ ⟨rfl, .inr rfl, fun _ h => h⟩ rfl h2

theorem State.engine_ofFn (s : State) (f : EngineNo → Engine) (e : EngineNo) :
    ({ s with engines := Vector.ofFn f } : State).engine e = f e := by
  simp [State.engine]

theorem Measurement.tick_recipe (m : Measurement) : m.tick.recipe = m.recipe := by
  unfold Measurement.tick
  split <;> rfl

theorem mem_insertByPlace {r q : Request} {l : List Request} (h : q ∈ insertByPlace r l) : q = r ∨ q ∈ l := by
  induction l with
  | nil => exact .inl (List.mem_singleton.mp h)
  | cons a l ih =>
    rw [insertByPlace] at h
    split_ifs at h
    · exact List.mem_cons.mp h
    · rcases List.mem_cons.mp h with rfl | h
      · exact .inr List.mem_cons_self
      · exact (ih h).imp id fun h => List.mem_cons_of_mem _ h

theorem recipesFor_messageTaken {S : EngineNo → Prop} {s : State} (h : s.recipesFor S) (p : PortNo)
    {rest : List PortMsg} (sub : ∀ m ∈ rest, m ∈ (s.port p).outbox) :
    (s.setPort p { s.port p with outbox := rest }).recipesFor S :=
  h.setPort p _ ((h.ports p).of_less rfl ⟨.inl rfl, fun _ hk => sub _ hk⟩)

theorem State.recipesFor.withRequests {S : EngineNo → Prop} {s t : State} (h : s.recipesFor S)
    (ports : t.ports = s.ports) (grants : t.grants = s.grants) (engines : t.engines = s.engines)
    (waiting : ∀ r ∈ t.requests, r.kind.inRange) : t.recipesFor S := by
  have same : State.recipesFor S { t with requests := s.requests } := h.of_parts ports rfl grants engines
  exact ⟨same.ports, waiting, same.granted, same.measuring⟩

theorem recipesFor_takeRequest {S : EngineNo → Prop} {s : State} (h : s.recipesFor S) (p : PortNo) :
    (s.takeRequest p).recipesFor S := by
  unfold State.takeRequest
  split
  · rename_i k rest hout
    have h1 := recipesFor_messageTaken h p (rest := rest) fun m hm => hout ▸ List.mem_cons_of_mem _ hm
    refine State.recipesFor.grantRule (h1.withRequests rfl rfl rfl fun r hr => ?_)
    rcases List.mem_append.mp hr with hr | hr
    · exact h.waiting r hr
    · rw [List.mem_singleton.mp hr]
      exact (h.ports p).sent k (.inr (hout ▸ List.mem_cons_self))
  · exact h

theorem recipesFor_takeWithdrawal {S : EngineNo → Prop} {s : State} (h : s.recipesFor S) (p : PortNo) :
    (s.takeWithdrawal p).recipesFor S := by
  unfold State.takeWithdrawal
  split
  · rename_i rest hout
    have h1 := recipesFor_messageTaken h p (rest := rest) fun m hm => hout ▸ List.mem_cons_of_mem _ hm
    dsimp only
    split_ifs
    · exact State.recipesFor.grantRule (h1.withRequests rfl rfl rfl fun r hr => h.waiting r (List.mem_of_mem_filter hr))
    · split
      · exact (h1.turnBack _).grantRule
      · exact h1
  · exact h

theorem recipesFor_returning {S : EngineNo → Prop} {s : State} (h : s.recipesFor S) {e : EngineNo} {g : Grant}
    (hg : s.grant e = some g) : (s.returning e g).applyGrantRule.recipesFor S := by
  have h1 := h.turnBack e
  refine State.recipesFor.grantRule (h1.withRequests rfl rfl rfl fun r hr => ?_)
  rcases mem_insertByPlace hr with rfl | hr
  · exact h.granted e g hg
  · exact h1.waiting r hr

theorem recipesFor_raiseWatch {S : EngineNo → Prop} {s : State} (h : s.recipesFor S) (p : PortNo) :
    (s.raiseWatch p).recipesFor S := by
  rw [State.raiseWatch]
  split_ifs
  · exact h
  · refine h.withRequests rfl rfl rfl fun r hr => ?_
    obtain ⟨q, hq, rfl⟩ := List.mem_map.mp hr
    split_ifs <;> exact h.waiting q hq

theorem recipesOk_cellBlind : CellBlind False True (State.recipesFor fun _ => True) :=
  { recipesFor_cellBlindBase fun _ => True with
    train := fun {s} p f _ h => ((recipesFor_cellBlindBase _).base p).startTrain f (fun {s} h => by
      rw [State.updPort_eq]
      split_ifs
      · exact h.setPort p _ ((h.ports p).of_eq rfl rfl rfl)
      · refine h.setPort p _ ((h.ports p).of_eq ?_ ?_ ?_) <;> rw [Port.openEdit_eq] <;> rfl) h
    trainOk := fun _ _ _ b => b.elim
    recipeOk := fun p j r i _ h => (h.ports p).listed j r i
    measure := fun e m m' hm _ recipe _ h => h.setMeas e fun n _ hn => by
      cases hn
      rw [recipe]
      exact h.measuring e m trivial hm
    fill := fun {s} e m k hm _ h =>
      State.recipesFor.setMeas (s := s.writeMem (ownerAddr k) ownerFilling) (h.of_parts rfl rfl rfl rfl) e fun n _ hn => by
        cases hn
        exact h.measuring e m trivial hm
    enginesTick := fun h => h.withEngines _ fun e m hm => by
      rw [State.engine_ofFn, Engine.tick, Option.map_eq_some_iff] at hm
      obtain ⟨n, hn, same⟩ := hm
      exact ⟨n, hn, same ▸ n.tick_recipe.symm⟩
    load := fun {s} e g stands check _ h => recipesFor_loading h e g stands.grant fun _ =>
      State.loaded_valid check (h.granted e g stands.grant)
    fault := fun e p => ⟨State.recipesFor fun f => True ∧ f ≠ e, State.recipesFor fun f => True ∧ f ≠ e,
      { plain := (recipesFor_cellBlindBase _).plain
        weaken := id
        endJob := fun out h => (recipesFor_cellBlindBase _).endJob p out h
        measure := fun _ _ _ _ _ _ h => h.setMeas e fun _ he => absurd rfl he.2
        released := fun _ _ _ h => h.release
        releasedOut := fun _ _ _ h => h.release },
      fun g stands _ _ h => (recipesFor_loading h e g stands.grant fun he => absurd rfl he.2).of_parts rfl rfl rfl rfl⟩
    returning := fun _ _ stands _ h => recipesFor_returning h stands.grant
    takeRequest := fun p _ h => recipesFor_takeRequest h p
    takeWithdrawal := fun p _ h => recipesFor_takeWithdrawal h p
    raiseWatch := fun p _ h => recipesFor_raiseWatch h p
    falls := fun _ h => h.of_parts rfl rfl rfl rfl
    rises := fun _ _ h => h.of_parts rfl rfl rfl rfl
    risesRunning := fun q _ h => (State.recipesFor.of_parts (t := State.setReady _ q true) h rfl rfl rfl rfl).grantRule
    filled := fun _ h => h.of_parts rfl rfl rfl rfl
    run := fun _ h => h.of_parts rfl rfl rfl rfl
    stopDone := fun _ h => h.of_parts rfl rfl rfl rfl }

theorem recipesFor_pinReset (s : State) (levels : BitVec 12) : (s.pinReset levels).recipesFor fun _ => True where
  ports := fun p => by
    rw [State.port_pinReset]
    exact ⟨fun _ _ _ hj => absurd hj List.not_mem_nil, fun _ hk => hk.elim nofun fun hk => absurd hk List.not_mem_nil⟩
  waiting := fun _ hr => absurd hr List.not_mem_nil
  granted := fun e g hg => by
    simp [State.pinReset, State.reset, State.grant] at hg
  measuring := fun e m _ hm => by
    simp [State.pinReset, State.reset, State.engine, Engine.reset] at hm

theorem recipesOk_step {s t : State} (h : s.recipesOk) (e : step s = .next t) : t.recipesOk := by
  rw [State.recipesOk_iff] at h ⊢
  refine recipesOk_cellBlind.machine.step (fun _ h => h.of_parts rfl rfl rfl rfl) (fun levels _ => recipesFor_pinReset _ levels)
    (fun _ _ h => ?_) h e
  exact recipesOk_cellBlind.stop
    (fun h => h.withRequests rfl rfl rfl fun _ hr => absurd hr List.not_mem_nil) (fun e h => h.turnBack e) h

/-- Settles O59. -/
theorem stepKeepsProfilesInRange : Obligations.StepKeepsProfilesInRange :=
  fun _ _ e => ⟨fun h => profilesOk_step h e, fun h => recipesOk_step h e⟩

end Sys2Proof.Machine

namespace Sys2Proof.Machine

/-! ### The state right after reset (R159) -/

theorem State.port_reset (p : PortNo) : State.reset.port p = Port.reset p := by
  simp [State.reset, State.port]

theorem State.engine_reset (e : EngineNo) : State.reset.engine e = Engine.reset := by
  simp [State.reset, State.engine]

theorem State.grant_reset (e : EngineNo) : State.reset.grant e = none := by
  simp [State.reset, State.grant]

theorem State.claimed_reset (q : QuadNo) : State.reset.claimed q = false := by
  simp [State.reset, State.claimed]

theorem State.custodyOf_reset (c : CellNo) : State.reset.custodyOf c = .outside := by
  simp [State.reset, State.custodyOf]

theorem jobsOk_reset : State.reset.jobsOk := by
  have noList : ∀ {p c}, ¬ State.reset.inList p c := fun {p c} h => by
    rw [State.inList, State.port_reset] at h
    exact List.not_mem_nil h
  refine ⟨Nat.zero_le _, List.nodup_nil, fun c => ?_, fun p => ?_, fun p => ?_, fun _ _ _ h => absurd h noList,
    fun _ _ h => absurd h noList, fun c h => ?_, fun p => ?_⟩
  · rw [State.custodyOf_reset]
    exact ⟨fun h => absurd h List.not_mem_nil, nofun⟩
  · rw [State.port_reset]
    exact Nat.zero_le _
  · rw [State.port_reset]
    exact List.nodup_nil
  · rw [State.custodyOf_reset] at h
    exact h.elim nofun nofun
  · rw [State.port_reset]
    rfl

theorem atRest_reset : State.reset.atRest where
  ports := fun p => by
    rw [State.port_reset]
    exact ⟨rfl, rfl, rfl⟩
  engines := fun e => ⟨by rw [State.engine_reset]; rfl, State.grant_reset e⟩
  claims := State.claimed_reset
  requests := rfl
  queue := ⟨rfl, rfl⟩

/-- At rest there is nothing to disagree. -/
theorem State.atRest.grantsOk {s : State} (h : s.atRest) : s.grantsOk := by
  have noMeas : ∀ {e m}, (s.engine e).meas = some m → False := fun {e m} hm => by
    rw [(h.engines e).1] at hm
    cases hm
  have noGrant : ∀ {e g}, s.grant e = some g → False := fun {e g} hg => by
    rw [(h.engines e).2] at hg
    cases hg
  refine ⟨fun _ _ hm => (noMeas hm).elim, fun _ _ hg => (noGrant hg).elim, fun q => ?_,
    fun _ _ _ _ hg => (noGrant hg).elim, fun _ _ _ _ _ hm => (noMeas hm).elim⟩
  rw [h.claims q]
  exact ⟨nofun, fun ⟨_, _, hg, _⟩ => (noGrant hg).elim⟩

theorem profilesOk_reset : State.reset.profilesOk := by
  refine (State.profilesOk_iff _).mpr ⟨fun p => ?_, fun p => ?_⟩ <;> rw [State.port_reset]
  · exact profileOk_kept.reset p
  · exact bareWhenDisabled_kept.reset p

theorem recipesOk_reset : State.reset.recipesOk where
  listed := fun p _ _ _ hj => by
    rw [State.port_reset] at hj
    exact absurd hj List.not_mem_nil
  sent := fun p _ hk => by
    rw [State.port_reset] at hk
    exact hk.elim nofun fun hk => absurd hk List.not_mem_nil
  waiting := fun _ hr => absurd hr List.not_mem_nil
  granted := fun e _ hg => by
    rw [State.grant_reset] at hg
    cases hg
  measuring := fun e _ hm => by
    rw [State.engine_reset] at hm
    cases hm

theorem decodersOk_reset : State.reset.decodersOk := fun p => by
  rw [State.port_reset]
  exact decoderOk_kept.reset p

/-- Settles O60. -/
theorem resetSatisfiesInvariants : Obligations.ResetSatisfiesInvariants := by
  refine ⟨rfl, fun p => ?_, fun p => ?_, decodersOk_reset, jobsOk_reset, atRest_reset.grantsOk, nofun, profilesOk_reset,
    recipesOk_reset, atRest_reset⟩ <;> rw [State.port_reset]
  · exact BitVec.getLsbD_zero
  · exact ⟨Nat.zero_le _, rfl⟩

end Sys2Proof.Machine

namespace Sys2Proof.Machine

/-! ### Engines, grants, claims and slabs through a step (O58) -/

/-- What every change keeps of the arbiter: engines, grants and claims agree; outside RUNNING nothing waits; with `G` no
grant is undone while RUNNING; with `N` the part is RUNNING. -/
structure State.arbiterKept (G N : Prop) (s : State) : Prop where
  agree : s.grantsOk
  idle : s.runState ≠ .running → s.requests = []
  made : G → s.runState = .running → s.grantsDone
  runs : N → s.runState = .running

/-- What is found is a grant that is not accepted (R114). -/
theorem State.grant_of_unaccepted {s : State} {p : PortNo} {e : EngineNo} (h : s.unacceptedGrantOf p = some e) :
    ∃ g, s.grant e = some g ∧ g.accepted = false ∧ g.request.port = p := by
  have found := List.find?_some h
  cases hg : s.grant e with
  | none => simp [hg] at found
  | some g =>
    simp only [hg, Bool.and_eq_true, decide_eq_true_eq, Bool.not_eq_true'] at found
    exact ⟨g, rfl, found.2, found.1⟩

namespace State.arbiterKept
variable {G N : Prop} {s t : State}

/-- The arbiter's parts are the same, and no quad has become ready. -/
theorem of_parts (h : s.arbiterKept G N) (engines : t.engines = s.engines) (grants : t.grants = s.grants)
    (claims : t.claims = s.claims) (requests : t.requests = s.requests)
    (ready : ∀ q, t.isReady q = true → s.isReady q = true) (runState : t.runState = s.runState) : t.arbiterKept G N where
  agree := h.agree.of_parts engines grants claims
  idle := by
    rw [runState, requests]
    exact h.idle
  made := fun g running => by
    rcases h.made g (runState.symm.trans running) with none | none
    · refine .inl fun e free => none e ⟨?_, ?_⟩
      · rw [State.engine, ← engines]
        exact free.1
      · rw [State.grant, ← grants]
        exact free.2
    · refine .inr fun r hr grantable => none r (requests ▸ hr) ⟨?_, ready _ grantable.2⟩
      rw [State.claimed, ← claims]
      exact grantable.1
  runs := fun n => runState.trans (h.runs n)

theorem withPorts (h : s.arbiterKept G N) (v : Vector Port 48) : ({ s with ports := v } : State).arbiterKept G N :=
  h.of_parts rfl rfl rfl rfl (fun _ h => h) rfl

/-- After the grant rule no grant is undone (R111). -/
theorem rule (agree : s.grantsOk) (idle : s.runState ≠ .running → s.requests = [])
    (runs : N → s.runState = .running) : s.applyGrantRule.arbiterKept G N where
  agree := agree.applyGrantRule
  idle := fun stopped => by
    rw [State.applyGrantRule_frame] at stopped
    rw [State.applyGrantRule_noRequests (idle stopped)]
    exact idle stopped
  made := fun _ _ => s.grantsDone_applyGrantRule
  runs := fun n => by
    rw [State.applyGrantRule_frame]
    exact runs n

theorem ruleRunning (agree : s.grantsOk) (running : s.runState = .running) : s.applyGrantRule.arbiterKept G N :=
  rule agree (fun stopped => absurd running stopped) fun _ => running

theorem release (h : s.arbiterKept G N) {e : EngineNo} {m : Measurement} (hm : (s.engine e).meas = some m) :
    (s.release e).arbiterKept G N := by
  rw [h.agree.release_eq hm]
  exact rule (h.agree.freed hm) h.idle h.runs

/-- An engine goes on with its measurement, and fills no slab that another fills. -/
theorem setMeas (h : s.arbiterKept G N) {e : EngineNo} {m m' : Measurement} (hm : (s.engine e).meas = some m)
    (holder : m'.holder = m.holder)
    (filling : ∀ k, m'.filling = some k → ∀ f n, (s.engine f).meas = some n → n.filling = some k → e = f) :
    (s.setEngine e { s.engine e with meas := some m' }).arbiterKept G N := by
  have read : ∀ {f n}, ((s.setEngine e { s.engine e with meas := some m' }).engine f).meas = some n →
      e = f ∧ n = m' ∨ e ≠ f ∧ (s.engine f).meas = some n := fun {f n} hn => by
    rw [State.engine_setEngine] at hn
    split_ifs at hn with same
    · exact .inl ⟨same, (Option.some.inj hn).symm⟩
    · exact .inr ⟨same, hn⟩
  have busy : ∀ {f}, ((s.setEngine e { s.engine e with meas := some m' }).engine f).meas = none →
      (s.engine f).meas = none := fun {f} hn => by
    rw [State.engine_setEngine] at hn
    split_ifs at hn with same
    exact hn
  refine ⟨⟨fun f n hn => ?_, fun f g hg acc free => h.agree.accepted f g hg acc (busy free), h.agree.claim,
    h.agree.onePerQuad, fun f f' n n' k hn hn' fills fills' => ?_⟩, h.idle, fun g running => ?_, h.runs⟩
  · rcases read hn with ⟨rfl, rfl⟩ | ⟨-, hn⟩
    · rw [holder]
      exact h.agree.measuring e m hm
    · exact h.agree.measuring f n hn
  · rcases read hn with ⟨rfl, rfl⟩ | ⟨-, old⟩
    · rcases read hn' with ⟨rfl, rfl⟩ | ⟨-, old'⟩
      · rfl
      · exact filling k fills f' n' old' fills'
    · rcases read hn' with ⟨rfl, rfl⟩ | ⟨-, old'⟩
      · exact (filling k fills' f n old fills).symm
      · exact h.agree.oneFilling f f' n n' k old old' fills fills'
  · exact (h.made g running).imp (fun none f free => none f ⟨busy free.1, free.2⟩) id

theorem measure (h : s.arbiterKept G N) {e : EngineNo} {m m' : Measurement} (hm : (s.engine e).meas = some m)
    (holder : m'.holder = m.holder) (filling : m'.filling = m.filling ∨ m'.filling = none) :
    (s.setEngine e { s.engine e with meas := some m' }).arbiterKept G N := by
  refine h.setMeas hm holder fun k hk f n hn fills => ?_
  rcases filling with same | none
  · exact h.agree.oneFilling e f m n k hm hn (same ▸ hk) fills
  · rw [none] at hk
    cases hk

/-- The lowest free slab fills nowhere (R88). -/
theorem fill (h : s.arbiterKept G N) {e : EngineNo} {m : Measurement} {k : SlabNo} (hm : (s.engine e).meas = some m)
    (lowest : s.lowestFreeSlab = some k) :
    ((s.writeMem (ownerAddr k) ownerFilling).setEngine e { s.engine e with meas := some { m with filling := some k } }).arbiterKept
      G N := by
  have free : s.slabFilling k = false := by
    have found := List.find?_some lowest
    simpa using (Bool.and_eq_true_iff.mp found).2
  refine setMeas (s := s.writeMem (ownerAddr k) ownerFilling) (h.of_parts rfl rfl rfl rfl (fun _ h => h) rfl) hm rfl ?_
  intro l hl f n hn fills
  cases hl
  rw [(s.slabFilling_iff k).mpr ⟨f, n, hn, fills⟩] at free
  cases free

/-- A grant accepted and its measurement put into the engine (R112, R84). -/
theorem accepting (h : s.arbiterKept G N) {e : EngineNo} {g : Grant} (hg : s.grant e = some g)
    (waiting : g.accepted = false) {m : Measurement} (holder : g.request.port = m.holder) (filling : m.filling = none) :
    ((s.setGrant e (some { g with accepted := true })).setEngine e { s.engine e with meas := some m }).arbiterKept G N := by
  set t := (s.setGrant e (some { g with accepted := true })).setEngine e { s.engine e with meas := some m }
  have free := h.agree.free_of_waiting hg waiting
  have meas : ∀ f, (t.engine f).meas = if e = f then some m else (s.engine f).meas := fun f => by
    rw [State.engine_setEngine]
    split_ifs <;> rfl
  have grant : ∀ f, t.grant f = if e = f then some { g with accepted := true } else s.grant f := fun f => by
    rw [State.setEngine_grant, State.grant_setGrant]
  have self : t.grant e = some { g with accepted := true } := by rw [grant, if_pos rfl]
  have old : ∀ {f k}, t.grant f = some k → ∃ k', s.grant f = some k' ∧ k'.request = k.request := fun {f k} hk => by
    rw [grant] at hk
    split_ifs at hk with same
    · cases hk
      exact ⟨g, same ▸ hg, rfl⟩
    · exact ⟨k, hk, rfl⟩
  have measured : ∀ {f n}, (t.engine f).meas = some n → e = f ∧ n = m ∨ e ≠ f ∧ (s.engine f).meas = some n :=
    fun {f n} hn => by
      rw [meas] at hn
      split_ifs at hn with same
      · exact .inl ⟨same, (Option.some.inj hn).symm⟩
      · exact .inr ⟨same, hn⟩
  refine ⟨⟨fun f n hn => ?_, fun f k hk acc => ?_, fun q => ?_, fun f f' k k' hk hk' quad => ?_,
    fun f f' n n' l hn hn' fills fills' => ?_⟩, h.idle, fun done running => ?_, h.runs⟩
  · rcases measured hn with ⟨rfl, rfl⟩ | ⟨other, hn⟩
    · exact ⟨_, self, rfl, holder⟩
    · obtain ⟨k, hk, rest⟩ := h.agree.measuring f n hn
      exact ⟨k, by rw [grant, if_neg other]; exact hk, rest⟩
  · rw [meas]
    split_ifs with same
    · nofun
    · rw [grant, if_neg same] at hk
      exact h.agree.accepted f k hk acc
  · refine (h.agree.claim q).trans ⟨fun ⟨f, k, hk, port⟩ => ?_, fun ⟨f, k, hk, port⟩ => ?_⟩
    · by_cases same : e = f
      · subst same
        cases hg.symm.trans hk
        exact ⟨e, _, self, port⟩
      · exact ⟨f, k, by rw [grant, if_neg same]; exact hk, port⟩
    · obtain ⟨k', hk', request⟩ := old hk
      exact ⟨f, k', hk', by rw [request]; exact port⟩
  · obtain ⟨l, hl, request⟩ := old hk
    obtain ⟨l', hl', request'⟩ := old hk'
    exact h.agree.onePerQuad f f' l l' hl hl' (by rw [request, request']; exact quad)
  · rcases measured hn with ⟨rfl, rfl⟩ | ⟨-, hn⟩
    · rw [filling] at fills
      cases fills
    · rcases measured hn' with ⟨rfl, rfl⟩ | ⟨-, hn'⟩
      · rw [filling] at fills'
        cases fills'
      · exact h.agree.oneFilling f f' n n' l hn hn' fills fills'
  · refine (h.made done running).imp (fun none f (busy : t.isFree f) => none f ?_) id
    obtain ⟨noMeas, noGrant⟩ := busy
    by_cases same : e = f
    · subst same
      rw [self] at noGrant
      cases noGrant
    · rw [meas, if_neg same] at noMeas
      rw [grant, if_neg same] at noGrant
      exact ⟨noMeas, noGrant⟩

theorem loading (h : s.arbiterKept G N) {e : EngineNo} {g : Grant} (hg : s.grant e = some g)
    (waiting : g.accepted = false) : (s.loading e g).arbiterKept G N :=
  (h.accepting hg waiting rfl rfl).of_parts rfl rfl rfl rfl (fun _ h => h) rfl

/-- A grant turned back, and its request with the others again (R112). -/
theorem returning (h : s.arbiterKept G N) {e : EngineNo} {g : Grant} (hg : s.grant e = some g)
    (waiting : g.accepted = false) (running : s.runState = .running) :
    (s.returning e g).applyGrantRule.arbiterKept G N := by
  refine ruleRunning ?_ ?_
  · rw [State.returning, State.turnBack_eq hg]
    exact (h.agree.turnedBack hg waiting).of_parts rfl rfl rfl
  · rw [State.returning, State.turnBack_eq hg]
    exact running

theorem takeRequest (h : s.arbiterKept G N) (running : s.runState = .running) (p : PortNo) :
    (s.takeRequest p).arbiterKept G N := by
  unfold State.takeRequest
  split
  · exact ruleRunning (h.agree.of_parts rfl rfl rfl) running
  · exact h

theorem takeWithdrawal (h : s.arbiterKept G N) (running : s.runState = .running) (p : PortNo) :
    (s.takeWithdrawal p).arbiterKept G N := by
  unfold State.takeWithdrawal
  split
  · rename_i rest _
    dsimp only
    have h1 : (s.setPort p { s.port p with outbox := rest }).arbiterKept G N :=
      h.of_parts rfl rfl rfl rfl (fun _ h => h) rfl
    split_ifs
    · exact ruleRunning (h.agree.of_parts rfl rfl rfl) running
    · split
      · rename_i e he
        obtain ⟨g, hg, waiting, -⟩ := State.grant_of_unaccepted he
        refine ruleRunning ?_ ?_
        · rw [State.turnBack_eq hg]
          exact h1.agree.turnedBack hg waiting
        · rw [State.turnBack_eq hg]
          exact running
      · exact h1
  · exact h

theorem raiseWatch (h : s.arbiterKept G N) (p : PortNo) : (s.raiseWatch p).arbiterKept G N := by
  rw [State.raiseWatch]
  split_ifs
  · exact h
  · refine ⟨h.agree.of_parts rfl rfl rfl, fun stopped => ?_, fun g running => ?_, h.runs⟩
    · rw [h.idle stopped]
      rfl
    · refine (h.made g running).imp id fun none r hr grantable => ?_
      obtain ⟨q, hq, rfl⟩ := List.mem_map.mp hr
      refine none q hq ?_
      split_ifs at grantable <;> exact grantable

theorem withRunState (h : s.arbiterKept G N) (stopped : s.runState ≠ .running) (r : RunState) :
    ({ s with runState := r } : State).arbiterKept G N where
  agree := h.agree.of_parts rfl rfl rfl
  idle := fun _ => h.idle stopped
  made := fun _ _ => .inr fun r hr => by
    rw [h.idle stopped] at hr
    exact absurd hr List.not_mem_nil
  runs := fun n => absurd (h.runs n) stopped

/-- The engines go on with their measurements, each at the same port and with the same slab. -/
theorem withEngines (h : s.arbiterKept G N) (v : Vector Engine 4)
    (some_ : ∀ (e : EngineNo) (m : Measurement), (({ s with engines := v } : State).engine e).meas = some m →
      ∃ n, (s.engine e).meas = some n ∧ m.holder = n.holder ∧ m.filling = n.filling)
    (none_ : ∀ e, (({ s with engines := v } : State).engine e).meas = none → (s.engine e).meas = none) :
    ({ s with engines := v } : State).arbiterKept G N := by
  refine ⟨⟨fun e m hm => ?_, fun e g hg acc free => h.agree.accepted e g hg acc (none_ e free), h.agree.claim,
    h.agree.onePerQuad, fun e f m n k hm hn fills fills' => ?_⟩, h.idle,
    fun g running => (h.made g running).imp (fun none e free => none e ⟨none_ e free.1, free.2⟩) id, h.runs⟩
  · obtain ⟨n, hn, holder, -⟩ := some_ e m hm
    rw [holder]
    exact h.agree.measuring e n hn
  · obtain ⟨m', hm', -, same⟩ := some_ e m hm
    obtain ⟨n', hn', -, same'⟩ := some_ f n hn
    exact h.agree.oneFilling e f m' n' k hm' hn' (same ▸ fills) (same' ▸ fills')

theorem falls (h : s.arbiterKept G N) (q : QuadNo) : (s.setReady q false).arbiterKept G N :=
  h.of_parts rfl rfl rfl rfl (fun r hr => by
    rw [State.isReady_setReady] at hr
    split_ifs at hr
    exact hr) rfl

end State.arbiterKept

theorem Measurement.tick_places (m : Measurement) : m.tick.holder = m.holder ∧ m.tick.filling = m.filling := by
  unfold Measurement.tick
  split <;> exact ⟨rfl, rfl⟩

theorem arbiterKept_cellBlindBase (G N : Prop) : CellBlindBase False False (State.arbiterKept G N) where
  sees := fun h same => h.of_parts same.engines same.grants same.claims same.requests
    (fun q => by rw [State.isReady, State.isReady, same.ready]; exact id) same.runState
  write := fun _ _ _ h => h.of_parts rfl rfl rfl rfl (fun _ h => h) rfl
  port := fun _ _ _ h => h.of_parts rfl rfl rfl rfl (fun _ h => h) rfl
  all := fun _ _ h => h.withPorts _
  release := fun _ _ hm h => h.release hm
  hasProfile := fun _ b => b.elim

theorem arbiterKept_cellBlind (G N : Prop) : CellBlind False False (State.arbiterKept G N) :=
  have base := arbiterKept_cellBlindBase G N
  { base with
    train := fun p f _ h => (base.base p).startTrain f (fun h => h.of_parts rfl rfl rfl rfl (fun _ h => h) rfl) h
    trainOk := fun _ _ _ b => b.elim
    recipeOk := fun _ _ _ _ r => r.elim
    measure := fun _ _ _ hm holder _ filling h => h.measure hm holder filling
    fill := fun _ _ _ hm lowest h => h.fill hm lowest
    enginesTick := fun h => h.withEngines _
      (fun e m hm => by
        rw [State.engine_ofFn, Engine.tick, Option.map_eq_some_iff] at hm
        obtain ⟨n, hn, rfl⟩ := hm
        exact ⟨n, hn, n.tick_places⟩)
      (fun e hm => by
        rw [State.engine_ofFn, Engine.tick, Option.map_eq_none_iff] at hm
        exact hm)
    load := fun _ _ stands _ _ h => h.loading stands.grant stands.open_
    fault := fun e p => ⟨_, _,
      { plain := base.plain
        weaken := id
        endJob := fun out h => base.endJob p out h
        measure := fun _ _ hm holder _ filling h => h.measure hm holder filling
        released := fun _ hm _ h => h.release hm
        releasedOut := fun _ hm _ h => h.release hm },
      fun _ stands _ _ h => base.blind (h.loading stands.grant stands.open_)⟩
    returning := fun _ _ stands running h => h.returning stands.grant stands.open_ running
    takeRequest := fun p running h => h.takeRequest running p
    takeWithdrawal := fun p running h => h.takeWithdrawal running p
    raiseWatch := fun p _ h => h.raiseWatch p
    falls := fun q h => h.falls q
    rises := fun _ stopped h => ⟨h.agree.of_parts rfl rfl rfl, h.idle, fun _ running => absurd running stopped,
      fun n => absurd (h.runs n) stopped⟩
    risesRunning := fun _ running h => State.arbiterKept.ruleRunning (h.agree.of_parts rfl rfl rfl) running
    filled := fun filling h => h.withRunState (by rw [filling]; nofun) _
    run := fun stopped h => h.withRunState (by rw [stopped]; nofun) _
    stopDone := fun stopping h => h.withRunState (by rw [stopping]; nofun) _ }

end Sys2Proof.Machine

namespace Sys2Proof.Machine

/-! ### A part that is not RUNNING stays at rest (R3, R155, R161) -/

theorem Port.clearNews_parts (x : Port) (v : Word) : (x.clearNews v).status.state = x.status.state ∧
    (x.clearNews v).profile = x.profile ∧ (x.clearNews v).jobs = x.jobs := by
  unfold Port.clearNews
  dsimp only
  split_ifs
  · rw [Port.openEdit_eq]
    exact ⟨rfl, rfl, rfl⟩
  · exact ⟨rfl, rfl, rfl⟩

namespace State.atRest
variable {s t : State}

theorem of_parts (h : s.atRest) (ports : ∀ p, (t.port p).status.state = (s.port p).status.state ∧
      (t.port p).profile = (s.port p).profile ∧ (t.port p).jobs = (s.port p).jobs) (engines : t.engines = s.engines)
    (grants : t.grants = s.grants) (claims : t.claims = s.claims) (requests : t.requests = s.requests)
    (queue : t.intakeQueue = s.intakeQueue) (due : t.intakeDue = s.intakeDue) : t.atRest where
  ports := fun p => by
    obtain ⟨state, profile, jobs⟩ := ports p
    rw [state, profile, jobs]
    exact h.ports p
  engines := fun e => by
    rw [State.engine, State.grant, engines, grants]
    exact h.engines e
  claims := fun q => by
    rw [State.claimed, claims]
    exact h.claims q
  requests := requests.trans h.requests
  queue := ⟨queue.trans h.queue.1, due.trans h.queue.2⟩

/-- The ports stand as they are. -/
theorem same (h : s.atRest) (ports : t.ports = s.ports := by rfl) (engines : t.engines = s.engines := by rfl)
    (grants : t.grants = s.grants := by rfl) (claims : t.claims = s.claims := by rfl)
    (requests : t.requests = s.requests := by rfl) (queue : t.intakeQueue = s.intakeQueue := by rfl)
    (due : t.intakeDue = s.intakeDue := by rfl) : t.atRest :=
  h.of_parts (fun p => by rw [State.port, State.port, ports]; exact ⟨rfl, rfl, rfl⟩) engines grants claims requests queue due

theorem clearNews (h : s.atRest) (target : Option PortNo) (v : Word) : (s.clearNews target v).atRest := by
  unfold State.clearNews State.ifFilled
  split_ifs
  · exact h
  · cases target with
    | none => exact h.same
    | some p =>
      refine h.of_parts (fun q => ?_) rfl rfl rfl rfl rfl rfl
      obtain ⟨state, profile, jobs⟩ := (s.port p).clearNews_parts v
      by_cases same : q = p
      · subst same
        exact ⟨by rw [State.port_updPort_status, state], by rw [State.port_updPort_profile, profile],
          State.updPort_jobs _ _ _ jobs⟩
      · rw [State.port_updPort_ne _ same]
        exact ⟨rfl, rfl, rfl⟩

theorem handIn (h : s.atRest) (idle : s.runState ≠ .running) (v : Word) : (s.handIn v).atRest := by
  unfold State.handIn
  split
  · exact h
  · exact h.same
  · exact h.same
  · exact absurd ‹_› idle

theorem run (h : s.atRest) : s.run.atRest := by
  rw [State.run]
  split_ifs
  · exact h.same
  · exact h

theorem writeTimebase (h : s.atRest) (v : Word) : (s.writeTimebase v).atRest := by
  unfold State.writeTimebase State.ifFilled
  dsimp only
  split_ifs
  · exact h
  · exact h
  · exact h.same

theorem clearIntakeStatus (h : s.atRest) (v : Word) : (s.clearIntakeStatus v).atRest := by
  unfold State.clearIntakeStatus State.ifFilled
  split_ifs
  · exact h
  · exact h.same

theorem writeNewsEnable (h : s.atRest) (v : Word) : (s.writeNewsEnable v).atRest := by
  unfold State.writeNewsEnable State.ifFilled
  split_ifs
  · exact h
  · exact h.same

theorem writePlain (h : s.atRest) (a : Nat) (v : Word) : (s.writePlain a v).atRest := by
  unfold State.writePlain State.ifFilled
  dsimp only
  split_ifs
  · exact h
  · exact h.same
  · exact h

theorem ifRunning (h : s.atRest) (idle : s.runState ≠ .running) (f : State → State) : (s.ifRunning f).atRest := by
  rw [State.ifRunning, if_neg idle]
  exact h

theorem hostWriteTo (h : s.atRest) (idle : s.runState ≠ .running) (a : Nat) (v : Word) : (s.hostWriteTo a v).atRest := by
  unfold State.hostWriteTo
  split_ifs
  · exact h.writeTimebase v
  · exact h.run
  · exact h.ifRunning idle _
  · exact h
  · exact h.handIn idle v
  · exact h.clearIntakeStatus v
  · exact h.writeNewsEnable v
  · exact h.clearNews none v
  · split
    · exact h.clearNews _ v
    · exact h.writePlain a v

theorem stopDone (h : s.atRest) : s.stopDone.atRest := by
  rw [State.stopDone]
  split_ifs
  · exact h.same
  · exact h

theorem fillDone (h : s.atRest) : s.fillDone.atRest := by
  rw [State.fillDone]
  split_ifs
  · refine h.of_parts (t := { s with runState := .stopped, ports := Vector.ofFn fun p => (s.port p).openEdit })
      (fun p => ?_) rfl rfl rfl rfl rfl rfl
    have port : ({ s with runState := .stopped, ports := Vector.ofFn fun p => (s.port p).openEdit } : State).port p =
        (s.port p).openEdit := State.port_ofFn s _ p
    rw [port, Port.openEdit_eq]
    exact ⟨rfl, rfl, rfl⟩
  · exact h

theorem readinessFall (h : s.atRest) (idle : s.runState ≠ .running) (q : QuadNo) : (s.readinessFall q).atRest := by
  unfold State.readinessFall
  split_ifs
  · exact ifRunning (s := s.setReady q false) h.same idle _
  · exact h

theorem readinessRise (h : s.atRest) (idle : s.runState ≠ .running) (q : QuadNo) : (s.readinessRise q).atRest := by
  unfold State.readinessRise
  split_ifs
  · exact h
  · exact ifRunning (s := s.setReady q true) h.same idle _

theorem take {f : State → State} (h : s.atRest) (hf : (f s).atRest) (e : s.take f = .next t) : t.atRest := by
  rw [State.take] at e
  injection e with e
  subst e
  split_ifs
  · exact h
  · exact State.atRest_closeEdits hf

theorem takeIdle {f : State → State} (h : s.atRest) (idle : s.runState ≠ .running)
    (e : (s.take fun s => s.ifRunning f) = .next t) : t.atRest :=
  h.take (h.ifRunning idle f) e

theorem pinReset (s : State) (levels : BitVec 12) : (s.pinReset levels).atRest := atRest_reset.same

/-- Outside RUNNING every command leaves the part at rest (R155, R160, R161). -/
theorem exec (h : s.atRest) (idle : s.runState ≠ .running) {c : Instr} (e : exec c s = .next t) : t.atRest := by
  cases c with
  | pinReset levels =>
    injection e with e
    exact e ▸ pinReset s levels
  | resetPinAsserted =>
    injection e with e
    exact e ▸ h.same
  | fillDone => exact h.take (f := State.fillDone) h.fillDone e
  | run => exact h.take (f := State.run) h.run e
  | stopDone => exact h.take (f := State.stopDone) h.stopDone e
  | timebaseWrite v => exact h.take (f := fun s => s.writeTimebase v) (h.writeTimebase v) e
  | handIn v => exact h.take (f := fun s => s.handIn v) (h.handIn idle v) e
  | intakeStatusClear v => exact h.take (f := fun s => s.clearIntakeStatus v) (h.clearIntakeStatus v) e
  | newsEnableWrite v => exact h.take (f := fun s => s.writeNewsEnable v) (h.writeNewsEnable v) e
  | newsClear target v => exact h.take (f := fun s => s.clearNews target v) (h.clearNews target v) e
  | hostWrite a v => exact h.take (f := fun s => s.hostWriteTo a.toNat v) (h.hostWriteTo idle _ v) e
  | readinessFall q => exact h.take (f := fun s => s.readinessFall q) (h.readinessFall idle q) e
  | readinessRise q => exact h.take (f := fun s => s.readinessRise q) (h.readinessRise idle q) e
  | _ => exact h.takeIdle idle e

end State.atRest

/-- A command that stops the part leaves it at rest (R161). -/
theorem atRest_of_stop {s t : State} {c : Instr} (stops : stopsThePart c) (agree : s.grantsOk)
    (running : s.runState = .running) (e : exec c s = .next t) (stopped : t.runState ≠ .running) : t.atRest := by
  have done : ∀ {f : State → State}, f s = s.stop → s.take f = .next t → t.atRest := fun {f} hf e => by
    rw [State.take] at e
    injection e with e
    subst e
    split_ifs at stopped ⊢ with pin
    · exact absurd running stopped
    · rw [hf]
      exact State.atRest_closeEdits (State.stop_atRest agree)
  cases c with
  | stop => exact done (f := fun s => s.ifRunning State.stop) (if_pos running) e
  | hostWrite a v =>
    obtain ⟨two, command⟩ := stops
    refine done (f := fun s => s.hostWriteTo a.toNat v) ?_ e
    rw [State.hostWriteTo, if_neg (by omega), if_pos two, if_neg (by omega), if_pos command]
    exact if_pos running
  | _ => exact stops.elim

/-- What O58 says, of a command. -/
theorem grantsKept_exec {s t : State} {c : Instr} (agree : s.grantsOk) (rest : s.runState ≠ .running → s.atRest)
    (e : exec c s = .next t) :
    t.grantsOk ∧ (t.runState ≠ .running → t.atRest) ∧ (s.grantsMade → t.grantsMade) := by
  have stop : ∀ G, State.arbiterKept G False s.stop := fun G => by
    have halted := State.stop_atRest agree
    exact ⟨halted.grantsOk, fun _ => halted.requests, fun _ _ => .inr fun r hr => by
      rw [halted.requests] at hr
      exact absurd hr List.not_mem_nil, False.elim⟩
  have start : State.arbiterKept s.grantsMade False s :=
    ⟨agree, fun idle => (rest idle).requests, fun made => made, False.elim⟩
  have reset : ∀ levels, State.arbiterKept s.grantsMade False (s.pinReset levels) := fun levels =>
    ⟨(State.atRest.pinReset s levels).grantsOk, fun _ => rfl, fun _ running => (nomatch running), False.elim⟩
  have kept := (arbiterKept_cellBlind s.grantsMade False).machine.exec c (fun levels _ => reset levels)
    (fun _ _ _ => stop _) start e
  refine ⟨kept.agree, fun stopped => ?_, kept.made⟩
  by_cases running : s.runState = .running
  · by_cases stops : stopsThePart c
    · exact atRest_of_stop stops agree running e stopped
    · by_cases resets : ∃ levels, c = .pinReset levels
      · obtain ⟨levels, rfl⟩ := resets
        injection e with e
        exact e ▸ State.atRest.pinReset s levels
      · have runs := (arbiterKept_cellBlind False True).machine.exec c (fun levels same => absurd ⟨levels, same⟩ resets)
          (fun yes _ _ => absurd yes stops) ⟨agree, fun idle => absurd running idle, False.elim, fun _ => running⟩ e
        exact absurd (runs.runs trivial) stopped
  · exact (rest running).exec running e

/-- Settles O58: the arbiter's agreement is kept by each change, and a part that stops, or is not RUNNING, is at rest. -/
theorem stepKeepsOneGrantPerQuad : Obligations.StepKeepsOneGrantPerQuad := by
  intro s t e agree rest
  rw [step.eq_def] at e
  split at e
  · rename_i c pending _
    exact grantsKept_exec (s := { s with pending := pending }) (agree.of_parts rfl rfl rfl) (fun idle => (rest idle).same) e
  · have kept := (arbiterKept_cellBlind s.grantsMade False).machine.take
      (fun _ => (arbiterKept_cellBlind s.grantsMade False).machine.clockPeriod
        ⟨agree, fun idle => (rest idle).requests, fun made => made, False.elim⟩)
      ⟨agree, fun idle => (rest idle).requests, fun made => made, False.elim⟩ e
    refine ⟨kept.agree, fun stopped => ?_, kept.made⟩
    by_cases running : s.runState = .running
    · have runs := (arbiterKept_cellBlind False True).machine.take
        (fun _ => (arbiterKept_cellBlind False True).machine.clockPeriod
          ⟨agree, fun idle => absurd running idle, False.elim, fun _ => running⟩)
        ⟨agree, fun idle => absurd running idle, False.elim, fun _ => running⟩ e
      exact absurd (runs.runs trivial) stopped
    · exact (rest running).takeIdle running e

end Sys2Proof.Machine

namespace Sys2Proof.Machine

/-! ### Starts settle a port (R143)

Each start that ends takes a job from the list, so the list's length bounds the starts of one event. -/

/-- A job runs with at most n behind it, or at most n wait. -/
def Port.startedWithin (n : Nat) (x : Port) : Prop :=
  x.status.running ≠ none ∧ x.jobs.length ≤ n + 1 ∨ x.jobs.length ≤ n

theorem Port.startedWithin.of_eq {n : Nat} {x y : Port} (h : x.startedWithin n) (jobs : y.jobs = x.jobs)
    (running : y.status.running = x.status.running) : y.startedWithin n := by
  rw [Port.startedWithin, jobs, running]
  exact h

theorem Port.SameCore.places {x y : Port} (h : x.SameCore y) :
    y.jobs = x.jobs ∧ y.status.running = x.status.running :=
  ⟨congrArg PortCore.jobs h.core, congrArg PortCore.running h.core⟩

theorem Port.startedWithin.openEdit {n : Nat} {x : Port} (h : x.startedWithin n) : x.openEdit.startedWithin n :=
  h.of_eq x.openEdit_jobs (by rw [x.openEdit_status])

theorem State.endJob_port_nil {s : State} {p q : PortNo} (h : (s.port p).jobs = []) (out : JobOutcome) :
    (s.endJob p out).port q = s.port q := by rw [State.endJob_nil h]

/-- The port whose job ends, but for the edit (R144). -/
theorem State.endJob_places (s : State) (p : PortNo) (out : JobOutcome) :
    ((s.endJob p out).port p).jobs = (s.port p).jobs.tail ∧ (∀ q, q ≠ p → (s.endJob p out).port q = s.port q) := by
  cases h : (s.port p).jobs with
  | nil => exact ⟨by rw [State.endJob_nil h, h]; rfl, fun q _ => by rw [State.endJob_nil h]⟩
  | cons j rest =>
    rw [State.endJob_cons h]
    refine ⟨?_, fun q other => ?_⟩
    · rw [State.raisePort_jobs, State.port_updPort_jobs]
      rfl
    · rw [State.raisePort, State.port_setPort_ne _ _ _ _ other, State.port_updPort_ne _ other, State.endCell_port]

theorem State.headBegun_jobs (s : State) (p : PortNo) (j : Job) (rest : List Job) :
    ((s.headBegun p j rest).port p).jobs = { j with start := s.tick } :: rest := by
  rw [State.headBegun, State.port_updPort_jobs]

theorem State.headBegun_running (s : State) (p : PortNo) (j : Job) (rest : List Job) :
    ((s.headBegun p j rest).port p).status.running = some j.cell := by
  rw [State.headBegun, State.port_updPort_status]

theorem startedWithin_keptBase (n : Nat) (p : PortNo) : KeptBase False False (fun s => (s.port p).startedWithin n) p where
  plain := ⟨fun {s} q y same _ h => by
    rw [State.port_setPort]
    split_ifs with e
    · subst e
      exact h.of_eq same.places.1 same.places.2
    · exact h⟩
  enter := fun y same _ _ h => by
    rw [State.port_setPort_self]
    exact Port.startedWithin.of_eq h same.places.1 same.places.2
  record := fun tick down h => by
    rw [State.port_setPort_self]
    exact Port.startedWithin.of_eq h rfl rfl
  charge := fun r h => by
    rw [State.port_setPort_self, Port.charge_eq]
    exact Port.startedWithin.of_eq h rfl rfl
  ask := fun k _ h => by
    rw [State.port_setPort_self]
    exact Port.startedWithin.of_eq h rfl rfl
  transition := fun rising n h => by
    rw [State.port_setPort_self, Port.takeTransition_eq]
    exact Port.startedWithin.of_eq h rfl rfl
  endJob := fun {s} out h => by
    have fewer : ((s.endJob p out).port p).jobs.length = (s.port p).jobs.length - 1 := by
      rw [(s.endJob_places p out).1, List.length_tail]
    refine .inr ?_
    rcases h with ⟨-, h⟩ | h <;> omega
  begin := fun {s} j rest hj _ h => by
    have count : (s.port p).jobs.length = rest.length + 1 := by rw [hj]; rfl
    refine .inl ⟨?_, ?_⟩
    · rw [State.headBegun_running]
      nofun
    · rw [State.headBegun_jobs, List.length_cons]
      rcases h with ⟨-, h⟩ | h <;> omega
  free := fun _ h => h
  release := fun {s} e m _ _ h => by
    rw [State.release_port]
    exact h
  hasProfile := fun b => b.elim

theorem State.startHold_jobs (s : State) (p : PortNo) : ((s.startHold p).port p).jobs = (s.port p).jobs.tail := by
  rw [State.startHold, (State.endJob_places _ _ _).1, State.enterDisabled, State.port_updPort_jobs]
  show (((State.removeProfile _ p).port p).jobs).tail = _
  rw [State.removeProfile, State.port_updPort_jobs]
  show (((State.abortPort _ p none).port p).jobs).tail = _
  rw [(State.abortPort_places _ p none).2]
  split_ifs
  · rw [State.dropLink, State.raisePort_jobs, State.port_updPort_jobs]
    rfl
  · rfl

section Head
variable {s : State} {p : PortNo} {j : Job} {rest : List Job} (h : (s.port p).jobs = j :: rest)
include h

theorem State.startHead_train {f : Profile} (hw : j.work = .train f) :
    s.startHead p = (s.headBegun p j rest).startTrain p f := by
  obtain ⟨cell, tag, work, start⟩ := j
  cases hw
  rw [State.startHead, h]
  rfl

theorem State.startHead_diagnose {r : Recipe} {i : Bool} (hw : j.work = .diagnose r i) :
    s.startHead p = (s.headBegun p j rest).startDiagnose p r j.tag i := by
  obtain ⟨cell, tag, work, start⟩ := j
  cases hw
  rw [State.startHead, h]
  rfl

theorem State.startHead_hold (hw : j.work = .hold) : s.startHead p = (s.headBegun p j rest).startHold p := by
  obtain ⟨cell, tag, work, start⟩ := j
  cases hw
  rw [State.startHead, h]
  rfl

/-- A start leaves its job running, or fewer jobs (R143). -/
theorem State.startHead_settles : ((s.startHead p).port p).startedWithin rest.length := by
  have K := startedWithin_keptBase rest.length p
  have jobs := s.headBegun_jobs p j rest
  have begun : ((s.headBegun p j rest).port p).startedWithin rest.length := by
    refine .inl ⟨?_, by rw [jobs]; rfl⟩
    rw [State.headBegun_running]
    nofun
  cases hw : j.work with
  | train f =>
    rw [State.startHead_train h hw]
    refine K.startTrain f (fun {t} ht => ?_) begun
    rcases t.port_updPort_self p fun x => x.trained f with e | e <;> rw [e]
    · exact Port.startedWithin.of_eq ht rfl rfl
    · exact (Port.startedWithin.of_eq (y := (t.port p).trained f) ht rfl rfl).openEdit
  | diagnose r i =>
    rw [State.startHead_diagnose h hw]
    exact K.startDiagnose False.elim j.tag i begun
  | hold =>
    rw [State.startHead_hold h hw]
    exact .inr (by rw [State.startHold_jobs, jobs]; exact Nat.le_refl _)

end Head

/-- A port that is settled starts nothing (R143). -/
theorem State.startJobsUpTo_of_settled {s : State} {p : PortNo} (h : (s.port p).settled) :
    ∀ n, State.startJobsUpTo n s p = s
  | 0 => rfl
  | n + 1 => by
    rw [State.startJobsUpTo, if_neg]
    rcases h with h | h <;> simp [h]

/-- When its starts are done a port is settled (R143). -/
theorem State.startJobsUpTo_settled {p : PortNo} : ∀ (n : Nat) {s : State}, (s.port p).jobs.length ≤ n →
    ((State.startJobsUpTo n s p).port p).settled
  | 0, s, short => .inl (List.eq_nil_of_length_eq_zero (Nat.le_zero.mp short))
  | n + 1, s, short => by
    rw [State.startJobsUpTo]
    split_ifs with waits
    · obtain ⟨idle, jobs⟩ : (s.port p).status.running = none ∧ (s.port p).jobs ≠ [] := by simpa using waits
      obtain ⟨j, rest, h⟩ := List.exists_cons_of_ne_nil jobs
      rw [h] at short
      have fits : rest.length ≤ n := by simpa using short
      rcases State.startHead_settles h with ⟨runs, -⟩ | fewer
      · rw [State.startJobsUpTo_of_settled (.inr runs)]
        exact .inr runs
      · exact State.startJobsUpTo_settled n (Nat.le_trans fewer fits)
    · by_cases jobs : (s.port p).jobs = []
      · exact .inl jobs
      · exact .inr (by simpa [jobs] using waits)

theorem State.startJobs_settles (s : State) (p : PortNo) : ((s.startJobs p).port p).settled :=
  State.startJobsUpTo_settled _ (Nat.le_refl _)

end Sys2Proof.Machine

namespace Sys2Proof.Machine

/-! ### Cells in one place (R136, R142, R143) -/

/-- Each cell is in one place that its custody names. `X` are the cells in intake's hand, out of the queue; a port of
`O` is inside an event, where a job may wait to start. -/
structure State.places (X : CellNo → Prop) (O : PortNo → Prop) (s : State) : Prop where
  queueShort : s.intakeQueue.length ≤ 16
  queueOnce : s.intakeQueue.Nodup
  queueCustody : ∀ c : CellNo, c ∈ s.intakeQueue ∨ X c ↔ s.custodyOf c = .intake
  inHand : ∀ c : CellNo, X c → c ∉ s.intakeQueue
  listShort : ∀ p : PortNo, (s.port p).jobs.length ≤ 4
  listOnce : ∀ p : PortNo, ((s.port p).jobs.map Job.cell).Nodup
  oneList : ∀ (p q : PortNo) (c : CellNo), s.inList p c → s.inList q c → p = q
  listCustody : ∀ (p : PortNo) (c : CellNo), s.inList p c →
    s.custodyOf c = .running ∧ s.isHead p c ∨ s.custodyOf c = .listed
  custodyList : ∀ c : CellNo, s.custodyOf c = .running ∨ s.custodyOf c = .listed → ∃ p : PortNo, s.inList p c
  running : ∀ (p : PortNo) (c : CellNo), (s.port p).status.running = some c → s.custodyOf c = .running ∧ s.isHead p c
  settled : ∀ p : PortNo, ¬ O p → (s.port p).settled

abbrev noCell (_ : CellNo) : Prop := False
abbrev noPort (_ : PortNo) : Prop := False

theorem State.isHead_inList {s : State} {p : PortNo} {c : CellNo} (h : s.isHead p c) : s.inList p c := by
  cases hj : (s.port p).jobs with
  | nil =>
    rw [State.isHead, hj] at h
    cases h
  | cons j rest =>
    rw [State.isHead, hj] at h
    rw [State.inList, hj]
    exact Option.some.inj h ▸ List.mem_cons_self

theorem State.jobsOk_iff (s : State) : s.jobsOk ↔ s.places noCell noPort := by
  constructor
  · intro h
    refine ⟨h.queueShort, h.queueOnce, fun c => by rw [or_false]; exact h.queueCustody c, fun _ x => x.elim, h.listShort, h.listOnce,
      h.oneList, fun p c hc => (h.listCustody p c hc).imp id And.left, h.custodyList, fun p c hc => ?_, fun p _ => ?_⟩
    · have head : s.isHead p c := (h.runningIsHead p).symm.trans hc
      rcases h.listCustody p c (State.isHead_inList head) with running | ⟨-, other⟩
      · exact running
      · exact absurd head other
    · cases hj : (s.port p).jobs with
      | nil => exact .inl hj
      | cons j rest =>
        refine .inr ?_
        rw [h.runningIsHead p, hj]
        nofun
  · intro h
    have runningIsHead : ∀ p : PortNo, (s.port p).status.running = (s.port p).jobs.head?.map Job.cell := fun p => by
      cases hr : (s.port p).status.running with
      | some c => exact ((h.running p c hr).2).symm
      | none =>
        rw [(h.settled p id).resolve_right fun runs => runs hr]
        rfl
    refine ⟨h.queueShort, h.queueOnce, fun c => by rw [← h.queueCustody c, or_false], h.listShort, h.listOnce, h.oneList,
      fun p c hc => ?_, h.custodyList, runningIsHead⟩
    refine (h.listCustody p c hc).imp id fun listed => ⟨listed, fun head => ?_⟩
    have running := (h.running p c ((runningIsHead p).trans head)).1
    rw [listed] at running
    cases running

theorem State.updPort_custodyOf (s : State) (p : PortNo) (f : Port → Port) (c : CellNo) :
    (s.updPort p f).custodyOf c = s.custodyOf c := rfl

theorem State.setPort_queue (s : State) (p : PortNo) (y : Port) : (s.setPort p y).intakeQueue = s.intakeQueue := rfl

theorem State.endCell_queue (s : State) (c : CellNo) (st : CellState) (out : JobOutcome) (why : Reason) (start : Ticks) :
    (s.endCell c st out why start).intakeQueue = s.intakeQueue := by
  obtain ⟨mem, custody, shape⟩ := s.endCell_frame c st out why start
  rw [shape]

namespace State.places
variable {X : CellNo → Prop} {O : PortNo → Prop} {s t : State}

/-- No place has changed, but that a port inside an event may have lost its running cell. -/
theorem of_less (h : s.places X O) (custody : t.custody = s.custody) (queue : t.intakeQueue = s.intakeQueue)
    (ports : ∀ p, (t.port p).jobs = (s.port p).jobs ∧
      ((t.port p).status.running = (s.port p).status.running ∨ O p ∧ (t.port p).status.running = none)) :
    t.places X O := by
  have custodyOf : ∀ c, t.custodyOf c = s.custodyOf c := fun c => by rw [State.custodyOf, custody]; rfl
  have inList : ∀ {p c}, t.inList p c ↔ s.inList p c := fun {p c} => by rw [State.inList, State.inList, (ports p).1]
  have isHead : ∀ {p c}, t.isHead p c ↔ s.isHead p c := fun {p c} => by rw [State.isHead, State.isHead, (ports p).1]
  refine ⟨queue ▸ h.queueShort, queue ▸ h.queueOnce, fun c => ?_, fun c hc => ?_, fun p => ?_, fun p => ?_,
    fun p q c hp hq => h.oneList p q c (inList.mp hp) (inList.mp hq), fun p c hc => ?_, fun c hc => ?_, fun p c hc => ?_,
    fun p hp => ?_⟩
  · rw [queue, custodyOf]
    exact h.queueCustody c
  · rw [queue]
    exact h.inHand c hc
  · rw [(ports p).1]
    exact h.listShort p
  · rw [(ports p).1]
    exact h.listOnce p
  · rw [custodyOf, isHead]
    exact h.listCustody p c (inList.mp hc)
  · rw [custodyOf] at hc
    obtain ⟨p, hp⟩ := h.custodyList c hc
    exact ⟨p, inList.mpr hp⟩
  · rcases (ports p).2 with same | ⟨-, none⟩
    · rw [same] at hc
      rw [custodyOf, isHead]
      exact h.running p c hc
    · rw [none] at hc
      cases hc
  · rcases (ports p).2 with same | ⟨inside, -⟩
    · rw [Port.settled, (ports p).1, same]
      exact h.settled p hp
    · exact absurd inside hp

/-- No place has changed. -/
theorem of_same (h : s.places X O) (custody : t.custody = s.custody) (queue : t.intakeQueue = s.intakeQueue)
    (ports : ∀ p, (t.port p).jobs = (s.port p).jobs ∧ (t.port p).status.running = (s.port p).status.running) :
    t.places X O :=
  h.of_less custody queue fun p => ⟨(ports p).1, .inl (ports p).2⟩

theorem of_ports (h : s.places X O) (custody : t.custody = s.custody := by rfl)
    (queue : t.intakeQueue = s.intakeQueue := by rfl) (ports : t.ports = s.ports := by rfl) : t.places X O :=
  h.of_same custody queue fun p => by rw [State.port, State.port, ports]; exact ⟨rfl, rfl⟩

theorem setPort (h : s.places X O) (q : PortNo) {y : Port} (jobs : y.jobs = (s.port q).jobs)
    (running : y.status.running = (s.port q).status.running) : (s.setPort q y).places X O :=
  h.of_same rfl rfl fun p => by
    rw [State.port_setPort]
    split_ifs with same
    · exact same ▸ ⟨jobs, running⟩
    · exact ⟨rfl, rfl⟩

theorem open_ (h : s.places X O) {O' : PortNo → Prop} (wider : ∀ p, O p → O' p) : s.places X O' :=
  { h with settled := fun p hp => h.settled p fun o => hp (wider p o) }

/-- A port whose starts are done is closed again (R143). -/
theorem close {p : PortNo} (h : s.places X fun q => q = p) (settled : (s.port p).settled) : s.places X noPort := by
  refine { h with settled := fun q _ => ?_ }
  by_cases same : q = p
  · exact same ▸ settled
  · exact h.settled q same

theorem listed_not_intake (h : s.places X O) {p : PortNo} {c : CellNo} (hc : s.inList p c) : s.custodyOf c ≠ .intake := by
  rcases h.listCustody p c hc with ⟨running, -⟩ | listed
  · rw [running]
    nofun
  · rw [listed]
    nofun

/-- A cell leaves the list of its port for the host (R144, R146, R147). -/
theorem remove (h : s.places X O) {p : PortNo} {c : CellNo} (hc : s.inList p c)
    (custody : ∀ d, t.custodyOf d = if c = d then .outside else s.custodyOf d) (queue : t.intakeQueue = s.intakeQueue)
    (others : ∀ q, q ≠ p → (t.port q).jobs = (s.port q).jobs ∧ (t.port q).status.running = (s.port q).status.running)
    (shorter : (t.port p).jobs.Sublist (s.port p).jobs) (cells : ∀ d, t.inList p d ↔ s.inList p d ∧ d ≠ c)
    (head : ∀ d, s.isHead p d → d ≠ c → t.isHead p d)
    (running : (t.port p).status.running = none ∨
      (t.port p).status.running = (s.port p).status.running ∧ s.custodyOf c = .listed)
    (settled : ¬ O p → (t.port p).settled) : t.places X O := by
  have notIntake := h.listed_not_intake hc
  have custodyOther : ∀ {d}, d ≠ c → t.custodyOf d = s.custodyOf d := fun {d} other => by
    rw [custody, if_neg (Ne.symm other)]
  have gone : t.custodyOf c = .outside := by rw [custody, if_pos rfl]
  have inOther : ∀ {q d}, q ≠ p → (t.inList q d ↔ s.inList q d) := fun {q d} other => by
    rw [State.inList, State.inList, (others q other).1]
  have inList : ∀ {q d}, t.inList q d ↔ s.inList q d ∧ d ≠ c := fun {q d} => by
    by_cases same : q = p
    · exact same ▸ cells d
    · rw [inOther same]
      exact ⟨fun hd => ⟨hd, fun e => same (h.oneList q p c (e ▸ hd) hc)⟩, And.left⟩
  have isHead : ∀ {q d}, s.isHead q d → d ≠ c → t.isHead q d := fun {q d} hd other => by
    by_cases same : q = p
    · exact same ▸ head d (same ▸ hd) other
    · rw [State.isHead, (others q same).1]
      exact hd
  refine ⟨queue ▸ h.queueShort, queue ▸ h.queueOnce, fun d => ?_, fun d hd => queue ▸ h.inHand d hd, fun q => ?_,
    fun q => ?_, fun q q' d hd hd' => h.oneList q q' d (inList.mp hd).1 (inList.mp hd').1, fun q d hd => ?_, fun d hd => ?_,
    fun q d hd => ?_, fun q hq => ?_⟩
  · rw [queue, h.queueCustody d, custody]
    split_ifs with same
    · exact ⟨fun waits => absurd (same ▸ waits) notIntake, nofun⟩
    · exact Iff.rfl
  · by_cases same : q = p
    · exact same ▸ Nat.le_trans shorter.length_le (h.listShort p)
    · rw [(others q same).1]
      exact h.listShort q
  · by_cases same : q = p
    · exact same ▸ (shorter.map Job.cell).nodup (h.listOnce p)
    · rw [(others q same).1]
      exact h.listOnce q
  · obtain ⟨hd, other⟩ := inList.mp hd
    rw [custodyOther other]
    exact (h.listCustody q d hd).imp (fun runs => ⟨runs.1, isHead runs.2 other⟩) id
  · have other : d ≠ c := fun e => by
      rw [e, gone] at hd
      exact hd.elim nofun nofun
    rw [custodyOther other] at hd
    obtain ⟨q, hq⟩ := h.custodyList d hd
    exact ⟨q, inList.mpr ⟨hq, other⟩⟩
  · have before : (s.port q).status.running = some d ∧ d ≠ c := by
      by_cases same : q = p
      · subst same
        rcases running with none | ⟨kept, listed⟩
        · rw [none] at hd
          cases hd
        · rw [kept] at hd
          refine ⟨hd, fun e => ?_⟩
          have runs := (h.running q d hd).1
          rw [e, listed] at runs
          cases runs
      · rw [(others q same).2] at hd
        exact ⟨hd, fun e => same (h.oneList q p c (e ▸ State.isHead_inList (h.running q d hd).2) hc)⟩
    obtain ⟨hd, other⟩ := before
    rw [custodyOther other]
    exact (h.running q d hd).imp id fun head => isHead head other
  · by_cases same : q = p
    · exact same ▸ settled (same ▸ hq)
    · rw [Port.settled, (others q same).1, (others q same).2]
      exact h.settled q hq

/-- The head of a list, and no other cell, is taken from it. -/
theorem removeHead (h : s.places X O) {p : PortNo} {j : Job} {rest : List Job} (hj : (s.port p).jobs = j :: rest)
    (custody : ∀ d, t.custodyOf d = if j.cell = d then .outside else s.custodyOf d)
    (queue : t.intakeQueue = s.intakeQueue) (others : ∀ q, q ≠ p → t.port q = s.port q)
    (jobs : (t.port p).jobs = rest) (running : (t.port p).status.running = none) (o : O p) : t.places X O := by
  have once := h.listOnce p
  rw [hj, List.map_cons, List.nodup_cons] at once
  refine h.remove (p := p) (c := j.cell) ?_ custody queue (fun q other => by rw [others q other]; exact ⟨rfl, rfl⟩) ?_
    (fun d => ?_) (fun d hd other => ?_) (.inl running) (fun closed => absurd o closed)
  · rw [State.inList, hj]
    exact List.mem_cons_self
  · rw [jobs, hj]
    exact List.sublist_cons_self j rest
  · rw [State.inList, State.inList, jobs, hj, List.map_cons, List.mem_cons]
    constructor
    · exact fun hd => ⟨.inr hd, fun e => once.1 (e ▸ hd)⟩
    · rintro ⟨same | hd, other⟩
      · exact absurd same other
      · exact hd
  · rw [State.isHead, hj] at hd
    exact absurd (Option.some.inj hd).symm other

theorem endJob (h : s.places X O) {p : PortNo} (o : O p) (out : JobOutcome) : (s.endJob p out).places X O := by
  cases hj : (s.port p).jobs with
  | nil =>
    rw [State.endJob_nil hj]
    exact h
  | cons j rest =>
    have places := s.endJob_places p out
    rw [hj] at places
    refine h.removeHead hj (fun d => ?_) ?_ places.2 places.1 ?_ o
    · rw [State.endJob_cons hj, State.raisePort, State.setPort_custodyOf, State.updPort_custodyOf,
        State.endCell_custodyOf]
    · rw [State.endJob_cons hj, State.raisePort, State.setPort_queue, State.updPort_intakeQueue, State.endCell_queue]
    · rw [State.endJob_cons hj, State.raisePort_status, State.port_updPort_status]

/-- The head of a list starts: its custody and the running cell name it (R143). -/
theorem headBegun (h : s.places X O) {p : PortNo} {j : Job} {rest : List Job} (hj : (s.port p).jobs = j :: rest) :
    (s.headBegun p j rest).places X O := by
  set t := s.headBegun p j rest
  have custody : ∀ d, t.custodyOf d = if j.cell = d then .running else s.custodyOf d := fun d => by
    show (s.headBegun p j rest).custodyOf d = _
    rw [State.headBegun, State.updPort_custodyOf, State.setCustody_custodyOf]
    rfl
  have queue : t.intakeQueue = s.intakeQueue := rfl
  have others : ∀ q, q ≠ p → t.port q = s.port q := fun q other => State.port_updPort_ne _ other _
  have cells : (t.port p).jobs.map Job.cell = (s.port p).jobs.map Job.cell := by
    show ((s.headBegun p j rest).port p).jobs.map Job.cell = _
    rw [s.headBegun_jobs, hj]
    rfl
  have mapped : ∀ q, (t.port q).jobs.map Job.cell = (s.port q).jobs.map Job.cell := fun q => by
    by_cases same : q = p
    · exact same ▸ cells
    · rw [others q same]
  have inList : ∀ {q d}, t.inList q d ↔ s.inList q d := fun {q d} => by rw [State.inList, State.inList, mapped]
  have isHead : ∀ {q d}, t.isHead q d ↔ s.isHead q d := fun {q d} => by
    rw [State.isHead, State.isHead, ← List.head?_map, ← List.head?_map, mapped]
  have head : s.isHead p j.cell := by
    rw [State.isHead, hj]
    rfl
  have listed : s.inList p j.cell := State.isHead_inList head
  refine ⟨h.queueShort, h.queueOnce, fun d => ?_, h.inHand, fun q => ?_, fun q => ?_,
    fun q q' d hd hd' => h.oneList q q' d (inList.mp hd) (inList.mp hd'), fun q d hd => ?_, fun d hd => ?_, fun q d hd => ?_,
    fun q hq => ?_⟩
  · rw [queue, h.queueCustody d, custody]
    split_ifs with same
    · exact ⟨fun waits => absurd (same ▸ waits) (h.listed_not_intake listed), nofun⟩
    · exact Iff.rfl
  · rw [← List.length_map (as := (t.port q).jobs) Job.cell, mapped, List.length_map]
    exact h.listShort q
  · rw [mapped]
    exact h.listOnce q
  · rw [custody, isHead]
    split_ifs with same
    · subst same
      exact .inl ⟨rfl, h.oneList q p _ (inList.mp hd) listed ▸ head⟩
    · exact h.listCustody q d (inList.mp hd)
  · rw [custody] at hd
    split_ifs at hd with same
    · exact ⟨p, inList.mpr (same ▸ listed)⟩
    · obtain ⟨q, hq⟩ := h.custodyList d hd
      exact ⟨q, inList.mpr hq⟩
  · rw [custody, isHead]
    by_cases same : q = p
    · subst same
      have cell : some j.cell = some d := (s.headBegun_running q j rest).symm.trans hd
      cases cell
      exact ⟨if_pos rfl, head⟩
    · rw [others q same] at hd
      obtain ⟨runs, headed⟩ := h.running q d hd
      refine ⟨?_, headed⟩
      split_ifs
      · rfl
      · exact runs
  · by_cases same : q = p
    · subst same
      refine .inr ?_
      rw [s.headBegun_running q j rest]
      nofun
    · rw [others q same]
      exact h.settled q hq

end State.places

end Sys2Proof.Machine

namespace Sys2Proof.Machine

/-! ### Places through the operations of a port -/

section
variable {X : CellNo → Prop} {O : PortNo → Prop}

theorem places_plain (X : CellNo → Prop) (O : PortNo → Prop) : KeepsPlain (State.places X O) where
  port := fun q _ same _ h => h.setPort q same.places.1 same.places.2

theorem State.release_queue (s : State) (e : EngineNo) : (s.release e).intakeQueue = s.intakeQueue := by
  rw [State.release, State.applyGrantRule_frame, State.endGrant]
  dsimp only
  split <;> rfl

theorem places_release {s : State} (h : s.places X O) (e : EngineNo) : (s.release e).places X O :=
  h.of_same (s.release_custody e) (s.release_queue e) fun p => by rw [State.release_port]; exact ⟨rfl, rfl⟩

theorem places_keptBase {p : PortNo} (o : O p) : KeptBase False False (State.places X O) p where
  plain := places_plain X O
  enter := fun y same _ _ h => h.setPort p same.places.1 same.places.2
  record := fun _ _ h => h.setPort p rfl rfl
  charge := fun r h => by
    rw [Port.charge_eq]
    exact h.setPort p rfl rfl
  ask := fun _ _ h => h.setPort p rfl rfl
  transition := fun _ _ h => by
    rw [Port.takeTransition_eq]
    exact h.setPort p rfl rfl
  endJob := fun out h => h.endJob o out
  begin := fun _ _ hj _ h => h.headBegun hj
  free := fun _ h => h.of_ports
  release := fun e _ _ _ h => places_release h e
  hasProfile := fun b => b.elim

/-- A port inside an event may lose its profile, and its running cell with it (R18, R19). -/
theorem places_retire {p : PortNo} (o : O p) {s : State} {y : Port} (retires : (s.port p).Retires y)
    (h : s.places X O) : (s.setPort p y).places X O := by
  have jobs : y.jobs = (s.port p).jobs := congrArg PortCore.jobs retires.core
  have running : y.status.running = none := congrArg PortCore.running retires.core
  refine h.of_less rfl rfl fun q => ?_
  rw [State.port_setPort]
  split_ifs with same
  · exact same ▸ ⟨jobs, .inr ⟨o, running⟩⟩
  · exact ⟨rfl, .inl rfl⟩

theorem places_kept {p : PortNo} (o : O p) : Kept False False (State.places X O) p :=
  { places_keptBase o with
    retire := fun _ retires h => places_retire o retires h
    train := fun f _ h => (places_keptBase o).startTrain f (fun {s} h => by
      refine h.of_same rfl rfl fun q => ?_
      by_cases same : q = p
      · subst same
        rw [State.port_updPort_jobs, State.port_updPort_status]
        exact ⟨rfl, rfl⟩
      · rw [State.port_updPort_ne _ same]
        exact ⟨rfl, rfl⟩) h
    trainOk := fun _ _ b => b.elim
    recipeOk := fun _ _ _ r => r.elim }

end

/-- A port's starts close its event (R143). -/
theorem places_lifts (X : CellNo → Prop) (p : PortNo) :
    Lifts False False (State.places X fun q => q = p) (State.places X noPort) p :=
  { places_kept (O := fun q => q = p) rfl with
    weaken := fun h => h.open_ fun _ => False.elim
    outer := places_plain X noPort
    outerEnter := fun y same _ _ h => h.setPort p same.places.1 same.places.2
    outerTransition := fun _ _ h => by
      rw [Port.takeTransition_eq]
      exact h.setPort p rfl rfl
    starts := fun {s} h => ((places_kept (O := fun q => q = p) rfl).startJobs h).close (s.startJobs_settles p) }

theorem places_finishing (X : CellNo → Prop) (p : PortNo) (e : EngineNo) :
    Finishing (State.places X fun q => q = p) (State.places X noPort) (State.places X fun q => q = p)
      (State.places X noPort) p e where
  plain := places_plain X noPort
  weaken := fun h => h.open_ fun _ => False.elim
  endJob := fun out h => h.endJob rfl out
  measure := fun _ _ _ _ _ _ h => h.of_ports
  released := fun _ _ _ h => places_release h e
  releasedOut := fun _ _ _ h => places_release h e

end Sys2Proof.Machine

namespace Sys2Proof.Machine

/-! ### Places through intake's entry (R139 to R147) -/

namespace State.places
variable {O : PortNo → Prop} {s t : State} {c : CellNo}

theorem hand {X X' : CellNo → Prop} (h : s.places X O) (same : ∀ d, X d ↔ X' d) : s.places X' O := by
  obtain rfl : X = X' := funext fun d => propext (same d)
  exact h

theorem handed {X : CellNo → Prop} (h : s.places X O) (x : X c) : s.custodyOf c = .intake :=
  (h.queueCustody c).mp (.inr x)

/-- A cell in intake's hand goes back to the host (R135, R139). -/
theorem handBack {X : CellNo → Prop} (h : s.places X O) (x : X c)
    (custody : ∀ d, t.custodyOf d = if c = d then .outside else s.custodyOf d) (queue : t.intakeQueue = s.intakeQueue)
    (ports : ∀ p, t.port p = s.port p) : t.places (fun d => X d ∧ d ≠ c) O := by
  have inList : ∀ {q d}, t.inList q d ↔ s.inList q d := fun {q d} => by rw [State.inList, State.inList, ports]
  have isHead : ∀ {q d}, t.isHead q d ↔ s.isHead q d := fun {q d} => by rw [State.isHead, State.isHead, ports]
  have other : ∀ {d}, s.custodyOf d ≠ .intake → t.custodyOf d = s.custodyOf d := fun {d} hd => by
    rw [custody, if_neg fun e : c = d => hd (e ▸ h.handed x)]
  refine ⟨queue ▸ h.queueShort, queue ▸ h.queueOnce, fun d => ?_, fun d hd => queue ▸ h.inHand d hd.1, fun p => ?_,
    fun p => ?_, fun p q d hp hq => h.oneList p q d (inList.mp hp) (inList.mp hq), fun p d hd => ?_, fun d hd => ?_,
    fun p d hd => ?_, fun p hp => ?_⟩
  · rw [queue, custody]
    split_ifs with same
    · subst same
      exact ⟨fun waits => waits.elim (fun waits => absurd waits (h.inHand c x)) fun hd => absurd rfl hd.2, nofun⟩
    · rw [← h.queueCustody d]
      exact or_congr Iff.rfl ⟨And.left, fun hd => ⟨hd, Ne.symm same⟩⟩
  · rw [ports]
    exact h.listShort p
  · rw [ports]
    exact h.listOnce p
  · rw [other (h.listed_not_intake (inList.mp hd)), isHead]
    exact h.listCustody p d (inList.mp hd)
  · have held : s.custodyOf d = .running ∨ s.custodyOf d = .listed := by
      rw [custody] at hd
      split_ifs at hd
      · exact hd.elim nofun nofun
      · exact hd
    obtain ⟨p, hp⟩ := h.custodyList d held
    exact ⟨p, inList.mpr hp⟩
  · rw [ports] at hd
    have runs := h.running p d hd
    rw [other (by rw [runs.1]; nofun), isHead]
    exact runs
  · rw [ports]
    exact h.settled p hp

/-- A cell of the queue is taken in hand (R139). -/
theorem pop {X : CellNo → Prop} (h : s.places X O) {d : CellNo} {rest : List CellNo} (waits : d ∈ s.intakeQueue)
    (shorter : rest.Sublist s.intakeQueue) (mem : ∀ x, x ∈ rest ↔ x ∈ s.intakeQueue ∧ x ≠ d) :
    ({ s with intakeQueue := rest } : State).places (fun x => X x ∨ x = d) O where
  queueShort := Nat.le_trans shorter.length_le h.queueShort
  queueOnce := shorter.nodup h.queueOnce
  queueCustody := fun x => by
    show x ∈ rest ∨ X x ∨ x = d ↔ s.custodyOf x = .intake
    rw [mem, ← h.queueCustody x]
    constructor
    · rintro (⟨hx, -⟩ | hx | rfl)
      · exact .inl hx
      · exact .inr hx
      · exact .inl waits
    · rintro (hx | hx)
      · by_cases same : x = d
        · exact .inr (.inr same)
        · exact .inl ⟨hx, same⟩
      · exact .inr (.inl hx)
  inHand := fun x hx hr => by
    obtain ⟨old, other⟩ := (mem x).mp hr
    exact hx.elim (fun hx => h.inHand x hx old) other
  listShort := h.listShort
  listOnce := h.listOnce
  oneList := h.oneList
  listCustody := h.listCustody
  custodyList := h.custodyList
  running := h.running
  settled := h.settled

theorem endHanded {X : CellNo → Prop} (h : s.places X O) (x : X c) (st : CellState) (out : JobOutcome) (why : Reason)
    (start : Ticks) : (s.endCell c st out why start).places (fun d => X d ∧ d ≠ c) O :=
  h.handBack x (fun _ => State.endCell_custodyOf ..) (s.endCell_queue ..) fun _ => State.endCell_port ..

theorem noneInHand (d : CellNo) : d = c ∧ d ≠ c ↔ noCell d := ⟨fun h => h.2 h.1, False.elim⟩

theorem joined_port (s : State) (p : PortNo) (c : CellNo) (w : Work) (q : PortNo) : (s.joined p c w).port q =
    (s.updPort p fun x => { x with jobs := x.jobs ++ [⟨c, s.cellTag c, w, s.tick⟩] }).port q := rfl

/-- The cell in intake's hand joins the tail of a list with room (R142). -/
theorem join (h : s.places (fun d => d = c) noPort) {p : PortNo} (w : Work) (room : (s.port p).jobs.length < 4) :
    (s.joined p c w).places noCell fun q => q = p := by
  set t := s.joined p c w
  have handed := h.handed (c := c) rfl
  have custody : ∀ d, t.custodyOf d = if c = d then .listed else s.custodyOf d := fun d => by
    show (s.joined p c w).custodyOf d = _
    rw [State.joined, State.setCustody_custodyOf]
    rfl
  have others : ∀ q, q ≠ p → t.port q = s.port q := fun q other => by
    show (s.joined p c w).port q = _
    rw [joined_port, State.port_updPort_ne _ other]
  have jobs : (t.port p).jobs = (s.port p).jobs ++ [⟨c, s.cellTag c, w, s.tick⟩] := by
    show ((s.joined p c w).port p).jobs = _
    rw [joined_port, State.port_updPort_jobs]
  have running : ∀ q, (t.port q).status.running = (s.port q).status.running := fun q => by
    by_cases same : q = p
    · subst same
      show ((s.joined q c w).port q).status.running = _
      rw [joined_port, State.port_updPort_status]
    · rw [others q same]
  have notListed : ∀ q, ¬ s.inList q c := fun q hq => h.listed_not_intake hq handed
  have inList : ∀ {q d}, t.inList q d ↔ s.inList q d ∨ q = p ∧ d = c := fun {q d} => by
    by_cases same : q = p
    · subst same
      rw [State.inList, State.inList, jobs, List.map_append, List.mem_append, List.map_singleton, List.mem_singleton]
      exact or_congr Iff.rfl (by simp)
    · rw [State.inList, State.inList, others q same]
      simp [same]
  have isHead : ∀ {q d}, s.isHead q d → t.isHead q d := fun {q d} hd => by
    by_cases same : q = p
    · subst same
      cases hj : (s.port q).jobs with
      | nil =>
        rw [State.isHead, hj] at hd
        cases hd
      | cons j rest =>
        rw [State.isHead, hj] at hd
        rw [State.isHead, jobs, hj]
        exact hd
    · rw [State.isHead, others q same]
      exact hd
  have other : ∀ {d}, s.custodyOf d ≠ .intake → t.custodyOf d = s.custodyOf d := fun {d} hd => by
    rw [custody, if_neg fun e : c = d => hd (e ▸ handed)]
  refine ⟨h.queueShort, h.queueOnce, fun d => ?_, fun _ x => x.elim, fun q => ?_, fun q => ?_, fun q q' d hd hd' => ?_,
    fun q d hd => ?_, fun d hd => ?_, fun q d hd => ?_, fun q hq => ?_⟩
  · rw [custody, or_false]
    show d ∈ s.intakeQueue ↔ _
    split_ifs with same
    · exact ⟨fun waits => absurd waits (h.inHand d same.symm), nofun⟩
    · rw [← h.queueCustody d, or_iff_left (Ne.symm same)]
  · by_cases same : q = p
    · subst same
      rw [jobs, List.length_append, List.length_singleton]
      omega
    · rw [others q same]
      exact h.listShort q
  · by_cases same : q = p
    · subst same
      rw [jobs, List.map_append, List.map_singleton]
      exact (h.listOnce q).append (List.nodup_singleton c) (List.disjoint_singleton.mpr (notListed q))
    · rw [others q same]
      exact h.listOnce q
  · rcases inList.mp hd with old | ⟨rfl, rfl⟩
    · rcases inList.mp hd' with old' | ⟨rfl, rfl⟩
      · exact h.oneList q q' d old old'
      · exact absurd old (notListed q)
    · rcases inList.mp hd' with old' | ⟨rfl, -⟩
      · exact absurd old' (notListed q')
      · rfl
  · rcases inList.mp hd with hd | ⟨rfl, rfl⟩
    · rw [other (h.listed_not_intake hd)]
      exact (h.listCustody q d hd).imp (fun runs => ⟨runs.1, isHead runs.2⟩) id
    · exact .inr (by rw [custody, if_pos rfl])
  · by_cases same : c = d
    · exact ⟨p, inList.mpr (.inr ⟨rfl, same.symm⟩)⟩
    · rw [custody, if_neg same] at hd
      obtain ⟨q, hq⟩ := h.custodyList d hd
      exact ⟨q, inList.mpr (.inl hq)⟩
  · rw [running] at hd
    have runs := h.running q d hd
    rw [other (by rw [runs.1]; nofun)]
    exact ⟨runs.1, isHead runs.2⟩
  · rw [others q hq]
    exact h.settled q id

/-- A cell that waits in the queue leaves it for the host (R146). -/
theorem unqueue {X : CellNo → Prop} (h : s.places X O) {d : CellNo} (held : s.custodyOf d = .intake) (ne : ¬ X d) :
    (s.unqueued d).places X O := by
  have waits : d ∈ s.intakeQueue := ((h.queueCustody d).mpr held).resolve_right ne
  have taken := h.pop (rest := s.intakeQueue.filter fun c => decide (c ≠ d)) waits List.filter_sublist
    (fun x => by simp)
  refine (taken.endHanded (.inr rfl) .cancelled .none .byCancel s.tick).hand fun x => ?_
  exact ⟨fun hx => hx.1.resolve_right hx.2, fun hx => ⟨.inl hx, fun e => ne (e ▸ hx)⟩⟩

/-- A cell that waits in a list leaves it for the host (R146). -/
theorem unlist {X : CellNo → Prop} (h : s.places X O) {p : PortNo} {d : CellNo} (listed : s.custodyOf d = .listed)
    (mem : s.inList p d) : (s.unlisted p d).places X O := by
  have others : ∀ q, q ≠ p → (s.unlisted p d).port q = s.port q := fun q other => by
    rw [State.unlisted, State.cancelCell, State.endCell_port, State.port_updPort_ne _ other]
  have jobs : ((s.unlisted p d).port p).jobs = (s.port p).jobs.filter fun j => decide (j.cell ≠ d) := by
    rw [State.unlisted, State.cancelCell, State.endCell_port, State.port_updPort_jobs]
  have running : ((s.unlisted p d).port p).status.running = (s.port p).status.running := by
    rw [State.unlisted, State.cancelCell, State.endCell_port, State.port_updPort_status]
  refine h.remove mem (fun x => ?_) ?_ (fun q other => by rw [others q other]; exact ⟨rfl, rfl⟩) ?_ (fun x => ?_)
    (fun x hx other => ?_) (.inr ⟨running, listed⟩) fun closed => ?_
  · rw [State.unlisted, State.cancelCell, State.endCell_custodyOf, State.updPort_custodyOf]
  · rw [State.unlisted, State.cancelCell, State.endCell_queue, State.updPort_intakeQueue]
  · rw [jobs]
    exact List.filter_sublist
  · rw [State.inList, State.inList, jobs]
    simp only [List.mem_map, List.mem_filter, decide_eq_true_eq]
    constructor
    · rintro ⟨j, ⟨hj, other⟩, rfl⟩
      exact ⟨⟨j, hj, rfl⟩, other⟩
    · rintro ⟨⟨j, hj, rfl⟩, other⟩
      exact ⟨j, ⟨hj, other⟩, rfl⟩
  · cases hj : (s.port p).jobs with
    | nil =>
      rw [State.isHead, hj] at hx
      cases hx
    | cons j rest =>
      rw [State.isHead, hj] at hx
      obtain rfl : j.cell = x := Option.some.inj hx
      rw [State.isHead, jobs, hj, List.filter_cons_of_pos (by simpa using other)]
      rfl
  · rcases h.settled p closed with empty | runs
    · rw [State.inList, empty] at mem
      cases mem
    · exact .inr (by rw [running]; exact runs)

/-- The running cell leaves the head of its list for the host (R147). -/
theorem unrun {X : CellNo → Prop} (h : s.places X O) {p : PortNo} (o : O p) {d : CellNo} {j : Job} {rest : List Job}
    (held : s.custodyOf d = .running) (mem : s.inList p d) (hj : (s.port p).jobs = j :: rest) (start : Ticks) :
    (s.unrun p d start rest).places X O := by
  have head : j.cell = d := by
    rcases h.listCustody p d mem with ⟨-, head⟩ | listed
    · rw [State.isHead, hj] at head
      exact Option.some.inj head
    · rw [held] at listed
      cases listed
  subst head
  refine h.removeHead hj (fun x => ?_) ?_ (fun q other => ?_) ?_ ?_ o
  · rw [State.unrun, State.updPort_custodyOf, State.cancelCell, State.endCell_custodyOf]
  · rw [State.unrun, State.updPort_intakeQueue, State.cancelCell, State.endCell_queue]
  · rw [State.unrun, State.port_updPort_ne _ other, State.cancelCell, State.endCell_port]
  · rw [State.unrun, State.port_updPort_jobs]
  · rw [State.unrun, State.port_updPort_status]

/-- A cell handed in joins the tail of the queue (R137). -/
theorem accept (h : s.places noCell O) (outside : s.custodyOf c = .outside) (room : s.intakeQueue.length < 16) :
    (s.acceptHandIn c).places noCell O := by
  have fresh : c ∉ s.intakeQueue := fun waits => by
    have held := (h.queueCustody c).mp (.inl waits)
    rw [outside] at held
    cases held
  have custody : ∀ d, (s.acceptHandIn c).custodyOf d = if c = d then .intake else s.custodyOf d := fun d => by
    rw [State.acceptHandIn, State.setCustody_custodyOf]
    rfl
  have other : ∀ {d}, s.custodyOf d ≠ .outside → (s.acceptHandIn c).custodyOf d = s.custodyOf d := fun {d} hd => by
    rw [custody, if_neg fun e : c = d => hd (e ▸ outside)]
  have listed : ∀ {p d}, s.inList p d → s.custodyOf d ≠ .outside := fun {p d} hd => by
    rcases h.listCustody p d hd with ⟨running, -⟩ | listed
    · rw [running]
      nofun
    · rw [listed]
      nofun
  refine ⟨?_, ?_, fun d => ?_, fun _ x => x.elim, h.listShort, h.listOnce, h.oneList, fun p d hd => ?_, fun d hd => ?_,
    fun p d hd => ?_, h.settled⟩
  · show (s.intakeQueue ++ [c]).length ≤ 16
    rw [List.length_append, List.length_singleton]
    omega
  · exact h.queueOnce.append (List.nodup_singleton c) (List.disjoint_singleton.mpr fresh)
  · show d ∈ s.intakeQueue ++ [c] ∨ False ↔ _
    rw [custody, or_false, List.mem_append, List.mem_singleton]
    split_ifs with same
    · exact ⟨fun _ => rfl, fun _ => .inr same.symm⟩
    · rw [← h.queueCustody d]
      exact or_congr Iff.rfl ⟨fun e => absurd e.symm same, False.elim⟩
  · rw [other (listed hd)]
    exact h.listCustody p d hd
  · refine h.custodyList d ?_
    rw [custody] at hd
    split_ifs at hd
    · exact hd.elim nofun nofun
    · exact hd
  · have runs := h.running p d hd
    rw [other (by rw [runs.1]; nofun)]
    exact runs

end State.places

/-- What intake's entry needs of the places (R139 to R147). -/
theorem places_intake (c : CellNo) : KeptIntake False False (fun p => State.places noCell fun q => q = p)
    (State.places noCell noPort) (fun p => State.places (fun d => d = c) fun q => q = p)
    (State.places (fun d => d = c) noPort) c where
  out := places_lifts noCell
  held := places_lifts _
  global := fun _ h => h.of_ports
  globalHeld := fun _ h => h.of_ports
  ends := fun st out why h => (h.endHanded rfl st out why _).hand State.places.noneInHand
  dropped := fun {s} h => (h.handBack
    (t := ({ s with intakeErrors := satInc s.intakeErrors } : State).setCustody c .outside) rfl
    (fun _ => State.setCustody_custodyOf ..) rfl fun _ => rfl).hand State.places.noneInHand
  joins := fun _ w _ _ room h => h.join w room
  unqueue := fun _ held ne h => h.unqueue held ne
  unlist := fun _ _ listed mem h => h.unlist listed mem
  unrun := fun _ _ _ _ held mem hj h => h.unrun rfl held mem hj _

theorem places_entry {s : State} (h : s.places noCell noPort) :
    ({ s with intakeDue := false } : State).intakeTake.places noCell noPort := by
  by_cases empty : s.intakeQueue = []
  · rw [State.intakeTake_nil (by exact empty)]
    exact h.of_ports
  · obtain ⟨c, rest, hq⟩ := List.exists_cons_of_ne_nil empty
    rw [State.intakeTake_cons (by exact hq)]
    have once := h.queueOnce
    rw [hq, List.nodup_cons] at once
    have taken := (h.pop (d := c) (rest := rest) (by rw [hq]; exact List.mem_cons_self)
      (by rw [hq]; exact List.sublist_cons_self c rest) fun x => by
        rw [hq, List.mem_cons]
        constructor
        · exact fun hx => ⟨.inr hx, fun e => once.1 (e ▸ hx)⟩
        · rintro ⟨same | hx, other⟩
          · exact absurd same other
          · exact hx).hand (X' := fun d => d = c) fun d => by rw [false_or]
    exact (places_intake c).entry (s := { s with intakeQueue := rest, intakeDue := false }) taken.of_ports

end Sys2Proof.Machine

namespace Sys2Proof.Machine

/-! ### Places through the arbiter, the ticks and STOP -/

section
variable {X : CellNo → Prop} {O : PortNo → Prop} {s : State}

theorem places_grantRule (h : s.places X O) : s.applyGrantRule.places X O := by
  rw [State.applyGrantRule_frame]
  exact h.of_ports

theorem places_turnBack (h : s.places X O) (e : EngineNo) : (s.turnBack e).places X O := by
  rw [State.turnBack, State.endGrant]
  dsimp only
  split <;> exact h.of_ports

theorem places_updPort (h : s.places X O) (p : PortNo) {f : Port → Port} (jobs : (f (s.port p)).jobs = (s.port p).jobs)
    (running : (f (s.port p)).status.running = (s.port p).status.running) : (s.updPort p f).places X O := by
  refine h.of_same rfl rfl fun q => ?_
  by_cases same : q = p
  · subst same
    rw [State.port_updPort_jobs, State.port_updPort_status]
    exact ⟨jobs, running⟩
  · rw [State.port_updPort_ne _ same]
    exact ⟨rfl, rfl⟩

theorem places_withPorts (h : s.places X O) (v : Vector Port 48)
    (ports : ∀ p, (({ s with ports := v } : State).port p).jobs = (s.port p).jobs ∧
      (({ s with ports := v } : State).port p).status.running = (s.port p).status.running) :
    ({ s with ports := v } : State).places X O :=
  h.of_same rfl rfl ports

theorem places_closeEdits (h : s.places X O) : s.closeEdits.places X O :=
  places_withPorts h _ fun p => by
    rw [State.port_ofFn, Port.closeEdit_eq]
    exact ⟨rfl, rfl⟩

theorem places_takeRequest (h : s.places X O) (p : PortNo) : (s.takeRequest p).places X O := by
  unfold State.takeRequest
  split
  · rename_i k rest _
    exact places_grantRule (State.places.of_ports (s := s.setPort p { s.port p with outbox := rest }) (h.setPort p rfl rfl))
  · exact h

theorem places_takeWithdrawal (h : s.places X O) (p : PortNo) : (s.takeWithdrawal p).places X O := by
  unfold State.takeWithdrawal
  split
  · rename_i rest _
    have h1 : (s.setPort p { s.port p with outbox := rest }).places X O := h.setPort p rfl rfl
    dsimp only
    split_ifs
    · exact places_grantRule h1.of_ports
    · split
      · exact places_grantRule (places_turnBack h1 _)
      · exact h1
  · exact h

theorem Port.tick_places (x : Port) : x.tick.jobs = x.jobs ∧ x.tick.status.running = x.status.running := by
  unfold Port.tick Port.addUnlockTick
  dsimp only
  split_ifs <;> exact ⟨rfl, rfl⟩

theorem places_tickBlocks (h : s.places X O) : s.tickBlocks.places X O := by
  have h1 : ({ s with ports := Vector.ofFn fun p => (s.port p).tick } : State).places X O :=
    places_withPorts h _ fun p => by
      rw [State.port_ofFn]
      exact Port.tick_places _
  rw [State.tickBlocks, State.watchTick]
  split_ifs <;> exact h1.of_ports

theorem places_loading (h : s.places X O) (e : EngineNo) (g : Grant) : (s.loading e g).places X O :=
  places_updPort (s := (s.setGrant e (some { g with accepted := true })).setEngine e
    { s.engine e with meas := some (s.loaded g.request.port g.request.kind) }) h.of_ports _ rfl rfl

end

theorem places_machine : KeptMachine False False (fun p => State.places noCell fun q => q = p)
    (State.places noCell noPort) where
  write := fun _ _ _ h => h.of_ports
  measure := fun _ _ _ _ _ _ _ h => h.of_ports
  fill := fun _ _ _ _ _ h => h.of_ports
  global := fun _ h => h.of_ports
  freeValue := fun _ h => h.of_ports
  lifts := places_lifts noCell
  finishing := places_finishing noCell
  misc := fun same h => by
    rw [same]
    exact h.of_ports
  close := places_closeEdits
  load := fun e g _ _ _ h => places_loading h e g
  fault := fun e p => ⟨_, _, places_finishing noCell p e, fun g _ _ _ h => (places_loading h e g).of_ports⟩
  returning := fun e _ _ _ h => places_grantRule (places_turnBack h e).of_ports
  takeRequest := fun p _ h => places_takeRequest h p
  takeWithdrawal := fun p _ h => places_takeWithdrawal h p
  raiseWatch := fun _ _ h => by
    rw [State.raiseWatch]
    split_ifs
    · exact h
    · exact h.of_ports
  falls := fun _ h => h.of_ports
  rises := fun _ _ h => h.of_ports
  risesRunning := fun {s} q _ h => places_grantRule (s := s.setReady q true) h.of_ports
  blocks := fun _ h => (places_tickBlocks h).of_ports
  entry := fun _ h => places_entry h
  handIn := fun _ _ outside room h => h.accept outside room
  fillDone := fun {s} _ h => by
    have h1 : ({ s with ports := Vector.ofFn fun p => (s.port p).openEdit } : State).places noCell noPort :=
      places_withPorts h _ fun p => by
        rw [State.port_ofFn, Port.openEdit_eq]
        exact ⟨rfl, rfl⟩
    exact h1.of_ports
  run := fun _ h => h.of_ports
  postWatch := fun p h => places_updPort h p rfl rfl
  stopDone := fun _ h => h.of_ports

/-! #### STOP (R150, R161) -/

/-- With every list empty and every cell with the host, each cell is in one place. -/
theorem State.jobsOk_of_empty {s : State} (queue : s.intakeQueue = []) (outside : ∀ c, s.custodyOf c = .outside)
    (ports : ∀ p, (s.port p).jobs = [] ∧ (s.port p).status.running = none) : s.jobsOk := by
  have noList : ∀ {p c}, ¬ s.inList p c := fun {p c} h => by
    rw [State.inList, (ports p).1] at h
    exact List.not_mem_nil h
  refine ⟨by rw [queue]; exact Nat.zero_le _, by rw [queue]; exact List.nodup_nil, fun c => ?_, fun p => ?_, fun p => ?_,
    fun _ _ _ h => absurd h noList, fun _ _ h => absurd h noList, fun c h => ?_, fun p => ?_⟩
  · rw [outside, queue]
    exact ⟨fun h => absurd h List.not_mem_nil, nofun⟩
  · rw [(ports p).1]
    exact Nat.zero_le _
  · rw [(ports p).1]
    exact List.nodup_nil
  · rw [outside] at h
    exact h.elim nofun nofun
  · rw [(ports p).1, (ports p).2]
    rfl

theorem places_stopArbiter {s : State} {X : CellNo → Prop} {O : PortNo → Prop} (h : s.places X O) :
    s.stopArbiter.places X O := by
  refine State.forEach_keeps _ State.stopGrant (fun t e ht => ?_) _ (h.of_ports (t := { s with requests := [] }))
  unfold State.stopGrant
  split
  · split_ifs
    · exact ht
    · exact places_turnBack ht e
  · exact ht

/-- Before intake's share of a stop each cell is still in its place. -/
theorem places_beforeIntake {s : State} (h : s.places noCell noPort) :
    s.stopping.stopArbiter.portsStopped.places noCell fun _ => True :=
  State.forEach_keeps _ State.stopPort (fun _ _ ht => (places_kept trivial).stopPort ht) _
    (places_stopArbiter ((h.of_ports (t := s.stopping)).open_ fun _ _ => trivial))

theorem State.places.held_or_outside {O : PortNo → Prop} {u : State} (h : u.places noCell O) (c : CellNo) :
    u.holdsCell c ∨ u.custodyOf c = .outside := by
  cases held : u.custodyOf c with
  | outside => exact .inr rfl
  | intake => exact .inl (.inl (((h.queueCustody c).mpr held).resolve_right id))
  | listed => exact .inl (.inr (h.custodyList c (.inr held)))
  | running => exact .inl (.inr (h.custodyList c (.inl held)))

theorem jobsOk_stop {s : State} (h : s.places noCell noPort) : s.stop.places noCell noPort := by
  rw [← State.jobsOk_iff]
  have before := places_beforeIntake h
  obtain ⟨-, queue, -⟩ := s.stopping.stopArbiter.portsStopped.stopIntake_halting
  refine State.jobsOk_of_empty queue (fun c => State.stopIntake_outside (before.held_or_outside c)) fun p => ?_
  rw [State.stop_eq, (State.stopIntake_port _ p).eq]
  exact ⟨rfl, rfl⟩

/-- Settles O57: every change that commands are built of keeps each cell in one place. -/
theorem stepKeepsCellsInOnePlace : Obligations.StepKeepsCellsInOnePlace := by
  intro s t e h
  rw [State.jobsOk_iff] at h ⊢
  refine places_machine.step (fun _ h => h.of_ports) (fun levels _ => ?_) (fun _ _ h => jobsOk_stop h) h e
  exact ((State.jobsOk_iff _).mp jobsOk_reset).of_ports

end Sys2Proof.Machine

namespace Sys2Proof.Machine

/-! ## Host writes by region (R151, R155) -/

theorem mem_news_words_iff (a : Nat) :
    newsPortAt a = none ↔ ¬ (0x1400 ≤ a ∧ a < 0x2C00 ∧ a % 128 = 1) := by
  unfold newsPortAt portOf
  split_ifs with news isPort
  · simp only [false_iff, not_not]
    exact ⟨news.1, by omega, news.2⟩
  · simp only [true_iff]
    omega
  · simp only [true_iff]
    omega

/-- The news word of port p is at word 1 of its page (11.4). -/
theorem newsPortAt_page (p : PortNo) : newsPortAt (0x1401 + 128 * p.val) = some p := by
  have hp := p.isLt
  have isPage : 0x1400 ≤ 0x1401 + 128 * p.val ∧ (0x1401 + 128 * p.val) % 128 = 1 := by omega
  have number : (0x1401 + 128 * p.val - 0x1400) / 128 = p.val := by omega
  rw [newsPortAt, if_pos isPage, number, portOf, dif_pos hp]

/-- The words that take a host write without a row of their own (R151). -/
theorem hostWritable_iff (a : Nat) : hostWritable a = true ↔
    a = 0x0030 ∨ a = 0x0031 ∨ (0x0040 ≤ a ∧ a ≤ 0x004A) ∨ (0x0080 ≤ a ∧ a ≤ 0x00A7) ∨ (0x0400 ≤ a ∧ a ≤ 0x13FF) ∨
      (0x7C00 ≤ a ∧ a ≤ 0x7FFF) := by
  simp only [hostWritable, inRange, Bool.or_eq_true, Bool.and_eq_true, decide_eq_true_eq, or_assoc]
  rfl

/-- What a word without a row of its own is not. -/
theorem hasOwnRow_eq_false {a : Addr} {v : Word} (h : hasOwnRow a v = false) :
    a.toNat ≠ 1 ∧ a.toNat ≠ 3 ∧ a.toNat ≠ 4 ∧ a.toNat ≠ 5 ∧ a.toNat ≠ 0x20 ∧ newsPortAt a.toNat = none ∧
      (a.toNat = 2 → runCommand v ≠ 1 ∧ runCommand v ≠ 2) := by
  simp only [hasOwnRow, Bool.or_eq_false_iff, Bool.and_eq_false_iff, beq_eq_false_iff_ne, ne_eq,
    decide_eq_false_iff_not] at h
  obtain ⟨⟨⟨⟨⟨⟨h1, h2⟩, h3⟩, h4⟩, h5⟩, h20⟩, page⟩ := h
  have other : ∀ n : Nat, n < 32768 → ¬ a = BitVec.ofNat 15 n → a.toNat ≠ n := fun n hn ne e =>
    ne (BitVec.eq_of_toNat_eq (by rw [e, BitVec.toNat_ofNat]; omega))
  refine ⟨other 1 (by omega) h1, other 3 (by omega) h3, other 4 (by omega) h4, other 5 (by omega) h5,
    other 0x20 (by omega) h20, (mem_news_words_iff _).mpr (by omega), fun e => ?_⟩
  have field : ∀ n : Nat, n < 4 → runCommand v = n → v &&& 3 = BitVec.ofNat 16 n := by
    intro n hn e
    refine BitVec.eq_of_toNat_eq ?_
    rw [BitVec.toNat_and, BitVec.toNat_ofNat, show (3 : Word).toNat = 2 ^ 2 - 1 from rfl, Nat.and_two_pow_sub_one_eq_mod]
    rw [runCommand, BitVec.extractLsb'_toNat, Nat.shiftRight_zero] at e
    omega
  rcases h2 with h2 | ⟨run, stop⟩
  · exact absurd (BitVec.eq_of_toNat_eq e) h2
  · exact ⟨fun e => run (field 1 (by omega) e), fun e => stop (field 2 (by omega) e)⟩

/-- A host write to a word without a row of its own (R151). -/
theorem State.hostWriteTo_plain {s : State} {a : Addr} {v : Word} (h : hasOwnRow a v = false) :
    s.hostWriteTo a.toNat v = s.writePlain a.toNat v := by
  obtain ⟨h1, h3, h4, h5, h20, page, run⟩ := hasOwnRow_eq_false h
  unfold State.hostWriteTo
  rw [if_neg h1]
  split_ifs with h2 start stop
  · exact absurd start (run h2).1
  · exact absurd stop (run h2).2
  · have unwritable : hostWritable 2 = false := by decide
    rw [h2, State.writePlain, State.ifFilled]
    simp [unwritable]
  · rw [page]

/-- While the fill runs every host write is ignored (R155). -/
theorem State.hostWriteTo_filling {s : State} (h : s.runState = .filling) (a : Nat) (v : Word) :
    s.hostWriteTo a v = s := by
  have run : s.run = s := by rw [State.run, h, if_neg (by decide)]
  have stop : s.ifRunning State.stop = s := by rw [State.ifRunning, h, if_neg (by decide)]
  have handIn : s.handIn v = s := by rw [State.handIn, h]
  have filled : ∀ f, s.ifFilled f = s := State.ifFilled_filling h
  unfold State.hostWriteTo
  simp only [State.writeTimebase, State.clearIntakeStatus, State.writeNewsEnable, State.clearNews, State.writePlain, filled,
    run, stop, handIn, ite_self]
  cases newsPortAt a <;> simp only [ite_self]

theorem exec_hostWrite (s : State) (a : Addr) (v : Word) :
    exec (.hostWrite a v) s = s.take fun s => s.hostWriteTo a.toNat v := rfl

/-- Settles O14, by the word written. -/
theorem hostWriteByRegion : Obligations.HostWriteByRegion := by
  unfold Obligations.HostWriteByRegion
  refine ⟨fun s a v writable closed mem own => ?_, fun s v => ⟨fun filling closed a => ?_, rfl, rfl, rfl, rfl, rfl, rfl,
    rfl, fun p => ?_⟩⟩
  · have small := a.isLt
    have e : s.hostWriteTo a.toNat v = if hostWritable a.toNat = true then s.writeMem a.toNat v else s := by
      rw [State.hostWriteTo_plain own, State.writePlain, State.ifFilled_filled writable.2]
    have watch : a = 0x0030 ↔ a.toNat = 0x0030 := ⟨fun h => by rw [h]; rfl, fun h => BitVec.eq_of_toNat_eq h⟩
    have velocity : a = 0x0031 ↔ a.toNat = 0x0031 := ⟨fun h => by rw [h]; rfl, fun h => BitVec.eq_of_toNat_eq h⟩
    rw [exec_hostWrite, ne_eq, ne_eq, watch, velocity]
    constructor
    · intro taken
      rw [if_pos ((hostWritable_iff _).mpr (by omega))] at e
      refine ⟨s.writeMem a.toNat v, State.take_plain_eq writable.1 closed e rfl, rfl, fun b => ?_⟩
      rw [State.readMem_writeMem _ _ _ _ mem]
      simp only [eq_comm]
    · intro _ _ _ _ _ _
      rw [if_neg (by rw [hostWritable_iff]; omega)] at e
      exact State.take_unchanged closed e
  · rw [exec_hostWrite]
    exact State.take_unchanged closed (s.hostWriteTo_filling filling _ _)
  · have hp := p.isLt
    have address : (BitVec.ofNat 15 (0x1401 + 128 * p.val)).toNat = 0x1401 + 128 * p.val := by
      rw [BitVec.toNat_ofNat]
      omega
    have e : ∀ s : State, s.hostWriteTo (0x1401 + 128 * p.val) v = s.clearNews (some p) v := fun s => by
      unfold State.hostWriteTo
      rw [if_neg (by omega), if_neg (by omega), if_neg (by omega), if_neg (by omega), if_neg (by omega),
        if_neg (by omega), newsPortAt_page]
    rw [exec_hostWrite, address]
    exact congrArg s.take (funext e)

end Sys2Proof.Machine

namespace Sys2Proof.Machine

/-! ## The interrupt line (R164, R165) -/

theorem bits_ne_zero_iff {w : Nat} (x : BitVec w) : x ≠ 0 ↔ ∃ i : Fin w, x.getLsbD i = true := by
  constructor
  · intro h
    by_contra none
    refine h (BitVec.eq_of_getLsbD_eq fun i hi => ?_)
    have clear : x.getLsbD i = false := Bool.eq_false_iff.mpr fun bit => none ⟨⟨i, hi⟩, bit⟩
    simpa using clear
  · rintro ⟨i, bit⟩ rfl
    simp at bit

/-- Some flag is set whose enable is set. -/
theorem flagsEnabled_iff {w n : Nat} (flags : BitVec w) (enables : BitVec n) (low : Nat) :
    flags &&& enables.extractLsb' low w ≠ 0 ↔
      ∃ i : Fin w, flags.getLsbD i = true ∧ enables.getLsbD (low + i) = true := by
  rw [bits_ne_zero_iff]
  simp

/-- Settles O17. -/
theorem interruptLineFollowsNews : Obligations.InterruptLineFollowsNews := by
  unfold Obligations.InterruptLineFollowsNews
  intro s
  constructor
  · simp only [State.interruptLine, Bool.and_eq_true, Bool.or_eq_true, Bool.not_eq_true', List.any_eq_true,
      List.mem_finRange, true_and, decide_eq_true_eq, flagsEnabled_iff, Nat.zero_add]
  · intro p
    rw [State.newsMapBit, decide_eq_true_eq, bits_ne_zero_iff]

/-! ## The downshift test (R73, R74) -/

/-- Settles O28: the failure count is a saturating one, and the downshift test is the conjunction of R74. -/
theorem chargeAppliesDownshiftTest : Obligations.ChargeAppliesDownshiftTest := by
  unfold Obligations.ChargeAppliesDownshiftTest
  intro x r n left y
  have count : satInc x.status.failCounts[r.code] = n := by
    simp only [satInc, show (BitVec.allOnes 8) = 255 from rfl, n]
    split_ifs with full
    · exact full
    · rfl
  have due : y.downshiftDue r = true ↔ 2 ≤ n.toNat ∧ x.prof.downshift = true ∧ left ≠ 0 ∧ x.capRemoved = false := by
    have own : y.status.failCounts[r.code] = n := by simp [y]
    simp only [Port.downshiftDue, own, Bool.and_eq_true, decide_eq_true_eq, Bool.not_eq_true', and_assoc]
    rfl
  have charged : x.charge r = if y.downshiftDue r = true then
      ({ y with status := { y.status with
        offerSet := left, downshifts := x.status.downshifts + 1 } } : Port).bump .downshifts else y := by
    unfold Port.charge
    rw [count]
    rfl
  rw [charged]
  constructor
  · intro h
    rw [if_pos (due.mpr h), Port.bump_eq_counted]
    rfl
  · intro h
    rw [if_neg (h ∘ due.mp)]

/-! ## The break of an exchange (R55) -/

/-- Settles O41: the port as R55 leaves it differs from what it was in its state, so the page has one edit. -/
theorem exchangeBreakReturnsToOffer : Obligations.ExchangeBreakReturnsToOffer := by
  unfold Obligations.ExchangeBreakReturnsToOffer
  intro s p working closed x
  have taken : exec (.exchangeBreak p) s = s.take fun s => s.ifRunning fun s => s.exchangeBreak p := rfl
  rw [taken, State.take_working working, State.exchangeBreak]
  constructor
  · intro h
    rw [if_neg (by rwa [Bool.and_eq_true, decide_eq_true_eq, decide_eq_true_eq, not_and_or]), State.closeEdits_eq closed]
  · intro state due
    rw [if_pos (by simp [x] at state due; simp [state, due])]
    have moved := (Moves.first s p (f := fun x =>
      let y := x.toPageZero.enter .offer
      { y with timers := { Timers.stopped with
          offer := if y.prof.offerTimeout = 0 then none else some y.prof.offerTimeout } }.bump .exchangeBreaks)
      fun _ _ => rfl)
    rw [moved.close_changed closed (Port.samePage_of_status_ne fun e => by
      have := congrArg Status.state e
      simp [x] at state
      rw [state] at this
      cases this)]
    dsimp only
    rw [Port.bump_eq_counted]
    rfl

end Sys2Proof.Machine

namespace Sys2Proof.Machine

/-! ## Commands that change one port once -/

/-- A command that changes one port, and not its page. -/
theorem State.take_updPort_same {s : State} (h : s.working) (hc : s.editsClosed) {F : State → State} {p : PortNo}
    {f : Port → Port} {y : Port} (e : F s = s.updPort p f) (hy : f (s.port p) = y)
    (count : y.editCount = (s.port p).editCount) (same : Port.samePage (s.port p) y = true) :
    (s.take fun s => s.ifRunning F) = .next (s.setPort p y) := by
  subst hy
  rw [State.take_working h, e, State.closeEdits_updPort_same hc count same]

/-- A command that changes the page of one port, in one edit. -/
theorem State.take_updPort_changed {s : State} (h : s.working) (hc : s.editsClosed) {F : State → State} {p : PortNo}
    {f : Port → Port} {y : Port} (e : F s = s.updPort p f) (hy : f (s.port p) = y)
    (count : y.editCount = (s.port p).editCount) (changed : Port.samePage (s.port p) y = false) :
    (s.take fun s => s.ifRunning F) = .next (s.setPort p y.edited) := by
  subst hy
  rw [State.take_working h, e, State.closeEdits_updPort_changed hc count changed]

/-- A command of a part at work that changes no port. -/
theorem State.take_working_plain {s t : State} (h : s.working) (hc : s.editsClosed) {F : State → State} (e : F s = t)
    (ports : t.ports = s.ports) : (s.take fun s => s.ifRunning F) = .next t := by
  rw [State.take_working h, e, State.closeEdits_of_ports hc ports]

/-- A command that finds nothing to do. -/
theorem State.take_idle {s : State} (h : s.working) (hc : s.editsClosed) {F : State → State} (e : F s = s) :
    (s.take fun s => s.ifRunning F) = .next s := by
  rw [State.take_working h, e, State.closeEdits_eq hc]

theorem oneMore_eq_self {n : Word} : oneMore n = n ↔ n = 0xFFFF := by
  constructor
  · intro h
    by_contra room
    rw [oneMore, if_neg room] at h
    have count := congrArg BitVec.toNat h
    rw [BitVec.toNat_add, show (1 : Word).toNat = 1 from rfl] at count
    omega
  · intro h
    rw [oneMore, if_pos h, h]

/-- A saturated counter stays (R26). -/
theorem Port.counted_saturated {x : Port} {i : Fin 13} (h : x.status.counters[i] = 0xFFFF) : x.counted i = x := by
  have same : x.status.counters.set i (oneMore x.status.counters[i]) = x.status.counters := by
    rw [oneMore_eq_self.mpr h]
    simp
  unfold Port.counted
  rw [same]

/-- A counter that is not saturated shows its count on the page (R26). -/
theorem Port.counters_counted_ne {x : Port} {i : Fin 13} (h : x.status.counters[i] ≠ 0xFFFF) :
    (x.counted i).status.counters ≠ x.status.counters := by
  intro e
  have at_i := congrArg (fun v : Vector Word 13 => v[i]) e
  simp only [Port.counted, Fin.getElem_fin, Vector.getElem_set_self] at at_i
  exact h (oneMore_eq_self.mp at_i)

/-! ## A burst falls due (R29 to R32) -/

theorem PortState.sends_iff (st : PortState) : st.sends = true ↔ st = .offer ∨ st = .exchange := by
  cases st <;> decide

/-- Settles O31: the sender is no part of the page, the counter is. -/
theorem burstDueIsSentOrSkipped : Obligations.BurstDueIsSentOrSkipped := by
  unfold Obligations.BurstDueIsSentOrSkipped
  intro s p working closed x skipped
  have taken : exec (.burstDue p) s = s.take fun s => s.ifRunning fun s => s.sendBurst p := rfl
  rw [taken]
  constructor
  · intro idle
    refine State.take_idle working closed ?_
    rw [State.sendBurst, if_neg]
    rw [Bool.and_eq_true, PortState.sends_iff]
    rintro ⟨sends, due⟩
    rcases idle with ⟨noOffer, noExchange⟩ | notDue
    · exact sends.elim noOffer noExchange
    · rw [show (s.port p).sender.due = false from notDue] at due
      cases due
  · intro sends due
    have sent : s.sendBurst p = s.updPort p fun x =>
        let y := { x with sender := { x.sender with due := false } }
        if y.sender.onLine.isSome then y
        else if s.claimed (quadOf p) then y.bump .suppressedBursts
        else { y with sender := { y.sender with onLine := some y.wordDue } } := by
      rw [State.sendBurst, if_pos]
      rw [Bool.and_eq_true, PortState.sends_iff]
      exact ⟨sends, due⟩
    refine ⟨fun busy => ?_, fun free claimed full => ?_, fun free claimed room => ?_, fun free unclaimed => ?_⟩
    · refine State.take_updPort_same working closed sent ?_ rfl (Port.samePage_of_eq rfl rfl rfl rfl rfl)
      exact if_pos (Option.isSome_iff_ne_none.mpr busy)
    · refine State.take_updPort_same working closed sent ?_ rfl (Port.samePage_of_eq rfl rfl rfl rfl rfl)
      dsimp only
      rw [if_neg (by simp [x] at free; simp [free]), if_pos claimed, Port.bump_eq_counted]
      exact Port.counted_saturated (x := { x with sender := skipped }) full
    · refine (State.take_updPort_changed (y := { x.counted 2 with sender := skipped }) working closed sent ?_ rfl
        (Port.samePage_of_status_ne fun e => ?_)).trans rfl
      · dsimp only
        rw [if_neg (by simp [x] at free; simp [free]), if_pos claimed, Port.bump_eq_counted]
        rfl
      · exact Port.counters_counted_ne (x := x) room (congrArg Status.counters e).symm
    · refine State.take_updPort_same working closed sent ?_ rfl (Port.samePage_of_eq rfl rfl rfl rfl rfl)
      dsimp only
      rw [if_neg (by simp [x] at free; simp [free]), unclaimed, if_neg Bool.false_ne_true]
      rfl

end Sys2Proof.Machine

namespace Sys2Proof.Machine

/-! ## The grant rule, grant by grant (R110, R111) -/

/-- The first of all indices that satisfies p. -/
theorem find_finRange_iff {n : Nat} {p : Fin n → Bool} {e : Fin n} :
    (List.finRange n).find? p = some e ↔ p e = true ∧ ∀ f, f < e → p f = false := by
  rw [List.find?_eq_some_iff_getElem]
  refine and_congr_right fun _ => ⟨?_, fun lower => ?_⟩
  · rintro ⟨i, hi, rfl, lower⟩ f hf
    have before := lower f.val (by simpa [Fin.lt_def] using hf)
    simpa using before
  · refine ⟨e.val, by simp, by simp, fun j hj => ?_⟩
    simpa using lower ⟨j, hj.trans e.isLt⟩ hj

theorem State.freeEngine_iff {s : State} {e : EngineNo} :
    s.freeEngine = some e ↔ s.isFree e ∧ ∀ f, f < e → ¬ s.isFree f := by
  rw [State.freeEngine, find_finRange_iff]
  simp only [Bool.and_eq_true, Option.isNone_iff_eq_none, State.isFree, ← Bool.not_eq_true]

theorem State.not_grantable_iff {s : State} {r : Request} : ¬ s.grantable r ↔ s.eligible r = false := by
  rw [← State.eligible_iff, Bool.not_eq_true]

theorem ReqClass.eq_second {c : ReqClass} (h : c ≠ .first) : c = .second := by
  cases c
  · exact absurd rfl h
  · rfl

/-- The request picked: the oldest eligible one of the best class (R111). -/
theorem State.pickRequest_iff {s : State} {r : Request} : s.pickRequest = some r ↔
    ∃ before after, s.requests = before ++ r :: after ∧ s.eligible r = true ∧
      (r.cls = .first → ∀ r' ∈ before, r'.cls = .first → s.eligible r' = false) ∧
      (r.cls = .second → (∀ r' ∈ before, s.eligible r' = false) ∧
        ∀ r' ∈ s.requests, r'.cls = .first → s.eligible r' = false) := by
  cases hf : s.requests.find? fun r => decide (r.cls = .first) && s.eligible r with
  | some r' =>
    have picked : s.pickRequest = some r' := by simp [State.pickRequest, hf]
    rw [picked]
    obtain ⟨found, before', after', split, older⟩ := List.find?_eq_some_iff_append.mp hf
    simp only [Bool.and_eq_true, decide_eq_true_eq, Bool.not_eq_true', Bool.and_eq_false_imp] at found older
    constructor
    · rintro ⟨⟩
      exact ⟨before', after', split, found.2, fun _ => older, fun second => absurd (found.1.symm.trans second) nofun⟩
    · rintro ⟨before, after, split', eligible, ofFirst, ofSecond⟩
      have first : r.cls = .first := by
        by_contra other
        have none := (ofSecond (ReqClass.eq_second other)).2 r' (by rw [split]; simp) found.1
        rw [found.2] at none
        cases none
      have again := List.find?_eq_some_iff_append (p := fun r : Request => decide (r.cls = .first) && s.eligible r).mpr
        ⟨by simp [first, eligible], before, after, split', fun a ha => by
          rw [Bool.not_eq_true', Bool.and_eq_false_imp, decide_eq_true_eq]
          exact ofFirst first a ha⟩
      exact hf.symm.trans again
  | none =>
    have noFirst : ∀ r' ∈ s.requests, r'.cls = .first → s.eligible r' = false := by
      intro r' hr' first
      simpa [first] using List.find?_eq_none.mp hf r' hr'
    have picked : s.pickRequest = s.requests.find? fun r => s.eligible r := by simp [State.pickRequest, hf]
    rw [picked, List.find?_eq_some_iff_append]
    simp only [Bool.not_eq_true']
    constructor
    · rintro ⟨eligible, before, after, split, older⟩
      exact ⟨before, after, split, eligible, fun _ a ha _ => older a ha, fun _ => ⟨older, noFirst⟩⟩
    · rintro ⟨before, after, split, eligible, -, ofSecond⟩
      have second : r.cls = .second := ReqClass.eq_second fun first => by
        rw [noFirst r (by rw [split]; simp) first] at eligible
        cases eligible
      exact ⟨eligible, before, after, split, (ofSecond second).1⟩

/-- With n engines free at most, a further grant finds none. -/
theorem State.grantUpTo_stable (n : Nat) (s : State) (free : List EngineNo) (short : free.length ≤ n)
    (listed : ∀ e, s.isFree e → e ∈ free) : State.grantUpTo (n + 1) s = State.grantUpTo n s := by
  induction n generalizing s free with
  | zero =>
    have none : s.freeEngine = none := by
      rw [State.freeEngine_eq_none]
      intro e
      rw [List.eq_nil_of_length_eq_zero (Nat.le_zero.mp short)] at listed
      by_contra isFree
      rw [not_or, not_not, not_not] at isFree
      exact List.not_mem_nil (listed e isFree)
    simp only [State.grantUpTo, none]
  | succ n ih =>
    rw [State.grantUpTo, State.grantUpTo]
    cases he : s.freeEngine with
    | none => rfl
    | some e =>
      cases s.pickRequest with
      | none => rfl
      | some r =>
        have isListed := listed e (State.isFree_of_freeEngine he)
        refine ih (s.makeGrant e r) (free.erase e) (by rw [List.length_erase_of_mem isListed]; omega) fun f hf => ?_
        obtain ⟨ne, isFree⟩ := State.free_makeGrant hf
        exact (List.mem_erase_of_ne ne).mpr (listed f isFree)

/-- The grant rule makes a grant, and goes on (R111). -/
theorem State.applyGrantRule_next {s : State} {e : EngineNo} {r : Request} (free : s.freeEngine = some e)
    (pick : s.pickRequest = some r) : s.applyGrantRule = (s.makeGrant e r).applyGrantRule := by
  have once : s.applyGrantRule = State.grantUpTo 3 (s.makeGrant e r) := by
    rw [State.applyGrantRule, State.grantUpTo, free, pick]
  rw [once, State.applyGrantRule]
  refine (State.grantUpTo_stable 3 _ ((List.finRange 4).erase e) ?_ fun f hf => ?_).symm
  · rw [List.length_erase_of_mem (List.mem_finRange e)]
    simp
  · exact (List.mem_erase_of_ne (State.free_makeGrant hf).1).mpr (List.mem_finRange f)

/-- Where nothing may be granted the rule grants nothing (R111). -/
theorem State.applyGrantRule_done {s : State} (h : s.grantsDone) : s.applyGrantRule = s := by
  rcases h with noEngine | noRequest
  · refine State.applyGrantRule_noEngine fun e => ?_
    have := noEngine e
    rwa [State.isFree, not_and_or] at this
  · have none : s.pickRequest = none :=
      State.pickRequest_eq_none.mpr fun r hr => State.not_grantable_iff.mp (noRequest r hr)
    rw [State.applyGrantRule, State.grantUpTo, none]
    cases s.freeEngine <;> rfl

theorem State.applyGrantRule_ports (s : State) : s.applyGrantRule.ports = s.ports := by
  rw [s.applyGrantRule_frame]

/-- A page as it was, the port changed outside it, has no edit to close. -/
theorem State.editsClosed_setPort {s : State} (h : s.editsClosed) {p : PortNo} {x : Port}
    (count : x.editCount = (s.port p).editCount) : (s.setPort p x).editsClosed := fun q => by
  rw [State.port_setPort]
  split_ifs with same
  · rw [count]
    exact h p
  · exact h q

/-- A command of a part at work that changes a port outside its page, and the arbiter. -/
theorem State.take_setPort_rule {s t : State} (h : s.working) (hc : s.editsClosed) {F : State → State} {p : PortNo}
    {x : Port} (e : F s = t) (ports : t.ports = (s.setPort p x).ports) (count : x.editCount = (s.port p).editCount) :
    (s.take fun s => s.ifRunning F) = .next t := by
  rw [State.take_working h, e, State.closeEdits_of_ports (State.editsClosed_setPort hc count) ports]

/-! ### A posted request (R107, R108) -/

theorem State.takeRequest_eq {s : State} {p : PortNo} {k : ReqKind} {rest : List PortMsg}
    (h : (s.port p).outbox = .request k :: rest) : s.takeRequest p =
      ({ s.setPort p { s.port p with outbox := rest } with
        requests := s.requests ++ [⟨p, k, if k = .watch then .second else .first, s.tick, s.nextPlace⟩]
        nextPlace := s.nextPlace + 1 } : State).applyGrantRule := by
  rw [State.takeRequest, h]
  cases k <;> rfl

/-- A lone request that may be granted is granted the lowest free engine (R111). -/
theorem State.applyGrantRule_alone {s : State} {e : EngineNo} {r : Request} (alone : s.requests = [r])
    (grantable : s.grantable r) (free : s.isFree e) (lowest : ∀ f, f < e → ¬ s.isFree f) :
    s.applyGrantRule =
      (({ s with requests := [] } : State).setGrant e (some ⟨r, false⟩)).setClaim (quadOf r.port) true := by
  have pick : s.pickRequest = some r := State.pickRequest_iff.mpr ⟨[], [], alone, (s.eligible_iff r).mpr grantable,
    fun _ => nofun, fun second => ⟨nofun, fun r' hr' first => by
      rw [alone, List.mem_singleton] at hr'
      rw [hr', second] at first
      cases first⟩⟩
  have none : s.requests.filter (fun q => decide (q.port ≠ r.port)) = [] := by simp [alone]
  have granted : s.makeGrant e r =
      (({ s with requests := [] } : State).setGrant e (some ⟨r, false⟩)).setClaim (quadOf r.port) true := by
    rw [State.makeGrant, none]
  rw [State.applyGrantRule_next (State.freeEngine_iff.mpr ⟨free, lowest⟩) pick, granted]
  exact State.applyGrantRule_noRequests rfl

/-- Settles O46: a message of the port goes to the list, and the grant rule is what `applyGrantRule_next` and
`applyGrantRule_done` say. -/
theorem postedRequestIsListedOrGranted : Obligations.PostedRequestIsListedOrGranted := by
  unfold Obligations.PostedRequestIsListedOrGranted
  have taken : ∀ s p, exec (.postRequest p) s = s.take fun s => s.ifRunning fun s => s.takeRequest p := fun _ _ => rfl
  refine ⟨?_, fun s p working closed empty => ?_, fun s => ?_, fun s r pick => State.pickRequest_iff.mp pick⟩
  · intro s p k rest working closed sent r u
    have listed : ∀ t : State, ({ u with requests := s.requests ++ [r], nextPlace := s.nextPlace + 1 } : State).applyGrantRule
        = t → exec (.postRequest p) s = .next t := by
      rintro t rfl
      rw [taken]
      exact State.take_setPort_rule working closed (State.takeRequest_eq sent) (State.applyGrantRule_ports _) rfl
    refine ⟨listed _ rfl, fun busy => listed _ (State.applyGrantRule_noEngine busy), fun empty barred => listed _ ?_,
      fun e empty unclaimed ready noMeas noGrant lower => listed _ ?_⟩
    · rw [empty]
      refine State.applyGrantRule_done (.inr fun r' hr' grantable => ?_)
      rw [List.nil_append, List.mem_singleton] at hr'
      subst hr'
      have isOpen : s.claimed (quadOf p) = false ∧ s.isReady (quadOf p) = true := grantable
      rcases barred with claimed | unready
      · rw [claimed] at isOpen
        cases isOpen.1
      · rw [unready] at isOpen
        cases isOpen.2
    · rw [empty]
      refine (State.applyGrantRule_alone (s := { u with requests := [r], nextPlace := s.nextPlace + 1 }) (e := e) (r := r) rfl
        ⟨unclaimed, ready⟩ ⟨noMeas, noGrant⟩ fun f hf isFree => ?_).trans ?_
      · exact (lower f hf).elim (fun h => h isFree.1) fun h => h isFree.2
      · rw [← empty]
        rfl
  · rw [taken]
    refine State.take_idle working closed ?_
    rw [State.takeRequest, empty]
  · refine ⟨s.grantsDone_applyGrantRule, State.applyGrantRule_done, fun e before r after free lowest split grantable ofFirst
      ofSecond => ?_⟩
    have pick : s.pickRequest = some r := by
      refine State.pickRequest_iff.mpr ⟨before, after, split, (s.eligible_iff r).mpr grantable,
        fun first r' hr' hc => State.not_grantable_iff.mp (ofFirst first r' hr' hc), fun second => ⟨fun r' hr' =>
          State.not_grantable_iff.mp ((ofSecond second).1 r' hr'), fun r' hr' hc => ?_⟩⟩
      rw [split, List.mem_append, List.mem_cons] at hr'
      rcases hr' with older | rfl | later
      · exact State.not_grantable_iff.mp ((ofSecond second).1 r' older)
      · rw [second] at hc
        cases hc
      · exact State.not_grantable_iff.mp ((ofSecond second).2 r' later hc)
    exact State.applyGrantRule_next (State.freeEngine_iff.mpr ⟨free, lowest⟩) pick

end Sys2Proof.Machine

namespace Sys2Proof.Machine

/-! ## Withdrawals and raises (R109, R114) -/

/-- The engine's grant is for port p and not yet accepted. -/
def State.holdsUnaccepted (s : State) (p : PortNo) (e : EngineNo) : Prop :=
  ∃ r : Request, s.grant e = some ⟨r, false⟩ ∧ r.port = p

theorem State.unacceptedGrantOf_eq_none {s : State} {p : PortNo} :
    s.unacceptedGrantOf p = none ↔ ∀ e, ¬ s.holdsUnaccepted p e := by
  simp only [State.unacceptedGrantOf, List.find?_eq_none, List.mem_finRange, true_implies, State.holdsUnaccepted]
  refine forall_congr' fun e => not_congr ?_
  rcases s.grant e with _ | ⟨r, accepted⟩
  · simp
  · cases accepted <;> simp

/-- The lowest engine with such a grant. -/
theorem State.unacceptedGrantOf_eq_some {s : State} {p : PortNo} {e : EngineNo} :
    s.unacceptedGrantOf p = some e ↔ s.holdsUnaccepted p e ∧ ∀ f, f < e → ¬ s.holdsUnaccepted p f := by
  have holds : ∀ f, (match s.grant f with
      | some g => decide (g.request.port = p) && !g.accepted
      | none => false) = true ↔ s.holdsUnaccepted p f := by
    intro f
    rw [State.holdsUnaccepted]
    rcases s.grant f with _ | ⟨r, accepted⟩
    · simp
    · cases accepted <;> simp
  rw [State.unacceptedGrantOf, find_finRange_iff]
  refine and_congr (holds e) (forall₂_congr fun f _ => ?_)
  rw [← Bool.not_eq_true]
  exact not_congr (holds f)

/-- What the arbiter makes of a withdrawal that it takes (R114). -/
theorem State.takeWithdrawal_eq {s : State} {p : PortNo} {rest : List PortMsg}
    (h : (s.port p).outbox = .withdraw :: rest) : s.takeWithdrawal p =
      let sent := s.setPort p { s.port p with outbox := rest }
      if ∃ r ∈ s.requests, r.port = p then
        ({ sent with requests := s.requests.filter fun r => decide (r.port ≠ p) } : State).applyGrantRule
      else (s.unacceptedGrantOf p).elim sent fun e => (sent.turnBack e).applyGrantRule := by
  have listed : (s.requests.any fun r => decide (r.port = p)) = true ↔ ∃ r ∈ s.requests, r.port = p := by
    simp only [List.any_eq_true, decide_eq_true_eq]
  have same : (s.setPort p { s.port p with outbox := rest }).unacceptedGrantOf p = s.unacceptedGrantOf p := rfl
  rw [State.takeWithdrawal, h]
  dsimp only
  rw [State.setPort_requests, same]
  by_cases hl : ∃ r ∈ s.requests, r.port = p
  · rw [if_pos hl, if_pos (listed.mpr hl)]
  · rw [if_neg hl, if_neg (hl ∘ listed.mp)]
    cases s.unacceptedGrantOf p <;> rfl

/-- Settles O47, by where the request stands when its withdrawal is taken. -/
theorem withdrawalAndRaise : Obligations.WithdrawalAndRaise := by
  unfold Obligations.WithdrawalAndRaise
  intro s p working closed
  have takenBack : exec (.withdrawal p) s = s.take fun s => s.ifRunning fun s => s.takeWithdrawal p := rfl
  have taken : exec (.watchRequestRaise p) s = s.take fun s => s.ifRunning fun s => s.raiseWatch p := rfl
  refine ⟨?_, fun off => ?_, fun on => ?_⟩
  · intro rest out sent
    rw [takenBack]
    have e := State.takeWithdrawal_eq out
    dsimp only at e
    refine ⟨fun listed => ?_, fun e' r unlisted grant port lower => ?_, fun unlisted ungranted => ?_⟩
    · rw [if_pos listed] at e
      exact State.take_setPort_rule working closed e (State.applyGrantRule_ports _) rfl
    · have found : s.unacceptedGrantOf p = some e' := State.unacceptedGrantOf_eq_some.mpr
        ⟨⟨r, grant, port⟩, fun f hf ⟨r', grant', port'⟩ => lower f _ hf grant' port'⟩
      have granted : (s.setPort p { s.port p with outbox := rest }).grant e' = some ⟨r, false⟩ := grant
      rw [if_neg (fun ⟨r', hr', port'⟩ => unlisted r' hr' port'), found, Option.elim_some, State.turnBack_eq granted, port]
        at e
      exact State.take_setPort_rule working closed e (State.applyGrantRule_ports _) rfl
    · have none : s.unacceptedGrantOf p = none := State.unacceptedGrantOf_eq_none.mpr
        fun e' ⟨r, grant, port⟩ => ungranted e' _ grant port
      rw [if_neg (fun ⟨r', hr', port'⟩ => unlisted r' hr' port'), none, Option.elim_none] at e
      exact State.take_setPort_rule working closed e rfl rfl
  · rw [taken]
    refine State.take_idle working closed ?_
    rw [State.raiseWatch, if_pos off]
  · rw [taken]
    have e : s.raiseWatch p = { s with
        requests := s.requests.map fun r =>
          if r.port = p ∧ r.kind = .watch ∧ s.watchInterval.toNat < (s.tick - r.arrival).toNat
          then { r with cls := .first } else r } := by
      rw [State.raiseWatch, if_neg on]
      simp only [Bool.and_eq_true, decide_eq_true_eq, and_assoc]
    exact State.take_working_plain working closed e rfl

end Sys2Proof.Machine

namespace Sys2Proof.Machine

/-! ## The expiry of the watch period (R127, R128) -/

theorem Port.watchDue_iff (x : Port) : x.watchDue = true ↔
    (∃ f, x.profile = some f ∧ f.watch = true) ∧ (x.status.state = .idle ∨ x.status.state = .cableHold) := by
  rw [Port.watchDue]
  cases x.profile with
  | none => simp
  | some f => simp

theorem Port.hasWithdrawn_iff (x : Port) : x.hasWithdrawn = true ↔ PortMsg.withdraw ∈ x.outbox := by
  simp [Port.hasWithdrawn]

/-- What an expiry makes of port p (R128); nothing of it but the port itself is in the ports. -/
def State.watched (s : State) (p : PortNo) (x : Port) : Port :=
  if x.watchDue = true ∧ s.engineOf p = none then
    if x.request = none then { x with request := some .watch, outbox := x.outbox ++ [.request .watch] }
    else if (s.unacceptedGrantOf p).isSome = true ∧ PortMsg.withdraw ∉ x.outbox then x else x.countLate
  else x

theorem State.watchPort_eq (s : State) (p : PortNo) : s.watchPort p = s.setPort p (s.watched p (s.port p)) := by
  have posted : s.post p .watch = s.setPort p { s.port p with
      request := some .watch, outbox := (s.port p).outbox ++ [.request .watch] } :=
    State.updPort_of_same (Port.samePage_of_eq rfl rfl rfl rfl rfl)
  have late : s.updPort p Port.countLate = s.setPort p (s.port p).countLate := by
    rw [State.updPort_eq, Port.countLate, Port.openEdit_openEdit, ite_self]
  rw [State.watchPort, State.watched]
  by_cases due : (s.port p).watchDue = true
  · rw [if_pos due, State.dueAt]
    by_cases free : s.engineOf p = none
    · rw [if_pos (And.intro due free), if_neg (by simp [free])]
      rcases hr : (s.port p).request with _ | k
      · rw [if_pos rfl]
        exact posted
      · dsimp only
        rw [if_neg (c := some k = none) nofun]
        simp only [Bool.and_eq_true, Bool.not_eq_true', ← Bool.not_eq_true, Port.hasWithdrawn_iff, late]
        split_ifs
        · rw [State.setPort_port]
        · rfl
    · rw [if_pos (Option.isSome_iff_ne_none.mpr free), if_neg (fun h => free h.2), State.setPort_port]
  · rw [if_neg due, if_neg (fun h => due h.1), State.setPort_port]

/-- An expiry changes the ports alone, each as `watched` says. -/
theorem State.forEach_watchPort (s : State) : ∃ v, s.forEach (List.finRange 48) State.watchPort = { s with ports := v } ∧
    ∀ p : PortNo, ({ s with ports := v } : State).port p = s.watched p (s.port p) := by
  have turn : ∀ (u : State) (q : PortNo), (∃ v, u = { s with ports := v }) → (∃ v, u.watchPort q = { s with ports := v }) ∧
      (u.watchPort q).port q = s.watched q (u.port q) ∧ ∀ p, p ≠ q → (u.watchPort q).port p = u.port p := by
    rintro _ q ⟨v, rfl⟩
    rw [State.watchPort_eq]
    exact ⟨⟨_, rfl⟩, State.port_setPort_self .., fun p hp => State.port_setPort_ne _ _ _ _ hp⟩
  obtain ⟨v, frame⟩ := State.forEach_keeps (fun u => ∃ v, u = { s with ports := v }) State.watchPort
    (fun u q hu => (turn u q hu).1) (List.finRange 48) ⟨s.ports, rfl⟩
  refine ⟨v, frame, fun p => ?_⟩
  rw [← frame]
  refine (State.forEach_at (f := State.watchPort) (x := p)
    (Before := fun u => (∃ v, u = { s with ports := v }) ∧ u.port p = s.port p)
    (After := fun u => (∃ v, u = { s with ports := v }) ∧ u.port p = s.watched p (s.port p)) (List.nodup_finRange 48)
    (List.mem_finRange p) (fun u q _ ne ⟨hu, hp⟩ => ?_) (fun u ⟨hu, hp⟩ => ?_) (fun u q _ ne ⟨hu, hp⟩ => ?_)
    ⟨⟨s.ports, rfl⟩, rfl⟩).2
  · exact ⟨(turn u q hu).1, ((turn u q hu).2.2 p ne.symm).trans hp⟩
  · exact ⟨(turn u p hu).1, by rw [(turn u p hu).2.1, hp]⟩
  · exact ⟨(turn u q hu).1, ((turn u q hu).2.2 p ne.symm).trans hp⟩

/-- Settles O55, port by port. -/
theorem watchExpiryMakesPortsDue : Obligations.WatchExpiryMakesPortsDue := by
  unfold Obligations.WatchExpiryMakesPortsDue
  intro s working closed
  have taken : exec .watchExpiry s = s.take fun s => s.ifRunning State.watchExpiry := rfl
  have expired : s.watchExpired = true ↔ s.watchInterval ≠ 0 ∧ s.watchElapsed = s.watchInterval := by
    simp [State.watchExpired]
  rw [taken]
  constructor
  · intro early
    refine State.take_idle working closed ?_
    rw [State.watchExpiry, if_neg]
    rw [expired]
    tauto
  · intro on elapsed
    obtain ⟨v, frame, ports⟩ := s.forEach_watchPort
    have e : s.watchExpiry = ({ s with ports := v } : State).readInterval := by
      rw [State.watchExpiry, if_pos (expired.mpr ⟨on, elapsed⟩), frame]
    rw [State.take_working working, e]
    refine ⟨_, rfl, rfl, ?_⟩
    intro p x due granted
    have at_p : (({ s with ports := v } : State).readInterval.closeEdits).port p = (s.watched p x).closeEdit := by
      rw [State.port_closeEdits]
      exact congrArg Port.closeEdit (ports p)
    have even : x.editCount.getLsbD 0 = false := closed p
    have isDue : x.watchDue = true ↔ due := x.watchDue_iff
    have isGranted : (s.unacceptedGrantOf p).isSome = true ↔ granted := by
      rw [Option.isSome_iff_ne_none, ne_eq, State.unacceptedGrantOf_eq_none]
      simp only [State.holdsUnaccepted, not_forall, not_not]
      rfl
    rw [at_p, State.watched, ← isDue, ← isGranted]
    refine ⟨fun idle => ?_, fun hd free none => ?_, fun hd free waits hg unsent => ?_, fun hd free waits hg => ?_⟩
    · rw [if_neg fun c => idle.elim (fun h => h c.1) fun h => h c.2, Port.closeEdit_of_even even]
    · rw [if_pos (And.intro hd free), if_pos none]
      exact Port.closeEdit_of_even (x := { x with request := some .watch, outbox := x.outbox ++ [.request .watch] }) even
    · rw [if_pos (And.intro hd free), if_neg waits, if_pos (And.intro hg unsent), Port.closeEdit_of_even even]
    · rw [if_pos (And.intro hd free), if_neg waits, if_neg (fun h => hg h.1), Port.countLate,
        Port.closeEdit_openEdit (x := x.bump .watchLate) even, Port.bump_eq_counted]
      rfl

end Sys2Proof.Machine

namespace Sys2Proof.Machine

/-! ## A tick (R158) -/

theorem Sender.tick_eq (x : Sender) : x.tick = { x with
    phase := x.phase.map fun n => if n = 11 then 0 else n + 1, due := x.due || decide (x.phase = some 11) } := by
  obtain ⟨phase, due, onLine⟩ := x
  cases phase with
  | none => simp [Sender.tick]
  | some n =>
    by_cases last : n = 11
    · simp [Sender.tick, Config.burstInterval, last]
    · simp [Sender.tick, Config.burstInterval, last]

theorem Timers.tick_eq (t : Timers) : t.tick = ⟨t.offer.map (· - 1), t.brk.map (· - 1), t.lock.map (· - 1),
    t.verify.map (· - 1), t.monitor.map (· - 1), t.drop.map (· - 1), t.backoff.map (· - 1), t.roleHold.map (· - 1)⟩ := rfl

/-- A tick at a port, with the unlock ticks of a link that has lost its lock (R78, R79). -/
theorem Port.tick_eq (x : Port) : x.tick = { x with
    seedGen := seedStep x.seedGen, timers := x.timers.tick, sender := x.sender.tick
    unlockTotal := if x.status.state = .linked ∧ x.lockUp = false then x.unlockTotal + 1 else x.unlockTotal
    news := if (x.status.state = .linked ∧ x.lockUp = false) ∧ x.unlockTotal + 1 = 0 then x.news ||| 0x80 else x.news } := by
  have lost : (decide (x.status.state = .linked) && !x.lockUp) = true ↔ x.status.state = .linked ∧ x.lockUp = false := by
    simp
  unfold Port.tick Port.addUnlockTick
  dsimp only
  by_cases h : x.status.state = .linked ∧ x.lockUp = false
  · rw [if_pos (lost.mpr h), if_pos h]
    by_cases wraps : x.unlockTotal + 1 = 0
    · rw [if_pos wraps, if_pos ⟨h, wraps⟩]
      rfl
    · rw [if_neg wraps, if_neg (fun c => wraps c.2)]
  · rw [if_neg (h ∘ lost.mp), if_neg h, if_neg (fun c => h c.1)]

theorem State.tickBlocks_ports (s : State) : s.tickBlocks.ports = Vector.ofFn fun p => (s.port p).tick := by
  rw [State.tickBlocks, State.watchTick]
  split_ifs <;> rfl

theorem State.tickBlocks_port (s : State) (p : PortNo) : s.tickBlocks.port p = (s.port p).tick := by
  simp [State.port, State.tickBlocks_ports]

theorem State.tickBlocks_engine (s : State) (e : EngineNo) : s.tickBlocks.engine e = (s.engine e).tick := by
  have engines : s.tickBlocks.engines = Vector.ofFn fun e => (s.engine e).tick := by
    rw [State.tickBlocks, State.watchTick]
    split_ifs <;> rfl
  simp [State.engine, engines]

/-- A tick at every block but intake (R158). -/
theorem State.tickBlocks_frame (s : State) : s.tickBlocks = { s with
    tick := s.tick + 1, divider := 0, ports := s.tickBlocks.ports, engines := s.tickBlocks.engines
    watchInterval := if s.watchInterval = 0 then s.readMem 0x0030 else s.watchInterval
    watchElapsed := if s.watchInterval = 0 then 0
      else if s.watchElapsed.toNat < s.watchInterval.toNat then s.watchElapsed + 1 else s.watchElapsed } := by
  unfold State.tickBlocks State.watchTick
  dsimp only
  split_ifs <;> rfl

/-- A tick edits no page. -/
theorem State.editsClosed_tickBlocks {s : State} (h : s.editsClosed) : s.tickBlocks.editsClosed := fun p => by
  rw [State.tickBlocks_port, Port.tick_eq]
  exact h p

/-- Settles O18, block by block. -/
theorem tickMovesEveryBlock : Obligations.TickMovesEveryBlock := by
  unfold Obligations.TickMovesEveryBlock
  intro s working closed
  refine ⟨fun idle => ?_, fun due empty => ?_, s.tickBlocks_frame, ?_, fun e => ?_⟩
  · have owes : (!s.intakeQueue.isEmpty) = decide (s.intakeQueue ≠ []) := by
      cases s.intakeQueue <;> rfl
    rw [exec_tick_blocks working idle, owes]
    exact congrArg Host.Outcome.next (State.closeEdits_of_ports (State.editsClosed_tickBlocks closed) rfl)
  · have nothing : ({ s with intakeDue := false } : State).intakeTake = { s with intakeDue := false } := by
      rw [State.intakeTake, empty]
    rw [exec_tick_entry working due, nothing]
    exact congrArg Host.Outcome.next (State.closeEdits_of_ports closed rfl)
  · intro p x y
    have ticked : y = x.tick := s.tickBlocks_port p
    rw [ticked, Port.tick_eq, Timers.tick_eq, Sender.tick_eq]
    refine ⟨rfl, ?_, fun i hi => ?_, fun lost => ⟨if_pos lost, ?_⟩, fun up => ?_⟩
    · simp only [seedStep_low, seedFeed, Bool.bne_eq_xor, Bool.xor_assoc]
    · exact seedStep_succ _ hi
    · dsimp only
      by_cases wraps : x.unlockTotal + 1 = 0
      · rw [if_pos ⟨lost, wraps⟩, if_pos wraps]
      · rw [if_neg (fun c => wraps c.2), if_neg wraps]
    · have notLost : ¬ (x.status.state = .linked ∧ x.lockUp = false) := fun c => by
        rcases up with other | up
        · exact other c.1
        · rw [up] at c
          cases c.2
      exact ⟨if_neg notLost, if_neg fun c => notLost c.1⟩
  · rw [State.tickBlocks_engine]
    refine ⟨rfl, congrArg (fun f => Option.map f (s.engine e).meas) (funext fun m => ?_)⟩
    unfold Measurement.tick
    rcases m.phase with ⟨n, tryState⟩ | _ | _
    · cases tryState <;> rfl
    · rfl
    · rfl

end Sys2Proof.Machine

namespace Sys2Proof.Machine

/-! ## Shots (R86, R92 to R94) -/

theorem sumUpTo_eq_sum (n : Nat) (f : Nat → Int) : sumUpTo n f = ((List.range n).map f).sum := by
  induction n with
  | zero => rfl
  | succ n ih =>
    rw [sumUpTo, ih, List.range_succ, List.map_append, List.sum_append]
    simp

/-- A sum of n terms, each within a bound. -/
theorem sumUpTo_natAbs_le {n c : Nat} {f : Nat → Int} (h : ∀ i, i < n → (f i).natAbs ≤ c) :
    (sumUpTo n f).natAbs ≤ n * c := by
  induction n with
  | zero => simp [sumUpTo]
  | succ n ih =>
    have before := ih fun i hi => h i (by omega)
    have last := h n (by omega)
    have split : (n + 1) * c = n * c + c := Nat.succ_mul n c
    rw [sumUpTo]
    omega

theorem sumUpTo_const {n : Nat} {c : Int} {f : Nat → Int} (h : ∀ i, i < n → f i = c) : sumUpTo n f = n * c := by
  induction n with
  | zero => simp [sumUpTo]
  | succ n ih =>
    rw [sumUpTo, ih fun i hi => h i (by omega), h n (by omega)]
    push_cast
    ring

/-- A filter output is bounded by full scale (R93). -/
theorem sinc_natAbs_le (x d k t : Nat) : (sinc x d k t).natAbs ≤ d ^ k := by
  induction k generalizing t with
  | zero =>
    rw [sinc, bitValue]
    split_ifs <;> simp
  | succ k ih =>
    rw [sinc, Nat.pow_succ, Nat.mul_comm]
    refine sumUpTo_natAbs_le fun i _ => ?_
    split_ifs
    · exact ih _
    · simp

/-- A full filter over a steady run of 1 bits gives full scale (R93). -/
theorem sinc_steady {x d k t : Nat} (ones : ∀ i, i ≤ t → x.testBit i = true) (full : k * (d - 1) ≤ t) :
    sinc x d k t = (d ^ k : Nat) := by
  induction k generalizing t with
  | zero => simp [sinc, bitValue, ones t le_rfl]
  | succ k ih =>
    have split : (k + 1) * (d - 1) = k * (d - 1) + (d - 1) := Nat.succ_mul k (d - 1)
    have term : ∀ i, i < d → (if i ≤ t then sinc x d k (t - i) else 0) = ((d ^ k : Nat) : Int) := fun i hi => by
      rw [if_pos (by omega)]
      exact ih (fun j hj => ones j (by omega)) (by omega)
    rw [sinc, sumUpTo_const term]
    push_cast
    ring

/-! ### The drive of a line (R86) -/

/-- The engine that measures a port is the one that holds it. -/
theorem State.grantsOk.engineOf {s : State} (h : s.grantsOk) {e : EngineNo} {m : Measurement}
    (hm : (s.engine e).meas = some m) : s.engineOf m.holder = some e := by
  cases held : s.engineOf m.holder with
  | none => exact absurd rfl (State.engineOf_eq_none held hm)
  | some f =>
    have found := List.find?_some held
    cases hn : (s.engine f).meas with
    | none => simp [hn] at found
    | some n =>
      simp only [hn, decide_eq_true_eq] at found
      rw [h.holder_unique hm hn found.symm]

/-! ### A shot's outputs (R92 to R94) -/

theorem outputs_length (x d k n : Nat) : (outputs x d k n).length = n := by simp [outputs]

theorem outputs_getElem {x d k n j : Nat} (h : j < n) : (outputs x d k n)[j]? = some (sinc x d k ((j + 1) * d - 1)) := by
  simp [outputs, h]

theorem captureOf_get (bits : EchoBits) (r : Recipe) (n : Nat) (q : Pair) :
    (captureOf bits r n).get q = outputs (EchoBits.get bits q) r.decimation r.order n := by
  cases q <;> rfl

theorem Pairs.get_zipWith {α β γ : Type} (f : α → β → γ) (x : Pairs α) (y : Pairs β) (q : Pair) :
    (x.zipWith f y).get q = f (x.get q) (y.get q) := by
  cases q <;> rfl

/-- The accumulators after a shot (R94). -/
theorem addOutputs_getElem {acc : Accumulators} {vs : List Int} {j : Nat} {v : Int} (h : vs[j]? = some v) :
    (addOutputs acc vs)[j]? = acc[j]?.map fun a => a + BitVec.ofInt 32 v := by
  rw [addOutputs, List.getElem?_zipWith, h]
  cases acc[j]? <;> rfl

/-- A change of what an engine holds, and of nothing else. -/
theorem State.take_updMeas {s : State} (h : s.working) (hc : s.editsClosed) {F : State → State} {e : EngineNo}
    {m m' : Measurement} {f : Measurement → Measurement} (eq : F s = s.updMeas e f) (hm : (s.engine e).meas = some m)
    (hf : f m = m') :
    (s.take fun s => s.ifRunning F) = .next (s.setEngine e { s.engine e with meas := some m' }) :=
  State.take_working_plain h hc (eq.trans (by rw [State.updMeas_some hm, hf])) rfl

theorem State.endShot_eq {s : State} {e : EngineNo} {m : Measurement} {n k : Nat} {acc : Pairs Accumulators}
    (hm : (s.engine e).meas = some m) (phase : m.phase = .shooting n k acc) (bits : EchoBits) :
    s.endShot e bits = s.updMeas e fun m' => { m' with
      phase := if m'.recipe.shots ≤ k + 1
        then .finishing n (acc.zipWith addOutputs (captureOf bits m.recipe m.recipe.window))
        else .shooting n (k + 1) (acc.zipWith addOutputs (captureOf bits m.recipe m.recipe.window)) } := by
  rw [State.endShot, hm]
  dsimp only
  rw [phase]

/-- Settles O50: accumulators position by position, the filter by induction on its order, the drive by the phase. -/
theorem shotAddsFilteredOutputs : Obligations.ShotAddsFilteredOutputs := by
  unfold Obligations.ShotAddsFilteredOutputs
  refine ⟨fun s e m n k acc bits working closed hm phase full => ?_, fun x d k t => ⟨sinc_natAbs_le x d k t, sinc_steady,
    rfl, sumUpTo_eq_sum _ _⟩, fun s p q t => ⟨fun free => State.pulseOn_free free q t,
      fun e m agree hm holder valid => ⟨?_, fun n k acc i phase pair low high => ?_⟩⟩⟩
  · refine ⟨acc.zipWith addOutputs (captureOf bits m.recipe m.recipe.window), fun q => ?_, ?_⟩
    · rw [Pairs.get_zipWith, captureOf_get]
      refine ⟨?_, fun j hj => addOutputs_getElem (outputs_getElem hj)⟩
      rw [addOutputs, List.length_zipWith, full q, outputs_length, Nat.min_self]
    · have taken : exec (.shot e bits) s = s.take fun s => s.ifRunning fun s => s.endShot e bits := rfl
      rw [taken]
      exact State.take_updMeas working closed (State.endShot_eq hm phase bits) hm rfl
  all_goals
    have held : s.engineOf p = some e := by
      rw [← holder]
      exact agree.engineOf hm
    have divider : 1 ≤ m.recipe.chipDivider := by
      simp only [Recipe.valid, inRange, Bool.and_eq_true, decide_eq_true_eq] at valid
      omega
    rw [State.pulseOn_held held hm]
  · intro silent
    rcases hp : m.phase with _ | ⟨n, k, acc⟩ | _
    · exact Measurement.driveOn_silent (fun n k acc h => by rw [hp] at h; cases h) q t
    · rw [Measurement.driveOn_shooting hp]
      rcases silent with other | unpaired | ended
      · exact absurd hp (other n k acc)
      · rw [if_neg unpaired]
      · rw [List.getElem?_eq_none ((Nat.le_div_iff_mul_le divider).mpr ended), ite_self]
    · exact Measurement.driveOn_silent (fun n k acc h => by rw [hp] at h; cases h) q t
  · rw [Measurement.driveOn_shooting phase, if_pos pair, Nat.div_eq_of_lt_le low high]

end Sys2Proof.Machine

namespace Sys2Proof.Machine

/-! ## A burst on the line and in the decoder (R27, R28, R32, R39, R40) -/

/-! ### The word sent -/

theorem OfferWord.odd_eq (w : Word) : OfferWord.odd w =
    ((List.range 11).foldl (fun acc i => acc != w.getLsbD i) false ^^ w.getLsbD 11 ^^ w.getLsbD 12 ^^ w.getLsbD 13 ^^
      w.getLsbD 14 ^^ w.getLsbD 15) := by
  rw [OfferWord.odd, show List.range 16 = List.range 11 ++ [11, 12, 13, 14, 15] from rfl, List.foldl_append]
  simp only [List.foldl_cons, List.foldl_nil, Bool.bne_eq_xor]

/-- The parity flag makes an odd number of 1 bits even (R32). -/
theorem OfferWord.odd_withParity {w : Word} (clear : w.getLsbD 11 = false) :
    OfferWord.odd (w ||| 0x0800) = !OfferWord.odd w := by
  have low : (List.range 11).foldl (fun acc i => acc != (w ||| 0x0800).getLsbD i) false =
      (List.range 11).foldl (fun acc i => acc != w.getLsbD i) false := by
    simp [List.range, List.range.loop]
  rw [OfferWord.odd_eq, OfferWord.odd_eq, low, clear]
  simp

theorem OfferWord.odd_onLine (content : Word) (ack : Bool) : OfferWord.odd (OfferWord.onLine content ack) = false := by
  have clear : (OfferWord.content content ||| (if ack then 0x1000 else 0)).getLsbD 11 = false := by
    cases ack <;> simp [OfferWord.content]
  unfold OfferWord.onLine
  dsimp only
  generalize OfferWord.content content ||| (if ack then 0x1000 else 0) = word at clear ⊢
  split_ifs with odd
  · rw [OfferWord.odd_withParity clear, odd]
    rfl
  · exact Bool.eq_false_iff.mpr odd

theorem OfferWord.onLine_eq (content : Word) (ack : Bool) : ∃ parity : Word, (parity = 0 ∨ parity = 0x0800) ∧
    OfferWord.onLine content ack = content &&& 0xE7FF ||| (if ack then 0x1000 else 0) ||| parity := by
  unfold OfferWord.onLine
  dsimp only
  rw [OfferWord.content]
  generalize content &&& 0xE7FF ||| (if ack then 0x1000 else 0) = word
  split_ifs with odd
  · exact ⟨0x0800, .inr rfl, rfl⟩
  · exact ⟨0, .inl rfl, by simp⟩

/-- The content of the word sent is that of our word (R33). -/
theorem OfferWord.content_onLine (content : Word) (ack : Bool) :
    OfferWord.onLine content ack &&& 0xE7FF = content &&& 0xE7FF := by
  obtain ⟨parity, flag, e⟩ := OfferWord.onLine_eq content ack
  have none : parity &&& 0xE7FF = 0 := by rcases flag with rfl | rfl <;> decide
  have noAck : (if ack then 0x1000 else 0 : Word) &&& 0xE7FF = 0 := by cases ack <;> decide
  rw [e, BitVec.and_or_distrib_right, BitVec.and_or_distrib_right, none, noAck, BitVec.and_assoc]
  simp

theorem OfferWord.ack_onLine (content : Word) (ack : Bool) : (OfferWord.onLine content ack).getLsbD 12 = ack := by
  obtain ⟨parity, flag, e⟩ := OfferWord.onLine_eq content ack
  rw [e]
  rcases flag with rfl | rfl <;> cases ack <;> simp

/-! ### Its transitions -/

/-- The changes of a line that was at `level`, from half-cell k on. -/
def edges (k : Nat) (level : Bool) : List Bool → List (Nat × Bool)
  | [] => []
  | b :: rest => (if level != b then [(4 * k, b)] else []) ++ edges (k + 1) b rest

theorem edges_eq_filterMap (levels : List Bool) (k : Nat) (level : Bool) :
    ((List.range levels.length).filterMap fun i =>
      if (level :: levels).getD i false != (level :: levels).getD (i + 1) false
      then some (4 * (k + i), (level :: levels).getD (i + 1) false) else none) = edges k level levels := by
  induction levels generalizing k level with
  | nil => rfl
  | cons b rest ih =>
    have step := ih (k + 1) b
    rw [List.length_cons, List.range_succ_eq_map, List.filterMap_cons, List.filterMap_map, edges, ← step]
    simp only [List.getD_cons_zero, List.getD_cons_succ, Function.comp_def, Nat.add_zero, Nat.succ_eq_add_one,
      Nat.add_right_comm k, ← Nat.add_assoc]
    split_ifs <;> rfl

/-- The changes of a line over whole cells and back to rest, after a cell of value `last` (R27). -/
def cellEdges (k : Nat) (last : Bool) : List Bool → List (Nat × Bool)
  | [] => if last then [(4 * k, false)] else []
  | b :: rest => (if last = b then [(4 * k, !b)] else []) ++ (4 * (k + 1), b) :: cellEdges (k + 2) b rest

theorem edges_cells (cells : List Bool) (k : Nat) (last : Bool) :
    edges k last ((cells.flatMap fun b => [!b, b]) ++ [false]) = cellEdges k last cells := by
  induction cells generalizing k last with
  | nil => cases last <;> rfl
  | cons b rest ih =>
    have next := ih (k + 2) b
    rw [List.flatMap_cons, List.append_assoc]
    simp only [List.cons_append, List.nil_append, edges, cellEdges, next]
    cases last <;> cases b <;> rfl

/-- The bits of a word, most significant first, as the cells of its burst. -/
def wordCells (w : Word) : List Bool := (List.range 16).map fun i => w.getLsbD (15 - i)

theorem burstTransitions_eq (w : Word) : burstTransitions w = cellEdges 0 false (true :: wordCells w) := by
  have length : (OfferWord.halfCells w ++ [false]).length = 35 := by
    simp [OfferWord.halfCells, Function.comp_def]
  rw [← edges_cells, ← edges_eq_filterMap]
  simp only [Nat.zero_add]
  rw [burstTransitions, ← length]
  rfl

/-! ### The burst read -/

section
variable {b : BurstIn} {i : Nat}

/-- Nothing is read with split 0 or once the burst is bad (R39). -/
theorem BurstIn.readInterval_unread (h : b.split = 0 ∨ b.bad = true) : b.readInterval i = b := by
  rw [BurstIn.readInterval, if_pos]
  simpa using h

theorem BurstIn.readInterval_read (split : 0 < b.split) (good : b.bad = false) : b.readInterval i =
    if i < b.split then
      if b.halfPending then { b with halfPending := false, cells := (b.cells.headD false) :: b.cells }
      else { b with halfPending := true }
    else if i < 2 * b.split then
      if b.halfPending then { b with bad := true }
      else { b with cells := (!b.cells.headD false) :: b.cells }
    else { b with bad := true } := by
  rw [BurstIn.readInterval, if_neg]
  simp [good]
  omega

/-- The first half interval of a cell. -/
theorem BurstIn.readInterval_half (split : 0 < b.split) (good : b.bad = false) (short : i < b.split)
    (none : b.halfPending = false) : b.readInterval i = { b with halfPending := true } := by
  rw [BurstIn.readInterval_read split good, if_pos short, none, if_neg Bool.false_ne_true]

/-- The second: a cell of the same value. -/
theorem BurstIn.readInterval_secondHalf {c : Bool} {cs : List Bool} (split : 0 < b.split) (good : b.bad = false)
    (short : i < b.split) (pending : b.halfPending = true) (cells : b.cells = c :: cs) :
    b.readInterval i = { b with halfPending := false, cells := c :: b.cells } := by
  rw [BurstIn.readInterval_read split good, if_pos short, if_pos pending, cells]
  rfl

/-- A whole interval: a cell of the other value. -/
theorem BurstIn.readInterval_whole {c : Bool} {cs : List Bool} (split : 0 < b.split) (good : b.bad = false)
    (low : b.split ≤ i) (high : i < 2 * b.split) (none : b.halfPending = false) (cells : b.cells = c :: cs) :
    b.readInterval i = { b with cells := (!c) :: b.cells } := by
  rw [BurstIn.readInterval_read split good, if_neg (by omega), if_pos high, none, if_neg Bool.false_ne_true, cells]
  rfl

theorem BurstIn.readInterval_halfThenWhole (split : 0 < b.split) (good : b.bad = false) (low : b.split ≤ i)
    (high : i < 2 * b.split) (pending : b.halfPending = true) : b.readInterval i = { b with bad := true } := by
  rw [BurstIn.readInterval_read split good, if_neg (by omega), if_pos high, if_pos pending]

theorem BurstIn.readInterval_tooLong (split : 0 < b.split) (good : b.bad = false) (long : 2 * b.split ≤ i) :
    b.readInterval i = { b with bad := true } := by
  rw [BurstIn.readInterval_read split good, if_neg (by omega), if_neg (by omega)]

end

/-- The next transition read by a decoder in a burst (R38, R39). -/
def BurstIn.next (b : BurstIn) (x : Nat × Bool) : BurstIn := { b.readInterval (x.1 - b.last) with last := x.1 }

theorem readTransitions_cons (split t : Nat) (rising : Bool) (rest : List (Nat × Bool)) :
    readTransitions split ((t, rising) :: rest) = some (rest.foldl BurstIn.next (beginBurst rising t split)) := rfl

section
variable {b : BurstIn} {c : Bool} {cs : List Bool} {k : Nat}

/-- A burst read so far without fault, at the middle of its newest cell, four samples before half-cell k. -/
structure BurstIn.AtCell (b : BurstIn) (c : Bool) (cs : List Bool) (k : Nat) : Prop where
  low : 5 ≤ b.split
  high : b.split ≤ 8
  cells : b.cells = c :: cs
  whole : b.halfPending = false
  good : b.bad = false
  last : b.last + 4 = 4 * k

/-- A change at the boundary opens a half interval. -/
theorem BurstIn.AtCell.boundary (h : b.AtCell c cs k) (v : Bool) :
    b.next (4 * k, v) = { b with halfPending := true, last := 4 * k } := by
  obtain ⟨low, high, cells, whole, good, last⟩ := h
  rw [BurstIn.next, BurstIn.readInterval_half (by omega) good (by dsimp only; omega) whole]

/-- A change at the boundary, then the middle of a cell of the same value: two half intervals (R39). -/
theorem BurstIn.AtCell.same (h : b.AtCell c cs k) :
    ((b.next (4 * k, !c)).next (4 * (k + 1), c)).AtCell c (c :: cs) (k + 2) ∧
      ((b.next (4 * k, !c)).next (4 * (k + 1), c)).split = b.split := by
  rw [h.boundary]
  obtain ⟨low, high, cells, whole, good, last⟩ := h
  rw [BurstIn.next, BurstIn.readInterval_secondHalf (b := { b with halfPending := true, last := 4 * k })
    (by dsimp only; omega) good (by dsimp only; omega) rfl cells]
  exact ⟨⟨low, high, congrArg (c :: ·) cells, rfl, good, by dsimp only; omega⟩, rfl⟩

/-- No change at the boundary, then the middle of a cell of the other value: a whole interval (R39). -/
theorem BurstIn.AtCell.other (h : b.AtCell c cs k) :
    (b.next (4 * (k + 1), !c)).AtCell (!c) (c :: cs) (k + 2) ∧ (b.next (4 * (k + 1), !c)).split = b.split := by
  obtain ⟨low, high, cells, whole, good, last⟩ := h
  rw [BurstIn.next, BurstIn.readInterval_whole (by omega) good (by dsimp only; omega) (by dsimp only; omega) whole cells]
  exact ⟨⟨low, high, congrArg ((!c) :: ·) cells, whole, good, by dsimp only; omega⟩, rfl⟩

/-- The line going back to rest closes no cell. -/
theorem BurstIn.AtCell.rest (h : b.AtCell c cs k) : (b.next (4 * k, false)).cells = c :: cs ∧
    (b.next (4 * k, false)).bad = false ∧ (b.next (4 * k, false)).split = b.split := by
  rw [h.boundary]
  exact ⟨h.cells, h.good, rfl⟩

end

/-- Every cell of a burst is read (R39). -/
theorem BurstIn.read_cellEdges (values : List Bool) {b : BurstIn} {c : Bool} {cs : List Bool} {k : Nat}
    (h : b.AtCell c cs k) : let b' := (cellEdges k c values).foldl BurstIn.next b
    b'.cells = values.reverse ++ c :: cs ∧ b'.bad = false ∧ b'.split = b.split := by
  induction values generalizing b c cs k with
  | nil =>
    cases c with
    | false => exact ⟨h.cells, h.good, rfl⟩
    | true => exact h.rest
  | cons v rest ih =>
    by_cases same : c = v
    · subst same
      obtain ⟨at_, split⟩ := h.same
      obtain ⟨cells, good, split'⟩ := ih at_
      simp only [cellEdges, if_true, List.cons_append, List.nil_append, List.foldl_cons]
      exact ⟨by rw [cells]; simp, good, split'.trans split⟩
    · obtain rfl : v = !c := by cases c <;> cases v <;> simp_all
      obtain ⟨at_, split⟩ := h.other
      obtain ⟨cells, good, split'⟩ := ih at_
      simp only [cellEdges, if_neg same, List.nil_append, List.foldl_cons]
      exact ⟨by rw [cells]; simp, good, split'.trans split⟩

/-! ### The verdict (R40) -/

theorem wordOfCells_concat (cells : List Bool) (b : Bool) :
    wordOfCells (cells ++ [b]) = (wordOfCells cells <<< 1) ||| (if b then 1 else 0) := by
  rw [wordOfCells, List.foldl_append]
  rfl

/-- Bit i of the word is the cell i before the last. -/
theorem wordOfCells_bit (cells : List Bool) (i : Nat) (hi : i < 16) :
    (wordOfCells cells).getLsbD i = cells.reverse.getD i false := by
  induction cells using List.reverseRecOn generalizing i with
  | nil => simp [wordOfCells]
  | append_singleton cells b ih =>
    rw [wordOfCells_concat, getLsbD_shiftIn, List.reverse_append]
    cases i with
    | zero => simp
    | succ i =>
      rw [if_neg (Nat.succ_ne_zero i), decide_eq_true hi, Bool.true_and, Nat.add_sub_cancel, ih i (by omega)]
      simp

/-- A burst of 17 cells, the first 1, gives the word of the other sixteen (R40). -/
theorem BurstIn.verdict_valid_iff (b : BurstIn) (w : Word) : b.verdict = .valid w ↔
    b.split ≠ 0 ∧ b.bad = false ∧ b.cells.length = 17 ∧ b.cells.getLast? = some true ∧
      (∀ i : Fin 16, b.cells[i.val]? = some (w.getLsbD i.val)) ∧ OfferWord.odd w = false := by
  unfold BurstIn.verdict
  by_cases noSplit : b.split = 0
  · simp [noSplit]
  · rw [if_neg noSplit]
    cases hr : b.cells.reverse with
    | nil =>
      have empty : b.cells = [] := by simpa using hr
      simp [empty]
    | cons first rest =>
      have cells : b.cells = rest.reverse ++ [first] := by
        rw [← List.reverse_reverse b.cells, hr, List.reverse_cons]
      have length : b.cells.length = rest.length + 1 := by simp [cells]
      have bits : rest.length = 16 → ((∀ i : Fin 16, b.cells[i.val]? = some (w.getLsbD i.val)) ↔ wordOfCells rest = w) := by
        intro len
        have bit : ∀ i, (hi : i < 16) → b.cells[i]? = some ((wordOfCells rest).getLsbD i) := fun i hi => by
          rw [wordOfCells_bit rest i hi, cells, List.getElem?_append_left (by simp [len, hi]), List.getD_eq_getElem?_getD,
            List.getElem?_eq_getElem (by simp [len, hi])]
          rfl
        constructor
        · intro h
          refine BitVec.eq_of_getLsbD_eq fun i hi => ?_
          have both := (bit i hi).symm.trans (h ⟨i, hi⟩)
          exact Option.some.inj both
        · rintro rfl i
          exact bit i i.isLt
      have last : b.cells.getLast? = some first := by simp [cells]
      rw [length, last]
      dsimp only
      constructor
      · intro h
        split_ifs at h with good
        simp only [Bool.and_eq_true, Bool.not_eq_true', decide_eq_true_eq] at good
        obtain ⟨⟨⟨notBad, len⟩, isFirst⟩, even⟩ := good
        have word : wordOfCells rest = w := by injection h
        exact ⟨noSplit, notBad, by omega, by rw [isFirst], (bits len).mpr word, word ▸ even⟩
      · rintro ⟨-, notBad, len, isFirst, h, even⟩
        have word := (bits (by omega)).mp h
        have isFirst : first = true := Option.some.inj isFirst
        rw [if_pos (by simp [notBad, isFirst, word, even]; omega), word]

/-- Settles O32: the line's changes cell by cell, and the decoder's reading of them. -/
theorem sentBurstIsReadBack : Obligations.SentBurstIsReadBack := by
  unfold Obligations.SentBurstIsReadBack
  intro content ack w
  refine ⟨OfferWord.odd_onLine _ _, OfferWord.content_onLine _ _, OfferWord.ack_onLine _ _, fun split low high => ?_⟩
  have at_first : (beginBurst true 4 split).AtCell true [] 2 := ⟨low, high, rfl, rfl, rfl, rfl⟩
  obtain ⟨cells, good, same⟩ := BurstIn.read_cellEdges (wordCells w) at_first
  have line : burstTransitions w = (4, true) :: cellEdges 2 true (wordCells w) := by
    rw [burstTransitions_eq]
    rfl
  rw [line, readTransitions_cons]
  refine ⟨_, rfl, (BurstIn.verdict_valid_iff _ _).mpr ⟨?_, good, ?_, ?_, fun i => ?_, OfferWord.odd_onLine _ _⟩⟩
  · rw [same]
    show split ≠ 0
    omega
  · rw [cells]
    simp [wordCells]
  · rw [cells]
    simp
  · have hi := i.isLt
    rw [cells, List.getElem?_append_left (by simp [wordCells])]
    rw [List.getElem?_reverse (by simp [wordCells])]
    simp only [wordCells, List.length_map, List.length_range, List.getElem?_map]
    rw [List.getElem?_range (by omega), Option.map_some]
    congr 2
    omega

end Sys2Proof.Machine

namespace Sys2Proof.Machine

/-! ## Received transitions (R37 to R39, R42) -/

theorem takenTransition_odd {rises : List Bool} {r : Bool} (odd : rises.length % 2 = 1) (last : rises.getLast? = some r) :
    takenTransition rises = some r := by
  rw [takenTransition, if_pos odd, last]

/-- A command whose rule names a publication of its own (R153). -/
theorem State.take_updPort_open {s : State} (h : s.working) (hc : s.editsClosed) {F : State → State} {p : PortNo}
    {f : Port → Port} {y : Port} (e : F s = s.updPort p f) (hy : f (s.port p) = y.openEdit)
    (count : y.editCount = (s.port p).editCount) : (s.take fun s => s.ifRunning F) = .next (s.setPort p y.edited) := by
  have even : y.editCount.getLsbD 0 = false := by
    rw [count]
    exact hc p
  rw [State.take_working h, e, State.updPort_eq, hy, Port.openEdit_openEdit, ite_self, State.closeEdits_setPort hc,
    Port.closeEdit_openEdit even]

/-- The sample follows the burst in progress, if there is one, and before that burst's end is due (R38). -/
def Port.takesSample (x : Port) (n : Nat) : Prop := ∀ b, x.decoder.burst = some b → b.last < n ∧ n ≤ b.last + 16

theorem State.receive_eq {s : State} {p : PortNo} {n : Nat} {rises : List Bool} {r : Bool}
    (taken : takenTransition rises = some r) (runs : s.decoderRuns p = true) (inTime : (s.port p).takesSample n) :
    s.receive p n rises = s.updPort p fun x => x.takeTransition r n := by
  have notOver : (s.port p).burstOver n = false := by
    unfold Port.burstOver
    cases hb : (s.port p).decoder.burst with
    | none => rfl
    | some b =>
      exact decide_eq_false (Nat.not_lt.mpr (inTime b hb).2)
  have later : (s.port p).sampleIsLater n = true := by
    unfold Port.sampleIsLater
    cases hb : (s.port p).decoder.burst with
    | none => rfl
    | some b => exact decide_eq_true (inTime b hb).1
  rw [State.receive, taken]
  dsimp only
  rw [notOver, if_neg Bool.false_ne_true, if_pos (by rw [runs, later]; rfl)]

/-- Where the decoder is paused, or the transitions cancel, nothing is taken (R37). -/
theorem State.receive_nothing {s : State} {p : PortNo} {n : Nat} {rises : List Bool}
    (h : takenTransition rises = none ∨ s.decoderRuns p = false) : s.receive p n rises = s := by
  rw [State.receive]
  cases taken : takenTransition rises with
  | none => rfl
  | some r =>
    have paused : s.decoderRuns p = false := h.resolve_left fun e => by rw [taken] at e; cases e
    have noEnd : s.endBurst p = s := by
      rw [State.endBurst]
      cases (s.port p).decoder.burst with
      | none => rfl
      | some b =>
        dsimp only
        rw [paused, if_neg Bool.false_ne_true]
    dsimp only
    rw [noEnd, ite_self, paused, Bool.false_and, if_neg Bool.false_ne_true]

/-- The port with a transition taken, its window not judged. -/
def Port.timed (x : Port) (read : BurstIn) (bins : BitVec 16) : Port :=
  { x with decoder := ⟨some read, x.decoder.windowCount + 1, bins⟩ }

theorem Port.takeTransition_first {x : Port} (none : x.decoder.burst = none) (r : Bool) (n : Nat) :
    x.takeTransition r n =
      if 256 ≤ x.decoder.windowCount + 1
      then (x.timed ⟨[r], false, n, x.status.split, false⟩ x.decoder.working).endWindow
      else x.timed ⟨[r], false, n, x.status.split, false⟩ x.decoder.working := by
  rw [Port.takeTransition, none]
  rfl

theorem Port.takeTransition_inside {x : Port} {b : BurstIn} (burst : x.decoder.burst = some b) (r : Bool) (n : Nat) :
    x.takeTransition r n =
      if 256 ≤ x.decoder.windowCount + 1
      then (x.timed { b.readInterval (n - b.last) with last := n } (x.decoder.working ||| (1 <<< (n - b.last - 1)))).endWindow
      else x.timed { b.readInterval (n - b.last) with last := n } (x.decoder.working ||| (1 <<< (n - b.last - 1))) := by
  rw [Port.takeTransition, burst]
  rfl

/-- Settles O37: the command times the transition, and the interval is read by the split in force. -/
theorem transitionIsTimedAndRead : Obligations.TransitionIsTimedAndRead := by
  unfold Obligations.TransitionIsTimedAndRead
  intro s p n rises r working closed x
  have command : exec (.receiveTransition p n rises) s = s.take fun s => s.ifRunning fun s => s.receive p n rises := rfl
  rw [command]
  refine ⟨fun even => State.take_idle working closed (State.receive_nothing (.inl ?_)), fun paused =>
    State.take_idle working closed (State.receive_nothing (.inr paused)), fun runs odd last room => ⟨fun none => ?_,
      fun b burst early late => ?_⟩⟩
  · rw [takenTransition, if_neg (by omega)]
  · have inTime : x.takesSample n := fun b hb => by rw [none] at hb; cases hb
    refine State.take_updPort_same working closed (State.receive_eq (takenTransition_odd odd last) runs inTime)
      ((Port.takeTransition_first none r n).trans ?_) rfl (Port.samePage_of_eq rfl rfl rfl rfl rfl)
    rw [if_neg (by omega)]
    rfl
  · intro i taken
    have inTime : x.takesSample n := fun b' hb => by
      rw [burst] at hb
      injection hb with hb
      rw [← hb]
      exact ⟨early, late⟩
    have answer : taken (b.readInterval i) := by
      refine State.take_updPort_same working closed (State.receive_eq (takenTransition_odd odd last) runs inTime)
        ((Port.takeTransition_inside burst r n).trans ?_) rfl (Port.samePage_of_eq rfl rfl rfl rfl rfl)
      rw [if_neg (by omega)]
      rfl
    refine ⟨fun h => ?_, fun split good => ⟨fun long => ?_, fun low high pending => ?_,
      fun c cells isCell => ⟨fun low high none => ?_, fun short none => ?_, fun short pending => ?_⟩⟩⟩
    · rwa [BurstIn.readInterval_unread h] at answer
    · rwa [BurstIn.readInterval_tooLong split good long] at answer
    · rwa [BurstIn.readInterval_halfThenWhole split good low high pending] at answer
    · rwa [BurstIn.readInterval_whole split good low high none isCell] at answer
    · rwa [BurstIn.readInterval_half split good short none] at answer
    · rwa [BurstIn.readInterval_secondHalf split good short pending isCell] at answer

/-! ### The end of a calibration window (R42 to R44) -/

theorem find_binLengths_iff {p : Nat → Bool} {a : Nat} : binLengths.find? p = some a ↔
    1 ≤ a ∧ a ≤ 16 ∧ p a = true ∧ ∀ i, 1 ≤ i → i < a → p i = false := by
  rw [binLengths, List.find?_map, Option.map_eq_some_iff]
  constructor
  · rintro ⟨j, hj, rfl⟩
    obtain ⟨pj, inRange, lower⟩ := List.find?_range_eq_some.mp hj
    rw [List.mem_range] at inRange
    refine ⟨by omega, by simp only [Config.longestInterval] at inRange; omega, pj, fun i low high => ?_⟩
    have below := lower (i - 1) (by omega)
    rw [Function.comp_apply, Nat.sub_add_cancel low] at below
    simpa using below
  · rintro ⟨low, high, pa, lower⟩
    refine ⟨a - 1, List.find?_range_eq_some.mpr ⟨?_, ?_, fun j hj => ?_⟩, by omega⟩
    · rwa [Function.comp_apply, Nat.sub_add_cancel low]
    · rw [List.mem_range]
      simp only [Config.longestInterval]
      omega
    · rw [Function.comp_apply, lower (j + 1) (by omega) (by omega)]
      rfl

theorem any_binLengths_iff {p : Nat → Bool} : binLengths.any p = true ↔ ∃ h, 1 ≤ h ∧ h ≤ 16 ∧ p h = true := by
  simp only [binLengths, List.any_map, List.any_eq_true, List.mem_range, Config.longestInterval, Function.comp_apply]
  constructor
  · rintro ⟨j, hj, ph⟩
    exact ⟨j + 1, by omega, by omega, ph⟩
  · rintro ⟨h, low, high, ph⟩
    exact ⟨h - 1, by omega, by rwa [Nat.sub_add_cancel low]⟩

/-- The search of R43: bins a to g - 1 are the lowest run, and a bin above g is occupied. -/
theorem findSplit_iff {m : BitVec 16} {g : Nat} : findSplit m = some g ↔
    ∃ a h : Nat, 1 ≤ a ∧ a < g ∧ g < h ∧ h ≤ 16 ∧ (∀ i, 1 ≤ i → i < a → m.getLsbD (i - 1) = false) ∧
      (∀ i, a ≤ i → i < g → m.getLsbD (i - 1) = true) ∧ m.getLsbD (g - 1) = false ∧ m.getLsbD (h - 1) = true := by
  have occupied : ∀ i, 1 ≤ i → binOccupied m i = m.getLsbD (i - 1) := fun i hi => by
    rw [binOccupied, decide_eq_true hi, Bool.true_and]
  constructor
  · intro found
    unfold findSplit at found
    split at found
    · cases found
    · rename_i a ha
      split at found
      · cases found
      · rename_i g' hg
        split_ifs at found with above
        injection found with e
        subst e
        obtain ⟨lowA, highA, atA, belowA⟩ := find_binLengths_iff.mp ha
        obtain ⟨lowG, highG, atG, belowG⟩ := find_binLengths_iff.mp hg
        obtain ⟨h, lowH, highH, atH⟩ := any_binLengths_iff.mp above
        simp only [Bool.and_eq_true, decide_eq_true_eq, Bool.not_eq_true'] at atG atH belowG
        rw [occupied _ lowA] at atA
        refine ⟨a, h, lowA, atG.1, atH.1, highH, fun i low high => ?_, fun i low high => ?_, ?_, ?_⟩
        · rw [← occupied i low]
          exact belowA i low high
        · rcases low.eq_or_lt with rfl | low
          · exact atA
          · have inside := belowG i (by omega) high
            rw [occupied i (by omega), decide_eq_true low, Bool.true_and] at inside
            simpa using inside
        · rw [← occupied _ lowG]
          exact atG.2
        · rw [← occupied _ lowH]
          exact atH.2
  · rintro ⟨a, h, lowA, ag, gh, highH, below, run, atG, atH⟩
    have ha : (binLengths.find? fun i => binOccupied m i) = some a := find_binLengths_iff.mpr ⟨lowA, by omega, by
      rw [occupied a lowA, run a le_rfl ag], fun i low high => by rw [occupied i low, below i low high]⟩
    have hg : (binLengths.find? fun i => decide (a < i) && !binOccupied m i) = some g := find_binLengths_iff.mpr
      ⟨by omega, by omega, by rw [occupied g (by omega), atG, decide_eq_true ag]; rfl, fun i low high => by
        by_cases above : a < i
        · rw [occupied i low, run i (by omega) high, Bool.not_true, Bool.and_false]
        · rw [decide_eq_false above, Bool.false_and]⟩
    have above : (binLengths.any fun i => decide (g < i) && binOccupied m i) = true := any_binLengths_iff.mpr
      ⟨h, by omega, highH, by rw [occupied h (by omega), atH, decide_eq_true gh]; rfl⟩
    rw [findSplit, ha]
    dsimp only
    rw [hg]
    dsimp only
    rw [if_pos above]

theorem Port.endWindow_found {x : Port} {g : Nat} (found : findSplit x.decoder.working = some g) :
    x.endWindow = Port.openEdit { x with
      decoder := { x.decoder with working := 0, windowCount := 0 }
      status := { x.status with pubMap := x.decoder.working, split := g, lastFailed := false } } := by
  rw [Port.endWindow, found]

theorem Port.endWindow_failed {x : Port} (none : findSplit x.decoder.working = none) :
    x.endWindow = Port.openEdit { x with
      decoder := { x.decoder with working := 0, windowCount := 0 }
      news := if x.status.lastFailed = true then x.news else x.news ||| 16
      status := { x.status with pubMap := x.decoder.working, lastFailed := true, failedSince := true } } := by
  rw [Port.endWindow, none]
  dsimp only
  split_ifs <;> rfl

/-- Settles O38: the 256th transition, first of its burst or inside one, is timed and then judged. -/
theorem windowEndDecidesSplit : Obligations.WindowEndDecidesSplit := by
  unfold Obligations.WindowEndDecidesSplit
  intro s p n rises r m read working closed x runs full odd last which found decoder
  have command : exec (.receiveTransition p n rises) s = s.take fun s => s.ifRunning fun s => s.receive p n rises := rfl
  have inTime : x.takesSample n := fun b hb => by
    rcases which with ⟨none, -, -⟩ | ⟨b', burst, early, late, -, -⟩
    · rw [none] at hb
      cases hb
    · rw [burst] at hb
      injection hb with hb
      rw [← hb]
      exact ⟨early, late⟩
  have judged : x.takeTransition r n = (x.timed read m).endWindow := by
    rcases which with ⟨none, rfl, rfl⟩ | ⟨b, burst, -, -, rfl, rfl⟩
    · rw [Port.takeTransition_first none, if_pos (by omega)]
    · rw [Port.takeTransition_inside burst, if_pos (by omega)]
  have taken := State.receive_eq (takenTransition_odd odd last) runs inTime
  rw [command]
  refine ⟨fun g hg => ⟨?_, ?_⟩, fun none => ?_⟩
  · obtain ⟨a, h, low, high, -⟩ := hg
    omega
  · have split : findSplit (x.timed read m).decoder.working = some g := findSplit_iff.mpr hg
    exact State.take_updPort_open (y := { x with
      decoder := decoder, status := { x.status with pubMap := m, split := g, lastFailed := false } }) working closed taken
      (judged.trans (Port.endWindow_found split)) rfl
  · have split : findSplit (x.timed read m).decoder.working = Option.none := by
      rw [Option.eq_none_iff_forall_ne_some]
      exact fun g hg => none g (findSplit_iff.mp hg)
    exact State.take_updPort_open (y := { x with
      decoder := decoder
      news := if x.status.lastFailed = true then x.news else x.news ||| 16
      status := { x.status with pubMap := m, lastFailed := true, failedSince := true } }) working closed taken
      (judged.trans (Port.endWindow_failed split)) rfl

end Sys2Proof.Machine

namespace Sys2Proof.Machine

/-! ## Sequences and attempts, as they move a port (R7 to R17) -/

theorem Port.alike_edited (x : Port) : x.edited.Alike x := rfl

theorem Port.alike_of_eq {x y : Port} (h : x = y) : x.Alike y := h ▸ .refl x

namespace Moves
variable {o : Bool} {b t : State} {p : PortNo} {y : Port}

/-- y may be written with another edit count. -/
theorem alike {y' : Port} (h : Moves o b t p y) (e : y.Alike y') : Moves o b t p y' := by
  obtain ⟨z, eq, alike, edits, open_⟩ := h
  exact ⟨z, eq, alike.trans e, edits, open_⟩

/-- At the close, a port that counts its edit already is that port. -/
theorem close_counted {y' : Port} (h : Moves true b t p y) (closed : b.editsClosed) (e : y.Alike y')
    (count : y'.editCount = (b.port p).editCount + 2) : t.closeEdits = b.setPort p y' := by
  rw [h.close closed, ← count]
  congr 1
  rw [e]

theorem settled (h : Moves o b t p y) (waits : y.settled) : (t.port p).settled := by
  rw [Port.settled, h.jobs, h.status]
  exact waits

/-- Nothing starts where nothing waits (R143). -/
theorem startJobs_settled (h : Moves o b t p y) (waits : y.settled) : Moves o b (t.startJobs p) p y := by
  rw [State.startJobs_settled (h.settled waits)]
  exact h

/-- A sequence that no TRAIN job began ends without a cell (R10). -/
theorem endTrain_other (h : Moves o b t p y) (other : y.runsTrain = false) (out : JobOutcome) :
    Moves o b (t.endTrain p out) p y := by
  rw [State.endTrain_other (h.runsTrain.trans other)]
  exact h

end Moves

/-! ### What a port keeps through a sequence's start -/

theorem Port.withdrawn_none {x : Port} (h : x.request = none) : x.withdrawn = x := by
  unfold Port.withdrawn
  rw [if_pos h, ← h]

theorem Port.enter_quiet (x : Port) (st : PortState)
    (h : st = .disabled ∨ st = .check ∨ st = .backoff ∨ st = .roleHold ∨ st = .cableHold ∨ st = .idle ∨ st = .probe) :
    x.enter st = x.leftFor st := by
  refine x.enter_eq_leftFor ?_ ?_ <;> rcases h with rfl | rfl | rfl | rfl | rfl | rfl | rfl <;> rfl

theorem Port.beginBackoff_alike (x : Port) :
    (x.beginBackoff (Config.backoffUnit * max x.status.attempts 1)).Alike x.deferred :=
  (Port.alike_edited _).symm.trans (Port.alike_of_eq x.edited_beginBackoff)

theorem Port.beginAttempt_alike (x : Port) : x.beginAttempt.Alike x.attemptBegun :=
  (Port.alike_edited _).symm.trans (Port.alike_of_eq x.edited_beginAttempt)

/-- The offer and qualified sets meet. -/
def Port.setsMeet (x : Port) : Prop := x.status.offerSet &&& x.status.qualSet ≠ 0

namespace Moves
variable {o : Bool} {b t : State} {p : PortNo} {y : Port}

/-- The start of an attempt (R8), where no TRAIN job ends with it. -/
theorem startAttempt (h : Moves o b t p y) (stays : y.runsTrain = false ∨ y.setsMeet) :
    Moves o b (t.startAttempt p) p (y.attemptStarted (b.isReady (quadOf p))) := by
  have sets : (t.port p).status.qualSet &&& (t.port p).status.offerSet = y.status.offerSet &&& y.status.qualSet := by
    rw [h.status, BitVec.and_comm]
  rw [State.startAttempt, sets, h.isReady, Port.attemptStarted]
  by_cases apart : y.status.offerSet &&& y.status.qualSet = 0
  · rw [if_pos apart, if_pos apart]
    have other : y.runsTrain = false := stays.resolve_right fun meet => meet apart
    exact ((h.enterState .cableHold).endTrain_other other .cableFault).alike
      ((Port.alike_of_eq (y.enter_quiet _ (by simp))).trans (Port.alike_edited _).symm)
  · rw [if_neg apart, if_neg apart]
    by_cases ready : b.isReady (quadOf p) = true
    · rw [if_pos ready, if_pos ready]
      exact (h.upd (f := Port.beginAttempt) fun _ _ => rfl).alike y.beginAttempt_alike
    · rw [if_neg ready, if_neg ready, h.status]
      exact (h.upd (f := fun x => x.beginBackoff (Config.backoffUnit * max y.status.attempts 1)) fun _ _ => rfl).alike
        y.beginBackoff_alike

/-- A sequence begins (R7, R8), where no TRAIN job ends with it. -/
theorem beginSequence (h : Moves o b t p y) (byWatch : Bool)
    (stays : (y.prof.precheck = true ∧ byWatch = false) ∨ y.runsTrain = false ∨ y.setsMeet) :
    Moves o b (t.beginSequence p byWatch) p (y.sequenceStarted (b.isReady (quadOf p)) byWatch) := by
  have begun := h.withdraw.upd (f := Port.sequenceBegun) fun _ _ => rfl
  have through : (((t.withdraw p).updPort p Port.sequenceBegun).port p).prof.precheck =
      y.withdrawn.sequenceBegun.prof.precheck := by
    rw [begun.prof]
  show Moves o b (if (((t.withdraw p).updPort p Port.sequenceBegun).port p).prof.precheck && !byWatch
    then (((t.withdraw p).updPort p Port.sequenceBegun).enterState p .check).post p .precheck
    else ((t.withdraw p).updPort p Port.sequenceBegun).startAttempt p) p _
  rw [through, Port.sequenceStarted]
  by_cases checks : y.withdrawn.sequenceBegun.prof.precheck = true ∧ byWatch = false
  · rw [if_pos (by simp [checks.1, checks.2]), if_pos checks]
    exact ((begun.enterState .check).post .precheck).alike rfl
  · rw [if_neg (by simpa using checks), if_neg checks]
    exact begun.startAttempt (stays.resolve_left checks)

end Moves

/-! ### What a sequence's start leaves of its port -/

theorem Port.attemptStarted_parts (x : Port) (ready : Bool) :
    (x.attemptStarted ready).editCount = x.editCount + 2 ∧ (x.attemptStarted ready).jobs = x.jobs ∧
      (x.attemptStarted ready).status.running = x.status.running ∧
      ((x.attemptStarted ready).status.state = .cableHold ∨ (x.attemptStarted ready).status.state = .offer ∨
        (x.attemptStarted ready).status.state = .backoff) := by
  unfold Port.attemptStarted
  split_ifs
  · exact ⟨rfl, rfl, rfl, .inl rfl⟩
  · exact ⟨rfl, rfl, rfl, .inr (.inl rfl)⟩
  · exact ⟨rfl, rfl, rfl, .inr (.inr rfl)⟩

theorem Port.sequenceStarted_parts (x : Port) (ready byWatch : Bool) :
    (x.sequenceStarted ready byWatch).editCount = x.editCount + 2 ∧
      (x.sequenceStarted ready byWatch).jobs = x.jobs ∧
      (x.sequenceStarted ready byWatch).status.running = x.status.running ∧
      ((x.sequenceStarted ready byWatch).status.state = .check ∨
        (x.sequenceStarted ready byWatch).status.state = .cableHold ∨
        (x.sequenceStarted ready byWatch).status.state = .offer ∨
        (x.sequenceStarted ready byWatch).status.state = .backoff) := by
  unfold Port.sequenceStarted
  dsimp only
  split_ifs
  · exact ⟨rfl, rfl, rfl, .inl rfl⟩
  · obtain ⟨count, jobs, running, state⟩ := x.withdrawn.sequenceBegun.attemptStarted_parts ready
    exact ⟨count, jobs, running, .inr state⟩

theorem Port.settled_sequenceStarted {x : Port} (h : x.settled) (ready byWatch : Bool) :
    (x.sequenceStarted ready byWatch).settled := by
  obtain ⟨-, jobs, running, -⟩ := x.sequenceStarted_parts ready byWatch
  rw [Port.settled, jobs, running]
  exact h

theorem Port.settled_attemptStarted {x : Port} (h : x.settled) (ready : Bool) : (x.attemptStarted ready).settled := by
  obtain ⟨-, jobs, running, -⟩ := x.attemptStarted_parts ready
  rw [Port.settled, jobs, running]
  exact h

/-- A start of a sequence from another state than it leads to edits the page once. -/
theorem Moves.close_sequence {o : Bool} {b t : State} {p : PortNo} {y : Port} {ready byWatch : Bool}
    (h : Moves o b t p (y.sequenceStarted ready byWatch)) (closed : b.editsClosed)
    (count : y.editCount = (b.port p).editCount)
    (other : (b.port p).status.state ≠ .check ∧ (b.port p).status.state ≠ .cableHold ∧
      (b.port p).status.state ≠ .offer ∧ (b.port p).status.state ≠ .backoff) :
    t.closeEdits = b.setPort p (y.sequenceStarted ready byWatch) := by
  obtain ⟨edits, -, -, state⟩ := y.sequenceStarted_parts ready byWatch
  refine (h.opened (Port.samePage_of_status_ne fun e => ?_)).close_counted closed (.refl _) (edits.trans (by rw [count]))
  have same := congrArg Status.state e
  obtain ⟨h1, h2, h3, h4⟩ := other
  rcases state with state | state | state | state <;> rw [state] at same
  · exact h1 same
  · exact h2 same
  · exact h3 same
  · exact h4 same

end Sys2Proof.Machine

namespace Sys2Proof.Machine

/-! ### Attempts that fail (R10, R73) -/

/-- The resolved rate charged, where the failure is charged to it (R10, R73). -/
def Port.chargedFor (x : Port) (why : AttemptResult) : Port := if why.charged = true then x.charge x.link.rate else x

theorem Port.chargedFor_eq (x : Port) (why : AttemptResult) : x.chargedFor why = { x with status := { x.status with
    failCounts := (x.chargedFor why).status.failCounts, offerSet := (x.chargedFor why).status.offerSet
    downshifts := (x.chargedFor why).status.downshifts, counters := (x.chargedFor why).status.counters } } := by
  unfold Port.chargedFor
  split_ifs
  · exact x.charge_eq _
  · rfl

/-- The result written, then the charge, is the charge, then the result. -/
theorem Port.charge_failed (x : Port) (why : AttemptResult) (r : Rate) :
    Port.charge { x with status := { x.status with lastResult := why } } r =
      { x.charge r with status := { (x.charge r).status with lastResult := why } } := by
  have due : Port.downshiftDue { x with status := { x.status with
      lastResult := why, failCounts := x.status.failCounts.set r.code (satInc x.status.failCounts[r.code]) } } r =
      Port.downshiftDue { x with status := { x.status with
        failCounts := x.status.failCounts.set r.code (satInc x.status.failCounts[r.code]) } } r := rfl
  unfold Port.charge
  dsimp only
  rw [due]
  split_ifs <;> rfl

/-- A charge reads and writes the status, by the profile and the cap of the rates (R73, R74). -/
theorem Port.charge_of_same {x y : Port} (status : y.status = x.status) (profile : y.profile = x.profile)
    (cap : y.capRemoved = x.capRemoved) (r : Rate) : y.charge r = { y with status := (x.charge r).status } := by
  have due : ∀ st : Status, Port.downshiftDue { y with status := st } r = Port.downshiftDue { x with status := st } r :=
    fun st => by
      unfold Port.downshiftDue Port.prof
      rw [profile, cap]
  unfold Port.charge
  dsimp only
  rw [due, status]
  split_ifs <;> rfl

theorem Port.charge_lockDown (x : Port) (r : Rate) :
    ({ x with lockUp := false } : Port).charge r = { x.charge r with lockUp := false } := by
  have own : x.charge r = { x with status := (x.charge r).status } := Port.charge_of_same rfl rfl rfl r
  rw [Port.charge_of_same (x := x) (y := { x with lockUp := false }) rfl rfl rfl r]
  exact congrArg (fun z : Port => { z with lockUp := false }) own.symm

theorem Port.chargedFor_charged {why : AttemptResult} (h : why.charged = true) (x : Port) :
    x.chargedFor why = x.charge x.link.rate := if_pos h

/-- The outcome of the TRAIN job whose sequence a failure ends (R10). -/
def AttemptResult.outcome (why : AttemptResult) : JobOutcome :=
  if why = .noCommonRate then .noCommonRate else if why = .noPartner then .noPartner else .gaveUp

/-- A failure ends the sequence (R10). -/
def Port.endsSequence (x : Port) (why : AttemptResult) : Prop :=
  why = .noCommonRate ∨ why = .noPartner ∧ x.prof.autoRetrain = false ∨ x.prof.attemptLimit ≤ x.status.attempts

namespace Moves
variable {o : Bool} {b t : State} {p : PortNo} {y : Port}

/-- The port as a failure finds it, its result written and its rate charged. -/
theorem failing (h : Moves o b t p y) (why : AttemptResult) :
    let failed := t.updPort p fun x => { x with status := { x.status with lastResult := why } }
    let charged := if why.charged then failed.chargeRate p else failed
    Moves o b charged p { y.chargedFor why with status := { (y.chargedFor why).status with lastResult := why } } := by
  intro failed charged
  have h1 : Moves o b failed p { y with status := { y.status with lastResult := why } } :=
    h.upd (f := fun x => { x with status := { x.status with lastResult := why } }) fun _ _ => rfl
  simp only [charged, Port.chargedFor]
  split_ifs with c
  · exact h1.chargeRate.as (Port.charge_failed y why y.link.rate)
  · exact h1

theorem failAttempt_retry (h : Moves o b t p y) {why : AttemptResult} (left : ¬ y.endsSequence why) :
    Moves o b (t.failAttempt p why) p ((y.chargedFor why).backedOff why) := by
  have h1 := h.failing why
  dsimp only at h1
  rw [State.failAttempt]
  dsimp only
  generalize (if why.charged = true then State.chargeRate _ p else _) = u at h1 ⊢
  have prof : (u.port p).prof = y.prof := by
    rw [h1.prof, Port.chargedFor_eq]
    rfl
  have attempts : (u.port p).status.attempts = y.status.attempts := by
    rw [h1.status, Port.chargedFor_eq]
  rw [Port.endsSequence, not_or, not_or] at left
  obtain ⟨common, partner, room⟩ := left
  rw [if_neg common, prof, attempts, if_neg (by simpa using partner), if_neg room]
  refine (h1.upd (f := fun x => x.beginBackoff (Config.backoffUnit * y.status.attempts)) fun _ _ => rfl).alike ?_
  rw [Port.chargedFor_eq]
  rfl

/-- Where the failure ends the sequence the port is in IDLE, and the job that began it is left to end (R10). -/
theorem failAttempt_ends (h : Moves o b t p y) {why : AttemptResult} (final : y.endsSequence why) :
    ∃ u, t.failAttempt p why = u.endTrain p why.outcome ∧ Moves o b u p ((y.chargedFor why).failedInto why .idle) := by
  have h1 := h.failing why
  dsimp only at h1
  rw [State.failAttempt]
  dsimp only
  generalize (if why.charged = true then State.chargeRate _ p else _) = u at h1 ⊢
  have prof : (u.port p).prof = y.prof := by
    rw [h1.prof, Port.chargedFor_eq]
    rfl
  have attempts : (u.port p).status.attempts = y.status.attempts := by
    rw [h1.status, Port.chargedFor_eq]
  refine ⟨u.enterState p .idle, ?_, (h1.enterState .idle).as ?_⟩
  · rw [prof, attempts, AttemptResult.outcome]
    by_cases common : why = .noCommonRate
    · rw [if_pos common, if_pos common]
      rfl
    · rw [if_neg common, if_neg common]
      by_cases partner : why = .noPartner ∧ y.prof.autoRetrain = false
      · rw [if_pos (by simp [partner.1, partner.2]), if_pos partner.1]
        rfl
      · have limit : y.prof.attemptLimit ≤ y.status.attempts := (final.resolve_left common).resolve_left partner
        rw [if_neg (by simpa using partner), if_pos limit]
        split_ifs <;> rfl
  · rw [Port.enter_quiet _ _ (by simp), Port.chargedFor_eq]
    rfl

/-- A link dropped goes on in a new sequence or into IDLE (R22, R80), where no TRAIN job ends with it. -/
theorem retrainOrIdle (h : Moves o b t p y)
    (stays : y.prof.precheck = true ∨ y.runsTrain = false ∨ y.setsMeet) :
    Moves o b (t.retrainOrIdle p) p
      (if y.prof.autoRetrain = true then y.sequenceStarted (b.isReady (quadOf p)) false else y.leftFor .idle) := by
  rw [State.retrainOrIdle, h.prof]
  split_ifs
  · exact h.beginSequence false (stays.imp_left fun checks => ⟨checks, rfl⟩)
  · exact (h.enterState .idle).as (y.enter_quiet _ (by simp))

end Moves

/-! ### Attempts that back off (O26) -/

/-- A lock fall in WINDOW fails the attempt (R70). -/
theorem State.lockFalls_inWindow {s : State} {p : PortNo} (state : (s.port p).status.state = .verify)
    (sub : (s.port p).status.sub = .window) (up : (s.port p).lockUp = true) (free : s.engineOf p = none) :
    s.lockFalls p = ((s.updPort p fun x => { x with lockUp := false }).failAttempt p .lockLostInVerify).startJobs p := by
  rw [State.lockFalls, if_neg, if_pos state, if_pos sub]
  simp only [State.lineIsData, free, state, up]
  decide

/-- Settles O26: each of the four events fails the attempt, which has attempts left. -/
theorem failedAttemptBacksOff : Obligations.FailedAttemptBacksOff := by
  unfold Obligations.FailedAttemptBacksOff
  intro s p working closed waits left x charged
  have backsOff : ∀ {t : State} {y : Port} {why : AttemptResult}, Moves false s t p y → y.settled →
      y.prof = x.prof → y.status.attempts = x.status.attempts → y.editCount = x.editCount → x.status.state ≠ .backoff →
      (why = .noCommonRate → False) → (why = .noPartner → x.prof.autoRetrain = true) →
      ((t.failAttempt p why).startJobs p).closeEdits = s.setPort p ((y.chargedFor why).backedOff why) := by
    intro t y why h settled prof attempts count state common partner
    have goesOn : ¬ y.endsSequence why := by
      rintro (e | ⟨e, off⟩ | limit)
      · exact common e
      · rw [prof, partner e] at off
        cases off
      · rw [prof, attempts] at limit
        exact absurd limit (Nat.not_le.mpr left)
    have h1 := h.failAttempt_retry goesOn
    have jobs : ((y.chargedFor why).backedOff why).settled := by
      rw [Port.chargedFor_eq]
      exact settled
    refine (((h1.startJobs_settled jobs).opened (Port.samePage_of_status_ne fun e => ?_)).close_counted closed (.refl _) ?_)
    · exact state (congrArg Status.state e)
    · rw [Port.chargedFor_eq]
      show y.editCount + 2 = _
      rw [count]
  refine ⟨fun state due retrain => ?_, fun state due => ?_, fun state sub up free => ?_, fun state due bad => ?_⟩
  · have taken : exec (.offerTimeout p) s = s.take fun s => s.ifRunning fun s => s.offerTimeout p := rfl
    rw [taken, State.take_working working, State.offerTimeout, if_pos (by simp [x] at state due; simp [state, due])]
    exact congrArg _ (backsOff (why := .noPartner) (Moves.start s p) waits rfl rfl rfl (by simp [state]) nofun
      fun _ => retrain)
  · have taken : exec (.lockTimeout p) s = s.take fun s => s.ifRunning fun s => s.lockTimeout p := rfl
    rw [taken, State.take_working working, State.lockTimeout, if_pos (by simp [x] at state due; simp [state, due])]
    exact congrArg _ (backsOff (why := .lockTimeout) (Moves.start s p) waits rfl rfl rfl (by simp [state]) nofun nofun)
  · have taken : exec (.lockFall p) s = s.take fun s => s.ifRunning fun s => s.lockFalls p := rfl
    have down := Moves.first s p (f := fun x => { x with lockUp := false }) fun _ _ => rfl
    have same : (charged.backedOff .lockLostInVerify) =
        (({ x with lockUp := false } : Port).chargedFor .lockLostInVerify).backedOff .lockLostInVerify := by
      rw [Port.chargedFor_charged rfl]
      show _ = (Port.charge { x with lockUp := false } x.link.rate).backedOff _
      rw [Port.charge_lockDown]
      rfl
    rw [taken, State.take_working working, State.lockFalls_inWindow state sub up free, same]
    exact congrArg _ (backsOff down waits rfl rfl rfl (by simp [state]) nofun nofun)
  · have taken : exec (.verifyWindowEnd p) s = s.take fun s => s.ifRunning fun s => s.verifyWindowEnd p := rfl
    have ends : s.verifyWindowEnd p = (s.failAttempt p .verifyErrors).startJobs p := by
      rw [State.verifyWindowEnd, if_pos (by simp [x] at state due; simp [state, due]), if_neg (Nat.not_le.mpr bad)]
    rw [taken, State.take_working working, ends]
    exact congrArg _ (backsOff (why := .verifyErrors) (Moves.start s p) waits rfl rfl rfl (by simp [state]) nofun nofun)

/-! ### The role hold (O30) -/

/-- Settles O30: the expiry leaves ROLE_HOLD only with auto-retrain on. -/
theorem roleHoldExpiryBeginsSequence : Obligations.RoleHoldExpiryBeginsSequence := by
  unfold Obligations.RoleHoldExpiryBeginsSequence
  intro s p working closed x state due
  have taken : exec (.roleHoldExpiry p) s = s.take fun s => s.ifRunning fun s => s.roleHoldExpiry p := rfl
  have expires : s.roleHoldExpiry p = if x.prof.autoRetrain = true then (s.beginSequence p false).startJobs p
      else s.updPort p fun x => { x with timers := { x.timers with roleHold := none } } := by
    rw [State.roleHoldExpiry, if_pos (by simp [x] at state due; simp [state, due])]
  have begins : x.prof.autoRetrain = true → x.settled →
      (x.prof.precheck = true ∧ false = false ∨ x.runsTrain = false ∨ x.setsMeet) →
      exec (.roleHoldExpiry p) s = .next (s.setPort p (x.sequenceStarted (s.isReady (quadOf p)) false)) := by
    intro retrain waits stays
    have h1 := ((Moves.start s p).beginSequence false stays).startJobs_settled (Port.settled_sequenceStarted waits _ _)
    rw [taken, State.take_working working, expires, if_pos retrain, h1.close_sequence closed rfl]
    rw [show (s.port p).status.state = .roleHold from state]
    decide
  refine ⟨fun off => ?_, fun retrain waits none => ⟨fun checks => ?_, fun skips meet ready => ?_⟩, fun retrain jobless => ?_⟩
  · rw [if_neg (by simp [off])] at expires
    rw [taken]
    exact State.take_updPort_same working closed expires rfl rfl (Port.samePage_of_eq rfl rfl rfl rfl rfl)
  · have checking : x.sequenceStarted (s.isReady (quadOf p)) false = x.sequenceBegun.checking := by
      rw [Port.sequenceStarted, Port.withdrawn_none none]
      exact if_pos ⟨checks, rfl⟩
    rw [begins retrain waits (.inl ⟨checks, rfl⟩), checking]
  · have begun : x.sequenceStarted (s.isReady (quadOf p)) false = x.sequenceBegun.attemptBegun := by
      rw [Port.sequenceStarted, Port.withdrawn_none none, ready, if_neg, Port.attemptStarted]
      · exact (if_neg meet).trans (if_pos rfl)
      · rintro ⟨checks, -⟩
        exact Bool.false_ne_true (skips.symm.trans checks)
    rw [begins retrain waits (.inr (.inr meet)), begun]
  · exact begins retrain (.inl jobless.1) (.inr (.inl (Port.runsTrain_jobless jobless)))

end Sys2Proof.Machine

namespace Sys2Proof.Machine

/-! ## Lock changes and error events (R65 to R69, R77 to R79) -/

theorem PortState.isData_iff (st : PortState) : st.isData = true ↔ st = .verify ∨ st = .linked := by
  cases st <;> decide

theorem State.lineIsData_eq (s : State) (p : PortNo) :
    s.lineIsData p = true ↔ ((s.port p).status.state = .verify ∨ (s.port p).status.state = .linked) ∧ s.engineOf p = none := by
  rw [State.lineIsData, Bool.and_eq_true, PortState.isData_iff, Option.isNone_iff_eq_none]

/-- One error event on the total (R79). -/
theorem Port.addError_eq (x : Port) : x.addError = { x with
    errTotal := x.errTotal + 1, news := if x.errTotal + 1 = 0 then x.news ||| 0x80 else x.news } := by
  unfold Port.addError
  dsimp only
  split_ifs <;> rfl

/-- While the line mode is not DATA locks and errors are discarded (R1). -/
theorem State.discards_of_noData {s : State} {p : PortNo} (h : s.lineIsData p = false) :
    s.lockRises p = s ∧ s.lockFalls p = s ∧ s.takeError p = s := by
  have off : (!s.lineIsData p) = true := by rw [h]; rfl
  refine ⟨?_, ?_, ?_⟩
  · rw [State.lockRises, if_pos (by rw [off]; rfl)]
  · rw [State.lockFalls, if_pos (by rw [off]; rfl)]
  · rw [State.takeError, if_pos off]

/-- Settles O42, by state and phase. -/
theorem lockAndErrorEvents : Obligations.LockAndErrorEvents := by
  unfold Obligations.LockAndErrorEvents
  intro s p working closed x total news
  have rise : exec (.lockRise p) s = s.take fun s => s.ifRunning fun s => s.lockRises p := rfl
  have fall : exec (.lockFall p) s = s.take fun s => s.ifRunning fun s => s.lockFalls p := rfl
  have error : exec (.errorEvent p) s = s.take fun s => s.ifRunning fun s => s.takeError p := rfl
  have offline_of : x.status.state = .verify ∨ x.status.state = .linked → s.engineOf p = none →
      (!s.lineIsData p) = false := fun state free => by
    rw [(s.lineIsData_eq p).mpr ⟨state, free⟩]
    rfl
  rw [rise, fall, error]
  refine ⟨fun noVerify noLinked => ?_, fun free verify wait => ?_, fun free verify window => ?_, fun free linked => ?_⟩
  · have noData : s.lineIsData p = false := by
      rw [← Bool.not_eq_true, State.lineIsData_eq]
      exact fun h => h.1.elim noVerify noLinked
    obtain ⟨noRise, noFall, noError⟩ := State.discards_of_noData noData
    exact ⟨State.take_idle working closed noRise, State.take_idle working closed noFall,
      State.take_idle working closed noError⟩
  · have online := offline_of (.inl verify) free
    have state : (s.port p).status.state = .verify := verify
    have sub : (s.port p).status.sub = .lockWait := wait
    refine ⟨State.take_idle working closed ?_, fun down => ?_⟩
    · rw [State.takeError, if_neg (by rw [online]; decide), if_neg (by rw [state]; decide), if_neg (by rw [sub]; decide)]
    · have rises : s.lockRises p = s.updPort p fun x => { x with
          lockUp := true
          status := { x.status with sub := .window }
          monitor := { x.monitor with verifyCount := 0 }
          timers := { Timers.stopped with verify := some x.prof.verifyWindow } } := by
        rw [State.lockRises, if_neg (by rw [online, show (s.port p).lockUp = false from down]; decide), if_pos state,
          if_pos sub]
      refine (State.take_updPort_changed (y := { x with
        lockUp := true
        status := { x.status with sub := .window }
        monitor := { x.monitor with verifyCount := 0 }
        timers := ⟨none, none, none, some x.prof.verifyWindow, none, none, none, none⟩ }) working closed rises rfl rfl
        (Port.samePage_of_status_ne fun e => ?_)).trans rfl
      have same := congrArg Status.sub e
      rw [sub] at same
      cases same
  · have online := offline_of (.inl verify) free
    have state : (s.port p).status.state = .verify := verify
    have sub : (s.port p).status.sub = .window := window
    have counts : s.takeError p = s.updPort p fun x =>
        { x with monitor := { x.monitor with verifyCount := satInc x.monitor.verifyCount } }.addError := by
      rw [State.takeError, if_neg (by rw [online]; decide), if_neg (by rw [state]; decide), if_pos sub]
    refine State.take_updPort_same working closed counts ?_ rfl (Port.samePage_of_eq rfl rfl rfl rfl rfl)
    rw [Port.addError_eq, satInc_eq_oneMore]
  · have online := offline_of (.inr linked) free
    have state : (s.port p).status.state = .linked := linked
    refine ⟨?_, fun up => ?_, fun down => ?_⟩
    · have counts : s.takeError p = s.updPort p fun x =>
          { x with monitor := { x.monitor with count := satInc x.monitor.count } }.addError := by
        rw [State.takeError, if_neg (by rw [online]; decide), if_pos state]
      refine State.take_updPort_same working closed counts ?_ rfl (Port.samePage_of_eq rfl rfl rfl rfl rfl)
      rw [Port.addError_eq, satInc_eq_oneMore]
    · have falls : s.lockFalls p = s.updPort p fun x =>
          { x with lockUp := false, timers := { x.timers with drop := some x.prof.dropHold } } := by
        rw [State.lockFalls, if_neg (by rw [online, show (s.port p).lockUp = true from up]; decide),
          if_neg (by rw [state]; decide)]
      exact State.take_updPort_same working closed falls rfl rfl (Port.samePage_of_eq rfl rfl rfl rfl rfl)
    · have rises : s.lockRises p = s.updPort p fun x =>
          (({ x with lockUp := true, timers := { x.timers with drop := none } }.bump .lockBlips).publishTotals).openEdit := by
        rw [State.lockRises, if_neg (by rw [online, show (s.port p).lockUp = false from down]; decide),
          if_neg (by rw [state]; decide)]
      refine (State.take_updPort_open (y := { x.counted 10 with
        lockUp := true
        timers := { x.timers with drop := none }
        status := { (x.counted 10).status with errPub := x.errTotal, unlockPub := x.unlockTotal } }) working closed rises ?_
        rfl).trans rfl
      rw [Port.bump_eq_counted]
      rfl

/-! ## The link monitor (R77, R78, R80) -/

/-- The port without what the entry of a state and the start of a sequence write anew. -/
def Port.bare (x : Port) : Port := { x with
  timers := Timers.stopped, sender := Sender.stopped, lockUp := false, monitor := Monitor.zero, exch := Exchange.start
  status := { x.status with state := .disabled, sub := .none, errPub := 0, unlockPub := 0, lastResult := .none } }

theorem Port.attemptStarted_bare (x : Port) (ready : Bool) (result : x.status.lastResult = .none) :
    x.attemptStarted ready = x.bare.attemptStarted ready := by
  have own : x.status = { x.status with lastResult := .none } := by rw [← result]
  have result' : x = { x with status := { x.status with lastResult := .none } } := congrArg (fun st => { x with status := st }) own
  unfold Port.attemptStarted
  by_cases apart : x.status.offerSet &&& x.status.qualSet = 0
  · rw [if_pos apart, if_pos (show x.bare.status.offerSet &&& x.bare.status.qualSet = 0 from apart), result']
    rfl
  · rw [if_neg apart, if_neg (show ¬ x.bare.status.offerSet &&& x.bare.status.qualSet = 0 from apart), result']
    split_ifs <;> rfl

/-- A sequence starts from the bare port. -/
theorem Port.sequenceStarted_bare (x : Port) (ready byWatch : Bool) :
    x.sequenceStarted ready byWatch = x.bare.sequenceStarted ready byWatch := by
  have begun : x.bare.withdrawn.sequenceBegun = x.withdrawn.sequenceBegun.bare := rfl
  have same : x.bare.withdrawn.sequenceBegun.prof = x.withdrawn.sequenceBegun.prof := rfl
  unfold Port.sequenceStarted
  dsimp only
  rw [same, begun, Port.attemptStarted_bare _ _ rfl]
  split_ifs <;> rfl

theorem Port.sequenceStarted_congr {x y : Port} (h : x.bare = y.bare) (ready byWatch : Bool) :
    x.sequenceStarted ready byWatch = y.sequenceStarted ready byWatch := by
  rw [x.sequenceStarted_bare, y.sequenceStarted_bare, h]

/-- The monitor stopped and the totals published, which the port's next state writes anew. -/
def Port.silenced (x : Port) (err unlock : BitVec 32) : Port := { x with
  timers := Timers.stopped, monitor := Monitor.zero, status := { x.status with errPub := err, unlockPub := unlock } }

@[simp] theorem Port.silenced_bare (x : Port) (err unlock : BitVec 32) : (x.silenced err unlock).bare = x.bare := rfl

@[simp] theorem Port.silenced_leftFor (x : Port) (err unlock : BitVec 32) (st : PortState) :
    (x.silenced err unlock).leftFor st = x.leftFor st := rfl

@[simp] theorem Port.silenced_prof (x : Port) (err unlock : BitVec 32) : (x.silenced err unlock).prof = x.prof := rfl

@[simp] theorem Port.silenced_jobless (x : Port) (err unlock : BitVec 32) :
    (x.silenced err unlock).jobless ↔ x.jobless := .rfl

theorem Port.silenced_charge (x : Port) (r : Rate) (err unlock : BitVec 32) :
    (x.silenced err unlock).charge r = (x.charge r).silenced err unlock := by
  have due : Port.downshiftDue { x.silenced err unlock with status := { (x.silenced err unlock).status with
        failCounts := x.status.failCounts.set r.code (satInc x.status.failCounts[r.code]) } } r =
      Port.downshiftDue { x with status := { x.status with
        failCounts := x.status.failCounts.set r.code (satInc x.status.failCounts[r.code]) } } r := rfl
  unfold Port.charge
  dsimp only
  by_cases h : Port.downshiftDue { x with status := { x.status with
      failCounts := x.status.failCounts.set r.code (satInc x.status.failCounts[r.code]) } } r = true
  · rw [if_pos h]
    exact if_pos (due.trans h)
  · rw [if_neg h]
    exact if_neg fun h' => h (due.symm.trans h')

/-- A dropped link, but for what its next state writes anew. -/
theorem Port.linkDropped_silenced {x : Port} (h : x.history.length ≤ 4) (tick : Ticks) (why : DownReason) :
    x.linkDropped tick why = (x.dropped tick why x.link).silenced x.errTotal x.unlockTotal :=
  Port.linkDropped_eq_dropped h tick why

@[simp] theorem Port.dropped_prof (x : Port) (tick : Ticks) (why : DownReason) (l : Link) :
    (x.dropped tick why l).prof = x.prof := rfl

@[simp] theorem Port.charge_prof (x : Port) (r : Rate) : (x.charge r).prof = x.prof := by
  rw [Port.charge_eq]
  rfl

/-- A jobless port of a dropped link goes on in one edit: a new sequence, or IDLE (R22, R80). -/
theorem Moves.close_dropped {s t : State} {p : PortNo} {z : Port} {err unlock : BitVec 32}
    (h : Moves false s t p (z.silenced err unlock)) (closed : s.editsClosed) (jobless : z.jobless)
    (linked : (s.port p).status.state = .linked) (count : z.editCount = (s.port p).editCount) :
    ((t.retrainOrIdle p).startJobs p).closeEdits = s.setPort p
      (if z.prof.autoRetrain = true then z.sequenceStarted (s.isReady (quadOf p)) false else (z.leftFor .idle).edited) := by
  have h1 := h.retrainOrIdle (.inr (.inl (Port.runsTrain_jobless jobless)))
  rw [Port.silenced_prof, Port.silenced_leftFor, Port.sequenceStarted_congr (z.silenced_bare err unlock)] at h1
  split_ifs at h1 ⊢ with retrain
  · exact (h1.startJobs_settled (Port.settled_sequenceStarted (.inl jobless.1) _ _)).close_sequence closed count
      (by rw [linked]; decide)
  · refine ((h1.startJobs_settled (.inl jobless.1)).opened (Port.samePage_of_status_ne fun e => ?_)).close_counted
      closed rfl (congrArg (· + 2) count)
    have same := congrArg Status.state e
    rw [linked] at same
    cases same

/-- Settles O44: a window is judged, and a drop leaves the port by `close_dropped`. -/
theorem linkMonitorKeepsOrDropsLink : Obligations.LinkMonitorKeepsOrDropsLink := by
  unfold Obligations.LinkMonitorKeepsOrDropsLink
  intro s p working closed short jobless x next goesOn linked
  have state : (s.port p).status.state = .linked := linked
  refine ⟨fun due => ?_, fun due => ?_⟩
  · have taken : exec (.monitorWindowEnd p) s = s.take fun s => s.ifRunning fun s => s.monitorWindowEnd p := rfl
    have judged : s.monitorWindowEnd p =
        if x.prof.monitorThreshold ≤ x.monitor.count.toNat ∧ x.prof.badLimit ≤ x.monitor.badRun + 1 then
          (((s.dropLink p .errors).chargeRate p).retrainOrIdle p).startJobs p
        else s.updPort p fun y => ({ y with
          monitor := { y.monitor with
            count := 0, badRun := if x.prof.monitorThreshold ≤ x.monitor.count.toNat then x.monitor.badRun + 1 else 0 }
          timers := { y.timers with monitor := some y.prof.monitorWindow } }.publishTotals).openEdit := by
      rw [State.monitorWindowEnd, if_pos (by simp [x] at due; simp [state, due])]
      by_cases bad : x.prof.monitorThreshold ≤ x.monitor.count.toNat
      · simp only [x] at bad ⊢
        simp [bad]
      · simp only [x] at bad ⊢
        simp [bad]
    have stays : ∀ run, (if x.prof.monitorThreshold ≤ x.monitor.count.toNat then x.monitor.badRun + 1 else 0) = run →
        ¬ (x.prof.monitorThreshold ≤ x.monitor.count.toNat ∧ x.prof.badLimit ≤ x.monitor.badRun + 1) →
        exec (.monitorWindowEnd p) s = .next (s.setPort p (next run)) := by
      intro run hrun keeps
      rw [if_neg keeps, hrun] at judged
      rw [taken]
      exact (State.take_updPort_open (y := { x with
        monitor := { x.monitor with count := 0, badRun := run }
        timers := { x.timers with monitor := some x.prof.monitorWindow }
        status := { x.status with errPub := x.errTotal, unlockPub := x.unlockTotal } }) working closed judged rfl rfl).trans
        rfl
    refine ⟨fun good => stays 0 (if_neg (by omega)) (by omega), fun bad room => stays _ (if_pos bad) (by omega),
      fun bad limit => ?_⟩
    rw [if_pos ⟨bad, limit⟩] at judged
    rw [taken, State.take_working working, judged]
    refine congrArg Host.Outcome.next ?_
    have dropped := ((Moves.start s p).dropLink .errors).chargeRate
    have rate : ((s.port p).linkDropped s.tick .errors).link.rate = x.link.rate := rfl
    rw [rate, Port.linkDropped_silenced short, Port.silenced_charge] at dropped
    have kept := Port.charge_eq ((s.port p).dropped s.tick .errors (s.port p).link) x.link.rate
    have answer := dropped.close_dropped closed (by rw [kept]; exact jobless) state (by rw [kept]; rfl)
    rwa [Port.charge_prof, Port.dropped_prof] at answer
  · have taken : exec (.dropHoldExpiry p) s = s.take fun s => s.ifRunning fun s => s.dropHoldExpiry p := rfl
    have drops : s.dropHoldExpiry p = ((s.dropLink p .lockLost).retrainOrIdle p).startJobs p := by
      rw [State.dropHoldExpiry, if_pos (by simp [x] at due; simp [state, due])]
    rw [taken, State.take_working working, drops]
    refine congrArg Host.Outcome.next ?_
    have dropped := (Moves.start s p).dropLink .lockLost
    rw [Port.linkDropped_silenced short] at dropped
    have answer := dropped.close_dropped closed jobless state rfl
    rwa [Port.dropped_prof] at answer

end Sys2Proof.Machine

namespace Sys2Proof.Machine

/-! ## Bursts sent (R28, R36, R51 to R53) -/

/-- Closing after a change beside the page and a change of the port: one edit if the page shows another (R153). -/
theorem State.closeEdits_setPort_updPort {s : State} (closed : s.editsClosed) {p : PortNo} {y : Port} {f : Port → Port}
    (count : y.editCount = (s.port p).editCount) (blind : (f y).editCount = y.editCount) :
    ((s.setPort p y).updPort p f).closeEdits = s.setPort p { f y with
      editCount := if Port.samePage y (f y) = true then (s.port p).editCount else (s.port p).editCount + 2 } := by
  have even : (f y).editCount.getLsbD 0 = false := by
    rw [blind, count]
    exact closed p
  rw [State.updPort_eq, State.port_setPort_self, State.setPort_setPort, State.closeEdits_setPort closed]
  split_ifs
  · rw [Port.closeEdit_of_even even, ← count, ← blind]
  · rw [Port.closeEdit_openEdit even, ← count, ← blind]
    rfl

/-- Where nothing but the status differs the page shows the same exactly when the status is the same. -/
theorem Port.samePage_status {x : Port} (st : Status) : Port.samePage x { x with status := st } = true ↔ st = x.status := by
  simp only [Port.samePage, decide_true, Bool.and_true, decide_eq_true_eq]
  exact eq_comm

theorem OfferWord.page_eq (w : Word) : OfferWord.page w = (w.extractLsb' 14 2).toFin := rfl

/-- Our words with the flags of the burst w just sent (R36). -/
def Status.shown (x : Status) (w : Word) : Vector (Option Word) 4 :=
  x.ours.set (OfferWord.page w) (x.ours[OfferWord.page w].map fun c => (c &&& 0xE7FF) ||| (w &&& 0x1800))

theorem vector_set_same {α : Type} {n : Nat} {v : Vector α n} {k : Fin n} {a : α} (h : v[k] = a) : v.set k a = v := by
  subst h
  simp

theorem Port.showSent_eq (x : Port) (w : Word) :
    x.showSent w = { x with status := { x.status with ours := x.status.shown w } } := by
  unfold Port.showSent Status.shown
  split
  · rename_i c hc
    rw [hc]
    rfl
  · rename_i hc
    rw [hc, Option.map_none, vector_set_same hc]

/-- The burst counts as an acknowledge burst of the matched current page (R51). -/
def Port.countsAck (x : Port) (w : Word) : Prop :=
  x.status.state = .exchange ∧ x.exch.isMatched = true ∧ OfferWord.ack w = true ∧ OfferWord.page w = x.status.page ∧
    x.exch.ackSent < 3

theorem Port.countAck_counts {x : Port} {w : Word} (h : x.countsAck w) :
    x.countAck w = { x with exch := { x.exch with ackSent := x.exch.ackSent + 1 } } := by
  obtain ⟨h1, h2, h3, h4, h5⟩ := h
  rw [Port.countAck, if_pos (by simp [h1, h2, h3, h4, h5])]

theorem Port.countAck_other {x : Port} {w : Word} (h : ¬ x.countsAck w) : x.countAck w = x := by
  rw [Port.countAck, if_neg]
  intro c
  simp only [Bool.and_eq_true, decide_eq_true_eq, and_assoc] at c
  exact h c

/-- The line at rest again, our word showing the flags of the burst (R28, R36). -/
def Port.burstShown (x : Port) (w : Word) : Port := { x with
  sender := { x.sender with onLine := none }, status := { x.status with ours := x.status.shown w } }

/-- The acknowledge burst counted (R51). -/
def Port.ackCounted (x : Port) : Port := { x with exch := { x.exch with ackSent := x.exch.ackSent + 1 } }

/-- The port when the last cell of burst w has ended (R28, R36, R51). -/
def Port.sent (x : Port) (w : Word) : Port :=
  (Port.showSent { x with sender := { x.sender with onLine := none } } w).countAck w

theorem Port.sent_counts {x : Port} {w : Word} (h : x.countsAck w) : x.sent w = (x.burstShown w).ackCounted := by
  rw [Port.sent, Port.showSent_eq]
  exact Port.countAck_counts (x := x.burstShown w) h

theorem Port.sent_other {x : Port} {w : Word} (h : ¬ x.countsAck w) : x.sent w = x.burstShown w := by
  rw [Port.sent, Port.showSent_eq]
  exact Port.countAck_other (x := x.burstShown w) h

theorem Port.blind_sent (w : Word) : Port.Blind fun x => x.sent w := by
  intro x n
  dsimp only
  by_cases h : x.countsAck w
  · rw [Port.sent_counts h]
    exact Port.sent_counts (x := { x with editCount := n }) h
  · rw [Port.sent_other h]
    exact Port.sent_other (x := { x with editCount := n }) h

theorem State.burstSent_eq {s : State} {p : PortNo} {w : Word} (onLine : (s.port p).sender.onLine = some w) :
    s.burstSent p =
      if (s.port p).exch.ackSent < ((s.updPort p fun x => x.sent w).port p).exch.ackSent
      then ((s.updPort p fun x => x.sent w).completeIfDone p).startJobs p else s.updPort p fun x => x.sent w := by
  rw [State.burstSent, onLine]
  rfl

/-- The end of a burst on the line, which is no acknowledge burst that counts (R28). -/
theorem State.burstSent_other {s : State} {p : PortNo} {w : Word} (onLine : (s.port p).sender.onLine = some w)
    (h : ¬ (s.port p).countsAck w) : s.burstSent p = s.updPort p fun x => x.sent w := by
  rw [State.burstSent_eq onLine, State.port_updPort_exch, Port.sent_other h]
  exact if_neg (Nat.lt_irrefl _)

/-- The end of an acknowledge burst that counts (R51, R52). -/
theorem State.burstSent_counts {s : State} {p : PortNo} {w : Word} (onLine : (s.port p).sender.onLine = some w)
    (h : (s.port p).countsAck w) :
    s.burstSent p = ((s.updPort p fun x => x.sent w).completeIfDone p).startJobs p := by
  rw [State.burstSent_eq onLine, State.port_updPort_exch, Port.sent_counts h]
  exact if_pos (Nat.lt_succ_self _)

/-- The port after a burst that completes no page. -/
theorem State.closeEdits_burst {s : State} {p : PortNo} (closed : s.editsClosed) {f : Port → Port} {w : Word} {z : Port}
    (e : f (s.port p) = { z with status := { (s.port p).status with ours := (s.port p).status.shown w } })
    (page : z.profile = (s.port p).profile ∧ z.jobs = (s.port p).jobs ∧ z.history = (s.port p).history ∧
      z.report = (s.port p).report) (count : z.editCount = (s.port p).editCount) :
    (s.updPort p f).closeEdits = s.setPort p { z with
      status := { (s.port p).status with ours := (s.port p).status.shown w }
      editCount := if (s.port p).status.shown w = (s.port p).status.ours then (s.port p).editCount
        else (s.port p).editCount + 2 } := by
  obtain ⟨profile, jobs, history, report⟩ := page
  by_cases same : (s.port p).status.shown w = (s.port p).status.ours
  · rw [State.closeEdits_updPort_same closed (by rw [e]; exact count)
      (by rw [e]; exact Port.samePage_of_eq (by dsimp only; rw [same]) profile.symm jobs.symm history.symm report.symm), e,
      if_pos same, ← count]
  · rw [State.closeEdits_updPort_changed closed (by rw [e]; exact count)
      (by rw [e]; exact Port.samePage_of_status_ne fun e => same (congrArg Status.ours e).symm), e, if_neg same, ← count]
    rfl

/-- Settles O33: a burst shows its flags, and counts or not. -/
theorem burstSentCountsAcknowledge : Obligations.BurstSentCountsAcknowledge := by
  unfold Obligations.BurstSentCountsAcknowledge
  intro s p working closed waits x
  have taken : exec (.burstSent p) s = s.take fun s => s.ifRunning fun s => s.burstSent p := rfl
  rw [taken]
  refine ⟨fun rest => ?_, fun w onLine => ?_⟩
  · refine State.take_idle working closed ?_
    rw [State.burstSent, show (s.port p).sender.onLine = none from rest]
  · intro k shown y counts
    rw [State.take_working working]
    refine ⟨fun other => ?_, fun ack partial_ => ?_⟩
    · have sent := Port.sent_other (x := x) (w := w) other
      rw [State.burstSent_other onLine other]
      exact congrArg Host.Outcome.next (State.closeEdits_burst (z := { x with sender := { x.sender with onLine := none } })
        (w := w) closed sent ⟨rfl, rfl, rfl, rfl⟩ rfl)
    · have sent := Port.sent_counts (x := x) (w := w) ack
      have moved := Moves.first s p (Port.blind_sent w)
      rw [sent] at moved
      have incomplete : (s.updPort p fun x => x.sent w).completeIfDone p = s.updPort p fun x => x.sent w := by
        rw [State.completeIfDone, moved.exch, if_neg]
        rw [Bool.and_eq_true, decide_eq_true_eq]
        rintro ⟨three, seen⟩
        have three : 3 ≤ x.exch.ackSent + 1 := three
        rcases partial_ with few | unseen
        · omega
        · exact Bool.false_ne_true (unseen.symm.trans seen)
      rw [State.burstSent_counts onLine ack, incomplete, State.startJobs_settled (moved.settled waits)]
      exact congrArg Host.Outcome.next (State.closeEdits_burst (w := w)
        (z := { x with sender := { x.sender with onLine := none }, exch := { x.exch with ackSent := x.exch.ackSent + 1 } })
        closed sent ⟨rfl, rfl, rfl, rfl⟩ rfl)

/-! ### The next page (R33 to R36, R53) -/

/-- The words built for pages 1 to 3 (R33 to R36, 11.6). -/
theorem Port.content_next (x : Port) (k : PageNo) (notLast : k ≠ 3) : x.content (k + 1) =
    if k = 0 then
      0x4000 ||| (if 1 ≤ x.prof.extraCount then 0x2000 else 0) ||| BitVec.ofNat 16 (128 * x.report.usable) |||
        BitVec.ofNat 16 (8 * min x.status.downshifts 15) ||| BitVec.ofNat 16 (min x.status.attempts 7)
    else if k = 1 then
      0x8000 ||| (if 2 ≤ x.prof.extraCount then 0x2000 else 0) |||
        (if 1 ≤ x.prof.extraCount then x.prof.extra1 &&& 0x07FF else 0)
    else 0xC000 ||| (if 3 ≤ x.prof.extraCount then 0x2000 else 0) |||
        (if 2 ≤ x.prof.extraCount then x.prof.extra2 &&& 0x07FF else 0) := by
  have usable : x.report.usable < 16 := by
    unfold Report.usable flagBit
    split_ifs <;> omega
  have payload : packWord [(7, x.report.usable), (3, min x.status.downshifts 15), (0, min x.status.attempts 7)] =
      BitVec.ofNat 16 (128 * x.report.usable) ||| BitVec.ofNat 16 (8 * min x.status.downshifts 15) |||
        BitVec.ofNat 16 (min x.status.attempts 7) := by
    have key : ∀ (u : Fin 16) (d : Fin 16) (a : Fin 8), packWord [(7, u.val), (3, d.val), (0, a.val)] =
        BitVec.ofNat 16 (128 * u.val) ||| BitVec.ofNat 16 (8 * d.val) ||| BitVec.ofNat 16 a.val := by decide +kernel
    exact key ⟨_, usable⟩ ⟨min x.status.downshifts 15, by omega⟩ ⟨min x.status.attempts 7, by omega⟩
  have head : ∀ n : Nat, n < 4 → packWord [(14, n), (13, flagBit (decide (n < 1 + x.prof.extraCount)))] =
      BitVec.ofNat 16 (0x4000 * n) ||| (if n ≤ x.prof.extraCount then 0x2000 else 0) := by
    intro n hn
    have key : ∀ (m : Fin 4) (more : Bool), packWord [(14, m.val), (13, flagBit more)] =
        BitVec.ofNat 16 (0x4000 * m.val) ||| (if more then 0x2000 else 0) := by decide
    have flag : decide (n < 1 + x.prof.extraCount) = decide (n ≤ x.prof.extraCount) := by
      congr 1
      exact propext (by omega)
    rw [flag, key ⟨n, hn⟩]
    simp only [decide_eq_true_eq]
  have page : k = 0 ∨ k = 1 ∨ k = 2 := by
    have : ∀ k : Fin 4, k ≠ 3 → k = 0 ∨ k = 1 ∨ k = 2 := by decide
    exact this k notLast
  unfold Port.content
  rcases page with rfl | rfl | rfl
  · have pay : x.payload 1 = _ := (if_neg (by decide)).trans (if_pos rfl)
    show packWord [(14, 1), (13, flagBit (decide (1 < 1 + x.prof.extraCount)))] ||| x.payload 1 = _
    rw [head 1 (by decide), pay, payload, if_pos rfl]
    simp only [BitVec.or_assoc]
    rfl
  · have pay : x.payload 2 = _ := (if_neg (by decide)).trans ((if_neg (by decide)).trans (if_pos rfl))
    show packWord [(14, 2), (13, flagBit (decide (2 < 1 + x.prof.extraCount)))] ||| x.payload 2 = _
    rw [head 2 (by decide), pay, if_neg (by decide : ¬ (1 : PageNo) = 0), if_pos rfl]
    rfl
  · have pay : x.payload 3 = _ := (if_neg (by decide)).trans ((if_neg (by decide)).trans (if_neg (by decide)))
    show packWord [(14, 3), (13, flagBit (decide (3 < 1 + x.prof.extraCount)))] ||| x.payload 3 = _
    rw [head 3 (by decide), pay, if_neg (by decide : ¬ (2 : PageNo) = 0), if_neg (by decide : ¬ (2 : PageNo) = 1)]
    rfl

end Sys2Proof.Machine

namespace Sys2Proof.Machine

/-! ### Completed pages (R52, R53) -/

/-- More pages come after the current one, on either side (R53). -/
def Port.morePages (x : Port) : Prop :=
  x.status.page ≠ 3 ∧ (OfferWord.more (x.status.ours[x.status.page].getD 0) = true ∨
    OfferWord.more (x.status.partner[x.status.page].getD 0) = true)

/-- The current page is complete (R52). -/
def Port.pageDone (x : Port) : Prop := 3 ≤ x.exch.ackSent ∧ x.exch.seen = true

theorem OfferWord.more_eq (w : Word) : OfferWord.more w = w.getLsbD 13 := rfl

theorem Port.blind_nextPage : Port.Blind Port.nextPage := fun _ _ => rfl

/-- The next page current, its run empty, its word built (R53), where that word was not built before. -/
theorem Port.nextPage_eq {x : Port} {next : PageNo} (isNext : x.status.page + 1 = next)
    (unbuilt : x.status.ours[next] = none) : x.nextPage = { x with
      exch := ⟨none, 0, false, false, 0, false, x.exch.restarts, x.exch.clashes⟩
      status := { x.status with page := next, ours := x.status.ours.set next (some (x.content next)) } } := by
  have flags : (x.status.ours[next].getD 0) &&& 0x1800 = 0 := by
    rw [unbuilt]
    decide
  have built : x.content next ||| ((x.status.ours[next].getD 0) &&& 0x1800) = x.content next := by
    rw [flags]
    exact BitVec.or_zero
  subst isNext
  show Port.buildPage _ _ = _
  unfold Port.buildPage
  exact congrArg (fun c => { x with
      exch := ⟨none, 0, false, false, 0, false, x.exch.restarts, x.exch.clashes⟩
      status := { x.status with page := x.status.page + 1, ours := x.status.ours.set (x.status.page + 1 : PageNo).val (some c) } })
    built

section
variable {o : Bool} {b t : State} {p : PortNo} {y : Port}

namespace Moves

theorem completeIfDone_partial (h : Moves o b t p y) (partial_ : ¬ y.pageDone) : t.completeIfDone p = t := by
  rw [State.completeIfDone, if_neg]
  rw [h.exch, Bool.and_eq_true, decide_eq_true_eq]
  exact partial_

theorem completeIfDone_done (h : Moves o b t p y) (done : y.pageDone) : t.completeIfDone p = t.completePage p := by
  rw [State.completeIfDone, if_pos]
  rw [h.exch, Bool.and_eq_true, decide_eq_true_eq]
  exact done

theorem completeIfDone_next (h : Moves o b t p y) (done : y.pageDone) (more : y.morePages) :
    Moves o b (t.completeIfDone p) p y.nextPage := by
  obtain ⟨notLast, more⟩ := more
  have e : t.completePage p = t.updPort p Port.nextPage := by
    simp only [State.completePage, h.status]
    rw [if_neg]
    rw [Bool.or_eq_true, Bool.not_eq_true', Bool.or_eq_false_iff, decide_eq_true_eq]
    rintro (last | ⟨none, none'⟩)
    · exact notLast last
    · rcases more with more | more
      · exact Bool.false_ne_true (none.symm.trans more)
      · exact Bool.false_ne_true (none'.symm.trans more)
  rw [h.completeIfDone_done done, e]
  exact h.upd Port.blind_nextPage

theorem completeIfDone_last (h : Moves o b t p y) (done : y.pageDone) (last : ¬ y.morePages) :
    t.completeIfDone p = t.resolveLink p := by
  rw [h.completeIfDone_done done]
  simp only [State.completePage, h.status]
  rw [if_pos]
  rw [Bool.or_eq_true, Bool.not_eq_true', Bool.or_eq_false_iff, decide_eq_true_eq]
  by_contra c
  refine last ⟨fun e => c (.inl e), ?_⟩
  by_contra none
  rw [not_or, Bool.not_eq_true, Bool.not_eq_true] at none
  exact c (.inr none)

end Moves
end

/-- The flags shown change no other bit of our words (R36). -/
theorem more_shown (c w : Word) : OfferWord.more ((c &&& 0xE7FF) ||| (w &&& 0x1800)) = OfferWord.more c := by
  simp [OfferWord.more_eq]

theorem PageNo.ne_succ (k : PageNo) : k ≠ k + 1 := by
  revert k
  decide

theorem Status.shown_at {x : Status} {w : Word} {k : PageNo} (page : OfferWord.page w = k) :
    x.shown w = x.ours.set k (x.ours[k].map fun c => (c &&& 0xE7FF) ||| (w &&& 0x1800)) := by
  subst page
  rfl

theorem Status.shown_self {x : Status} {w : Word} {k : PageNo} (page : OfferWord.page w = k) :
    (x.shown w)[k] = x.ours[k].map fun c => (c &&& 0xE7FF) ||| (w &&& 0x1800) := by
  rw [Status.shown_at page]
  simp

theorem Status.shown_ne {x : Status} {w : Word} {k n : PageNo} (page : OfferWord.page w = k) (ne : k ≠ n) :
    (x.shown w)[n] = x.ours[n] := by
  rw [Status.shown_at page]
  exact Vector.getElem_set_ne k.isLt n.isLt fun e => ne (Fin.ext e)

/-- The burst's flags leave the bit that announces more pages as it was (R36). -/
theorem Status.shown_more {x : Status} {w : Word} {k : PageNo} (page : OfferWord.page w = k) :
    OfferWord.more ((x.shown w)[k].getD 0) = OfferWord.more (x.ours[k].getD 0) := by
  rw [Status.shown_self page]
  cases x.ours[k] with
  | none => rfl
  | some c => exact more_shown c w

/-- Settles O34: a completed page moves on. -/
theorem completedPageMovesOn : Obligations.CompletedPageMovesOn := by
  unfold Obligations.CompletedPageMovesOn
  intro s p w k working closed waits x onLine exchange page notLast isMatched sent seen ack ofPage ours more next unbuilt
    built
  subst page
  have counts : x.countsAck w := ⟨exchange, isMatched, ack, ofPage, sent.trans_lt (by decide)⟩
  have moved := Moves.first s p (Port.blind_sent w)
  rw [show (s.port p).sent w = _ from Port.sent_counts counts] at moved
  have done : ((x.burstShown w).ackCounted).pageDone := ⟨Nat.le_of_eq (congrArg (· + 1) sent).symm, seen⟩
  have goesOn : ((x.burstShown w).ackCounted).morePages := ⟨notLast, more.imp (Status.shown_more ofPage).trans id⟩
  have turned := moved.completeIfDone_next done goesOn
  have content : ((x.burstShown w).ackCounted).content next = built := Port.content_next _ _ notLast
  rw [Port.nextPage_eq (x := (x.burstShown w).ackCounted) (next := next) rfl ((Status.shown_ne ofPage (PageNo.ne_succ _)).trans unbuilt), content] at turned
  have shown : ((x.burstShown w).ackCounted).status.ours = _ := Status.shown_at ofPage
  rw [shown] at turned
  have taken : exec (.burstSent p) s = s.take fun s => s.ifRunning fun s => s.burstSent p := rfl
  rw [taken, State.take_working working, State.burstSent_counts onLine counts,
    (turned.startJobs_settled waits).close_changed closed
      (Port.samePage_of_status_ne fun e => PageNo.ne_succ _ (congrArg Status.page e))]
  rfl

end Sys2Proof.Machine

namespace Sys2Proof.Machine

/-! ### Ended bursts (R38, R40, R41) -/

/-- Closing after a change beside the page and a change of the page. -/
theorem State.closeEdits_setPort_updPort_changed {s : State} (closed : s.editsClosed) {p : PortNo} {y z : Port}
    {f : Port → Port} (e : f y = z) (before : y.editCount = (s.port p).editCount) (count : z.editCount = y.editCount)
    (changed : Port.samePage y z = false) : ((s.setPort p y).updPort p f).closeEdits = s.setPort p z.edited := by
  rw [State.closeEdits_setPort_updPort closed before (e ▸ count), e, changed, if_neg Bool.false_ne_true, ← before, ← count]
  rfl

/-- Closing after changes beside the page alone. -/
theorem State.closeEdits_setPort_updPort_same {s : State} (closed : s.editsClosed) {p : PortNo} {y z : Port}
    {f : Port → Port} (e : f y = z) (before : y.editCount = (s.port p).editCount) (count : z.editCount = y.editCount)
    (same : Port.samePage y z = true) : ((s.setPort p y).updPort p f).closeEdits = s.setPort p z := by
  rw [State.closeEdits_setPort_updPort closed before (e ▸ count), e, if_pos same, ← before, ← count]

theorem State.closeEdits_setPort_plain {s : State} (closed : s.editsClosed) {p : PortNo} {y : Port}
    (count : y.editCount = (s.port p).editCount) : (s.setPort p y).closeEdits = s.setPort p y := by
  rw [State.closeEdits_setPort closed, Port.closeEdit_of_even (count ▸ closed p)]

/-- The burst being decoded dropped. -/
def Port.burstDropped (x : Port) : Port := { x with decoder := { x.decoder with burst := none } }

theorem State.updPort_burstDropped (s : State) (p : PortNo) :
    (s.updPort p fun x => { x with decoder := { x.decoder with burst := none } }) = s.setPort p (s.port p).burstDropped :=
  State.updPort_of_same (Port.samePage_of_eq rfl rfl rfl rfl rfl)

section
variable {s : State} {p : PortNo} {b : BurstIn}

theorem State.endBurst_nothing (h : (s.port p).decoder.burst = none ∨ s.decoderRuns p = false) : s.endBurst p = s := by
  unfold State.endBurst
  split
  · rename_i b burst
    rcases h with none | paused
    · exact absurd (burst.symm.trans none) (by simp)
    · rw [paused]
      rfl
  · rfl

variable (burst : (s.port p).decoder.burst = some b) (runs : s.decoderRuns p = true)
include burst runs

theorem State.endBurst_unread (h : b.split = 0) : s.endBurst p = s.setPort p (s.port p).burstDropped := by
  have verdict : b.verdict = .notEvaluated := by rw [BurstIn.verdict, if_pos h]
  rw [State.endBurst, burst]
  dsimp only
  rw [if_pos runs, s.updPort_burstDropped p, verdict]

theorem State.endBurst_bad (h : b.verdict = .bad) :
    s.endBurst p = (s.setPort p (s.port p).burstDropped).updPort p Port.takeBad := by
  rw [State.endBurst, burst]
  dsimp only
  rw [if_pos runs, s.updPort_burstDropped p, h]

theorem State.endBurst_valid {w : Word} (h : b.verdict = .valid w) :
    s.endBurst p = (State.handOnWord (s.setPort p (s.port p).burstDropped) p w).startJobs p := by
  rw [State.endBurst, burst]
  dsimp only
  rw [if_pos runs, s.updPort_burstDropped p, h]

end

/-- A bad burst counted, the run before the match emptied in EXCHANGE (R40, R41, R49). -/
theorem Port.takeBad_eq (x : Port) : x.takeBad = { x.counted 1 with
    exch := if x.status.state = .exchange ∧ x.exch.isMatched = false
      then { x.exch with runWord := none, runCount := 0 } else x.exch } := by
  have counted : x.bump .badBursts = x.counted 1 := Port.bump_eq_counted x .badBursts
  have state : (x.counted 1).status.state = x.status.state := rfl
  have exch : (x.counted 1).exch = x.exch := rfl
  rw [Port.takeBad, counted]
  dsimp only
  rw [state]
  by_cases exchange : x.status.state = .exchange
  · rw [if_pos exchange, Port.badBurst, exch]
    cases hm : x.exch.isMatched with
    | true => rw [if_pos rfl, if_neg fun h => Bool.false_ne_true h.2.symm, ← exch]
    | false => rw [if_neg Bool.false_ne_true, if_pos (And.intro exchange rfl), ← hm]
  · rw [if_neg exchange, if_neg fun h => exchange h.1, ← exch]

/-- The first valid word in OFFER takes the port to EXCHANGE (R47). -/
def Port.exchangeEntered (x : Port) (w : Word) : Port := { x with
  status := { x.status with
    state := .exchange, sub := .none, page := 0, errPub := x.errTotal, unlockPub := x.unlockTotal }
  timers := ⟨none, some 36, none, none, none, none, none, none⟩
  lockUp := false
  monitor := ⟨0, 0, 0⟩
  exch := if w.extractLsb' 14 2 = 0 then { x.exch with runWord := some w, runCount := 1 } else x.exch }

theorem OfferWord.page_eq_zero (w : Word) : OfferWord.page w = 0 ↔ w.extractLsb' 14 2 = 0 := by
  rw [OfferWord.page_eq]
  constructor
  · intro h
    exact BitVec.eq_of_toFin_eq h
  · intro h
    rw [h]
    rfl

theorem State.enterExchange_eq (s : State) (p : PortNo) (w : Word) :
    s.enterExchange p w = s.updPort p fun x => x.exchangeEntered w := by
  have entered : ∀ x : Port, (let y := x.enter .exchange
      let z : Port := { y with
        status := { y.status with page := 0 }, timers := { Timers.stopped with brk := some Config.breakTicks } }
      if OfferWord.page w = 0 then z.extendRun w 1 else z) = x.exchangeEntered w := by
    intro x
    dsimp only
    unfold Port.exchangeEntered
    simp only [OfferWord.page_eq_zero]
    split_ifs <;> rfl
  rw [State.enterExchange]
  congr 1
  funext x
  exact entered x

theorem Port.blind_exchangeEntered (w : Word) : Port.Blind fun x => x.exchangeEntered w := fun _ _ => rfl

/-- A valid word stored in IDLE (R41). -/
def Port.wordStored (x : Port) (w : Word) : Port :=
  { x with status := { x.status with partner := x.status.partner.set (OfferWord.page w) (some w) } }

theorem State.idleWord_store {s : State} {p : PortNo} (w : Word) (off : (s.port p).prof.autoRetrain = false) :
    s.idleWord p w = s.updPort p fun x => x.wordStored w := by
  have prof : ((s.updPort p fun x => x.wordStored w).port p).prof = (s.port p).prof :=
    congrArg (Option.getD · Profile.none) (State.port_updPort_profile ..)
  show (if ((s.updPort p fun x => x.wordStored w).port p).prof.autoRetrain = true then _ else _) = _
  rw [prof, off, if_neg Bool.false_ne_true]
  rfl

theorem State.idleWord_begin {s : State} {p : PortNo} (w : Word) (on : (s.port p).prof.autoRetrain = true) :
    s.idleWord p w = (s.updPort p fun x => x.wordStored w).beginSequence p false := by
  have prof : ((s.updPort p fun x => x.wordStored w).port p).prof = (s.port p).prof :=
    congrArg (Option.getD · Profile.none) (State.port_updPort_profile ..)
  show (if ((s.updPort p fun x => x.wordStored w).port p).prof.autoRetrain = true then _ else _) = _
  rw [prof, on, if_pos rfl]
  rfl

/-- Settles O39: an ended burst is handed on. -/
theorem endedBurstIsHandedOn : Obligations.EndedBurstIsHandedOn := by
  unfold Obligations.EndedBurstIsHandedOn
  refine ⟨BurstIn.verdict_valid_iff, fun s p working closed waits => ?_⟩
  intro x y
  have taken : exec (.burstEnd p) s = s.take fun s => s.ifRunning fun s => s.endBurst p := rfl
  rw [taken]
  refine ⟨fun h => State.take_idle working closed (State.endBurst_nothing h), fun b burst runs => ?_⟩
  rw [State.take_working working]
  have begun : Moves false s (s.setPort p y) p y :=
    (Moves.start s p).set (f := Port.burstDropped) (fun _ _ => rfl) fun _ => Port.samePage_of_eq rfl rfl rfl rfl rfl
  refine ⟨fun unread => ?_, fun bad room => ?_, fun w valid => ⟨fun offer => ?_, fun idle => ?_⟩⟩
  · rw [State.endBurst_unread burst runs unread]
    exact congrArg Host.Outcome.next (State.closeEdits_setPort_plain closed rfl)
  · rw [State.endBurst_bad burst runs bad]
    exact congrArg Host.Outcome.next (State.closeEdits_setPort_updPort_changed closed (Port.takeBad_eq y) rfl rfl
      (Port.samePage_of_status_ne fun e => Port.counters_counted_ne room (congrArg Status.counters e).symm))
  · rw [State.endBurst_valid burst runs valid]
    have sorted : State.handOnWord (s.setPort p y) p w = (s.setPort p y).updPort p fun x => x.exchangeEntered w := by
      rw [State.handOnWord, State.port_setPort_self, show y.status.state = .offer from offer]
      exact State.enterExchange_eq _ p w
    have entered := begun.upd (Port.blind_exchangeEntered w)
    rw [← sorted] at entered
    exact congrArg Host.Outcome.next ((entered.startJobs_settled waits).close_changed closed
      (Port.samePage_of_status_ne fun e =>
        PortState.noConfusion (offer.symm.trans (congrArg Status.state e))))
  · intro stored z
    have ended : s.endBurst p = (State.handOnWord (s.setPort p y) p w).startJobs p :=
      State.endBurst_valid burst runs valid
    rw [ended]
    have sorted : State.handOnWord (s.setPort p y) p w = (s.setPort p y).idleWord p w := by
      rw [State.handOnWord, State.port_setPort_self, show y.status.state = .idle from idle]
    have held : ((s.setPort p y).port p).prof = y.prof := congrArg Port.prof (State.port_setPort_self s p y)
    have put := begun.upd (f := fun x => x.wordStored w) fun _ _ => rfl
    refine ⟨fun off => ?_, fun on jobless => ?_⟩
    · have settled := put.settled waits
      rw [sorted, State.idleWord_store w ((congrArg Profile.autoRetrain held).trans off), State.startJobs_settled settled,
        State.closeEdits_setPort_updPort (y := y) closed rfl rfl]
      have e : (y.wordStored w).status = x.status ↔ stored = x.status.partner :=
        ⟨congrArg Status.partner, fun e => congrArg (fun v => { x.status with partner := v }) e⟩
      refine congrArg (fun n => Host.Outcome.next (s.setPort p { z with editCount := n })) ?_
      have same := (Port.samePage_status (x := y) (y.wordStored w).status).trans e
      exact if_congr same rfl rfl
    · have idleRuns : (y.wordStored w).runsTrain = false := Port.runsTrain_jobless (x := y.wordStored w) jobless
      have began := put.beginSequence false (.inr (.inl idleRuns))
      rw [sorted, State.idleWord_begin w ((congrArg Profile.autoRetrain held).trans on)]
      have startable := began.startJobs_settled (Port.settled_sequenceStarted (x := y.wordStored w) waits _ _)
      refine congrArg Host.Outcome.next (startable.close_sequence closed rfl ?_)
      rw [idle]
      decide

end Sys2Proof.Machine

namespace Sys2Proof.Machine

/-! ## Starts and ends of jobs (R143, R144)

What a start and an end write into the cells, as a relation between the states before and after: the port is left to
`Moves`. -/

/-! ### Cells written -/

theorem State.SameButCells.tick {s t : State} (h : s.SameButCells t) : t.tick = s.tick := by
  obtain ⟨mem, custody, rfl⟩ := h
  rfl

theorem State.SameButCells.isReady {s t : State} (h : s.SameButCells t) (q : QuadNo) : t.isReady q = s.isReady q := by
  obtain ⟨mem, custody, rfl⟩ := h
  rfl

theorem State.SameButCells.engineOf {s t : State} (h : s.SameButCells t) (p : PortNo) : t.engineOf p = s.engineOf p := by
  obtain ⟨mem, custody, rfl⟩ := h
  rfl

theorem State.SameButCells.port {s t : State} (h : s.SameButCells t) (p : PortNo) : t.port p = s.port p := by
  obtain ⟨mem, custody, rfl⟩ := h
  rfl

theorem State.SameButCells.editsClosed {s t : State} (h : s.SameButCells t) (closed : s.editsClosed) : t.editsClosed := by
  obtain ⟨mem, custody, rfl⟩ := h
  exact closed

theorem State.SameButCells.trans {s t u : State} (h : s.SameButCells t) (h' : t.SameButCells u) : s.SameButCells u := by
  obtain ⟨mem, custody, rfl⟩ := h
  obtain ⟨mem', custody', rfl⟩ := h'
  exact ⟨mem', custody', rfl⟩

/-- Between s and t only the first words and the custody of these cells have changed. -/
structure State.OnlyCells (s t : State) (cells : List CellNo) : Prop where
  frame : s.SameButCells t
  canonical : t.memOk
  kept : ∀ a, (∀ c ∈ cells, ¬ inCellHead c a) → t.readMem a = s.readMem a
  custody : ∀ d, d ∉ cells → t.custodyOf d = s.custodyOf d

namespace State.OnlyCells
variable {s t u : State} {cells cells' : List CellNo}

theorem start (h : s.memOk) : s.OnlyCells s cells := ⟨⟨_, _, rfl⟩, h, fun _ _ => rfl, fun _ _ => rfl⟩

theorem trans (h : s.OnlyCells t cells) (h' : t.OnlyCells u cells') : s.OnlyCells u (cells ++ cells') where
  frame := h.frame.trans h'.frame
  canonical := h'.canonical
  kept := fun a far => (h'.kept a fun c hc => far c (List.mem_append_right _ hc)).trans
    (h.kept a fun c hc => far c (List.mem_append_left _ hc))
  custody := fun d far => (h'.custody d fun hd => far (List.mem_append_right _ hd)).trans
    (h.custody d fun hd => far (List.mem_append_left _ hd))

theorem endCell (h : s.memOk) (c : CellNo) (st : CellState) (out : JobOutcome) (why : Reason) (start : Ticks) :
    s.OnlyCells (s.endCell c st out why start) [c] where
  frame := s.endCell_frame c st out why start
  canonical := State.memOk_endCell h c st out why start
  kept := fun _ far => State.endCell_readMem h (far c List.mem_cons_self) st out why start
  custody := fun d far => by
    rw [State.endCell_custodyOf, if_neg fun e => far (List.mem_singleton.mpr e.symm)]

/-- An ended cell reads on as it does where other cells are written. -/
theorem ended (h : s.OnlyCells t cells) {c : CellNo} (far : c ∉ cells) {w : Word} {out why : Nat} {start stop : Ticks}
    (ended : s.cellEnded c w out why start stop) : t.cellEnded c w out why start stop :=
  State.cellEnded_of_same ended
    (fun a ha => h.kept a fun d hd => not_inCellHead_of_ne (fun e : c = d => far (e.symm ▸ hd)) ha) (h.custody c far)

end State.OnlyCells

/-- Cell c taken up for its job (R143): start tick and RUNNING written, custody RUNNING. -/
def State.cellBegun (s : State) (c : CellNo) : State :=
  ((s.writeTicks (cellBase c + 4) s.tick).writeCellState c .running).setCustody c .running

theorem State.cellBegun_readMem {s : State} (h : s.memOk) (c : CellNo) (a : Nat) : (s.cellBegun c).readMem a =
    if cellBase c = a then 3 else if cellBase c + 5 = a then s.tick.extractLsb' 0 16
    else if cellBase c + 4 = a then s.tick.extractLsb' 16 16 else s.readMem a := by
  have hc := c.isLt
  have base : cellBase c = 0x0400 + 32 * c.val := rfl
  have h4 := State.memOk_writeMem h (a := cellBase c + 4) (highWord s.tick) (by omega)
  have h5 := State.memOk_writeMem h4 (a := cellBase c + 4 + 1) (lowWord s.tick) (by omega)
  show (((s.writeMem (cellBase c + 4) (highWord s.tick)).writeMem (cellBase c + 4 + 1) (lowWord s.tick)).writeMem
    (cellBase c) CellState.running.code).readMem a = _
  rw [State.readMem_writeMem _ _ _ _ h5, State.readMem_writeMem _ _ _ _ h4, State.readMem_writeMem _ _ _ _ h]
  rfl

theorem State.cellBegun_custodyOf (s : State) (c d : CellNo) :
    (s.cellBegun c).custodyOf d = if c = d then .running else s.custodyOf d := by
  rw [State.cellBegun, State.setCustody_custodyOf]
  rfl

/-- A taken up cell reads RUNNING with its start tick (R143). -/
theorem State.cellBegun_runs {s : State} (h : s.memOk) (c : CellNo) : (s.cellBegun c).cellRuns c s.tick := by
  refine ⟨?_, ?_, ?_, ?_⟩
  · rw [State.cellWord, State.cellBegun_readMem h, if_pos (Nat.add_zero _).symm]
  · rw [State.cellWord, State.cellBegun_readMem h, if_neg (by omega), if_neg (by omega), if_pos rfl]
  · rw [State.cellWord, State.cellBegun_readMem h, if_neg (by omega), if_pos rfl]
  · rw [State.cellBegun_custodyOf, if_pos rfl]

theorem State.cellBegun_frame (s : State) (c : CellNo) : s.SameButCells (s.cellBegun c) := by
  have same : s.SameButCells s := ⟨_, _, rfl⟩
  exact (((same.writeMem _ _).writeMem _ _).writeMem _ _).setCustody _ _

theorem State.OnlyCells.cellBegun {s : State} (h : s.memOk) (c : CellNo) : s.OnlyCells (s.cellBegun c) [c] where
  frame := s.cellBegun_frame c
  canonical := by
    have hc := c.isLt
    have base : cellBase c = 0x0400 + 32 * c.val := rfl
    exact State.memOk_writeCellState (State.memOk_writeTicks h (a := cellBase c + 4) s.tick (by omega)) c .running
  kept := fun a far => by
    have out : ∀ i, i < 8 → cellBase c + i ≠ a := fun i hi e => far c List.mem_cons_self (e ▸ inCellHead_word hi)
    rw [State.cellBegun_readMem h, if_neg (show cellBase c ≠ a from out 0 (by omega)), if_neg (out 5 (by omega)), if_neg (out 4 (by omega))]
  custody := fun d far => by
    rw [State.cellBegun_custodyOf, if_neg fun e => far (List.mem_singleton.mpr e.symm)]

end Sys2Proof.Machine

namespace Sys2Proof.Machine

/-! ### A job start moves its port -/

/-- An abort of port p takes the base b to b', whatever has moved the port, while it asks for this (R15). -/
structure Aborts (b b' : State) (p : PortNo) (asks : Option ReqKind) : Prop where
  moves : ∀ {o : Bool} {t : State} {z : Port}, Moves o b t p z → z.request = asks →
    Moves o b' (t.abortPort p none) p z.stopActivity.withdrawn
  ready : ∀ q, b'.isReady q = b.isReady q

theorem aborts_free {b : State} {p : PortNo} (free : b.engineOf p = none) (asks : Option ReqKind) : Aborts b b p asks where
  moves := fun h _ => h.abortPort_free free none
  ready := fun _ => rfl

/-- A sequence's start sets the attempts to 0, whatever they were (R7). -/
theorem Port.sequenceStarted_fresh (x : Port) (ready byWatch : Bool) :
    ({ x with status := { x.status with attempts := 0 } } : Port).sequenceStarted ready byWatch =
      x.sequenceStarted ready byWatch := rfl

/-- The job list takes no part in a sequence's start. -/
theorem Port.attemptStarted_relisted (x : Port) (l : List Job) (ready : Bool) :
    ({ x with jobs := l } : Port).attemptStarted ready = { x.attemptStarted ready with jobs := l } := by
  show (if x.status.offerSet &&& x.status.qualSet = 0 then _ else if ready = true then _ else _) = _
  unfold Port.attemptStarted
  split_ifs <;> rfl

theorem Port.sequenceStarted_relisted (x : Port) (l : List Job) (ready byWatch : Bool) :
    ({ x with jobs := l } : Port).sequenceStarted ready byWatch = { x.sequenceStarted ready byWatch with jobs := l } := by
  show (if x.withdrawn.sequenceBegun.prof.precheck = true ∧ byWatch = false then _
    else Port.attemptStarted { x.withdrawn.sequenceBegun with jobs := l } ready) = _
  rw [Port.attemptStarted_relisted]
  unfold Port.sequenceStarted
  dsimp only
  split_ifs <;> rfl

theorem Port.unlinked_relisted (x : Port) (l : List Job) (tick : Ticks) (why : DownReason) :
    ({ x with jobs := l } : Port).unlinked tick why = { x.unlinked tick why with jobs := l } := by
  unfold Port.unlinked
  dsimp only
  split_ifs <;> rfl

/-- The head of the list taken up by its job (R143). -/
def Port.headTaken (x : Port) (j : Job) (tick : Ticks) (rest : List Job) : Port :=
  { x with jobs := { j with start := tick } :: rest, status := { x.status with running := some j.cell } }

theorem Port.trainStarted_headTaken (x : Port) (j : Job) (f : Profile) (tick : Ticks) (rest : List Job) (ready : Bool) :
    (x.headTaken j tick rest).trainStarted j.cell f tick ready =
      { x.trainStarted j.cell f tick ready with jobs := { j with start := tick } :: rest } := by
  unfold Port.trainStarted
  dsimp only
  rw [← Port.sequenceStarted_relisted]
  congr 1
  unfold Port.headTaken Port.unlinked
  dsimp only
  split_ifs <;> rfl

theorem Port.diagnoseStarted_headTaken (x : Port) (j : Job) (r : Recipe) (tick : Ticks) (rest : List Job) :
    (x.headTaken j tick rest).diagnoseStarted j.cell r j.tag tick =
      { x.diagnoseStarted j.cell r j.tag tick with jobs := { j with start := tick } :: rest } := by
  unfold Port.diagnoseStarted Port.headTaken
  dsimp only
  split_ifs <;> rfl

/-- What an abort leaves, entering another state, is what `cutShort` says (R15). -/
theorem Port.stopActivity_leftFor (x : Port) (st : PortState) : x.stopActivity.leftFor st = x.cutShort.leftFor st := by
  have result : x.stopActivity.status.lastResult = x.cutShort.status.lastResult :=
    if_congr (PortState.inAttempt_iff _) rfl rfl
  unfold Port.leftFor
  simp only [Port.stopActivity, Port.cutShort] at result ⊢
  rw [result]

namespace Moves
variable {o : Bool} {b b' t : State} {p : PortNo} {y : Port} {j : Job} {rest : List Job}

theorem cellBegun (h : Moves o b t p y) (c : CellNo) : Moves o (b.cellBegun c) (t.cellBegun c) p y :=
  h.elsewhere (F := fun s => s.cellBegun c) rfl fun _ => rfl

/-- The start of the head job, before what its kind does (R143). -/
theorem headBegun (h : Moves o b t p y) (j : Job) (rest : List Job) :
    Moves o (b.cellBegun j.cell) (t.headBegun p j rest) p (y.headTaken j b.tick rest) := by
  have begun := (h.cellBegun j.cell).upd (f := fun x => x.headTaken j t.tick rest) fun _ _ => rfl
  rw [← h.tick]
  exact begun

theorem unlink (h : Moves o b t p y) (why : DownReason) :
    Moves o b (if (t.port p).status.state = .linked then t.dropLink p why else t) p
      (if y.status.state = .linked then y.linkDropped b.tick why else y) := by
  rw [h.status]
  split_ifs
  · exact h.dropLink why
  · exact h

/-- The start of a TRAIN job (R15). -/
theorem startTrain (h : Moves o b t p y) {c : CellNo} (running : y.status.running = some c) {f : Profile}
    (allowed : f.allowed ≠ 0) (short : y.history.length ≤ 4) (aborts : Aborts b b' p y.request) :
    Moves o b' (t.startTrain p f) p (y.trainStarted c f b.tick (b.isReady (quadOf p))) := by
  have left := h.unlink .retrainRequested
  have asks : (if y.status.state = .linked then y.linkDropped b.tick .retrainRequested else y).request = y.request := by
    split_ifs <;> rfl
  have trained := (aborts.moves left asks).upd (f := fun x => { x with
    profile := some f
    status := { x.status with
      offerSet := f.allowed, qualSet := RateSet.all, failCounts := Vector.replicate 4 0, attempts := 0
      downshifts := 0 } }) fun _ _ => rfl
  have meet : f.allowed &&& RateSet.all ≠ 0 := by
    rw [show RateSet.all = BitVec.allOnes 4 from rfl, BitVec.and_allOnes]
    exact allowed
  have began := trained.beginSequence false (.inr (.inr meet))
  refine (began.as ?_).as (Port.sequenceStarted_fresh ..)
  rw [aborts.ready]
  refine Port.sequenceStarted_congr ?_ _ _
  unfold Port.unlinked
  by_cases linked : y.status.state = .linked
  · rw [if_pos linked, if_pos linked, Port.linkDropped_silenced short, ← running]
    rfl
  · rw [if_neg linked, if_neg linked, ← running]
    rfl

/-- The start of a DIAGNOSE job that does not end on it (R16). -/
theorem startDiagnose (h : Moves o b t p y) {c : CellNo} (running : y.status.running = some c) (r : Recipe) (tag : Word)
    {intrusive : Bool} (goes : ¬ (y.status.state = .linked ∧ intrusive = false)) (short : y.history.length ≤ 4)
    (aborts : Aborts b b' p y.request) :
    Moves o (if y.status.state = .linked then b else b') (t.startDiagnose p r tag intrusive) p
      (y.diagnoseStarted c r tag b.tick) := by
  have on : ¬ ((decide (y.status.state = .linked) && !intrusive) = true) := by
    rw [Bool.and_eq_true, decide_eq_true_eq, Bool.not_eq_true']
    exact goes
  have probe : ∀ z : Port, z.enter .probe = z.leftFor .probe := fun z => z.enter_quiet _ (by simp)
  unfold State.startDiagnose Port.diagnoseStarted
  dsimp only
  rw [h.status, if_neg on, ← running]
  by_cases linked : y.status.state = .linked
  · rw [if_pos linked, if_pos linked, if_pos linked]
    refine (((h.dropLink .diagnose).enterState .probe).post (.job r tag)).alike ?_
    rw [probe, Port.linkDropped_silenced short]
    exact rfl
  · rw [if_neg linked, if_neg linked, if_neg linked]
    refine (((aborts.moves h rfl).enterState .probe).post (.job r tag)).alike ?_
    rw [probe, show y.stopActivity.withdrawn = y.withdrawn.stopActivity from rfl, Port.stopActivity_leftFor]
    exact rfl

/-- The end of the head job (R144). -/
theorem endJob (h : Moves o b t p y) (hj : y.jobs = j :: rest) (out : JobOutcome) :
    Moves o (b.endCell j.cell .done out .none j.start) (t.endJob p out) p y.jobEnded := by
  have jobs : (t.port p).jobs = j :: rest := h.jobs.trans hj
  rw [State.endJob_cons jobs]
  have ended := ((h.endCell j.cell .done out .none j.start).upd (f := fun x =>
    { x with jobs := rest, status := { x.status with running := none } }) fun _ _ => rfl).raise .jobDone
  refine ended.as ?_
  unfold Port.jobEnded
  rw [hj]
  rfl

/-- The start of a HOLD job, which ends it (R18). -/
theorem startHold (h : Moves o b t p y) (hj : y.jobs = j :: rest) (short : y.history.length ≤ 4)
    (aborts : Aborts b b' p y.request) :
    Moves o (b'.endCell j.cell .done .held .none j.start) (t.startHold p) p
      { y.heldDown b.tick with jobs := rest } := by
  have left := h.unlink .hold
  have asks : (if y.status.state = .linked then y.linkDropped b.tick .hold else y).request = y.request := by
    split_ifs <;> rfl
  have down := ((aborts.moves left asks).removeProfile).enterDisabled
  have away : Port.disable { (if y.status.state = .linked then y.linkDropped b.tick .hold else y).stopActivity.withdrawn
      with profile := none } = (y.unlinked b.tick .hold).withdrawn.cutShort.disabledNow := by
    refine (Port.stopActivity_disable (Port.withdrawn _)).trans ?_
    unfold Port.unlinked
    by_cases linked : y.status.state = .linked
    · rw [if_pos linked, if_pos linked, Port.linkDropped_silenced short]
      rfl
    · rw [if_neg linked, if_neg linked]
  rw [away] at down
  have jobs : (y.unlinked b.tick .hold).withdrawn.cutShort.disabledNow.jobs = j :: rest := by
    rw [← hj]
    unfold Port.unlinked
    split_ifs <;> rfl
  have ended := down.endJob jobs .held
  refine ended.alike ?_
  unfold Port.jobEnded
  rw [jobs]
  exact rfl

end Moves

end Sys2Proof.Machine

namespace Sys2Proof.Machine

/-! ### The starts of one event (R143) -/

/-- Between b and u these jobs have started, in order: each cell runs, or has ended on its start. -/
structure State.JobsBegun (b u : State) (starts : List (Job × Option Nat)) : Prop where
  cells : b.OnlyCells u (starts.map fun x => x.1.cell)
  each : ∀ x ∈ starts, (x.2 = none → u.cellRuns x.1.cell b.tick) ∧
    ∀ out, x.2 = some out → u.cellEnded x.1.cell 4 out 0 b.tick b.tick

theorem State.JobsBegun.nil {b : State} (h : b.memOk) : b.JobsBegun b [] := ⟨.start h, nofun⟩

/-- The one job that runs on. -/
theorem State.JobsBegun.one {b : State} (h : b.memOk) (j : Job) : b.JobsBegun (b.cellBegun j.cell) [(j, none)] where
  cells := .cellBegun h j.cell
  each := fun x hx => by
    obtain rfl := List.mem_singleton.mp hx
    exact ⟨fun _ => State.cellBegun_runs h j.cell, nofun⟩

theorem State.cellRuns_of_same {s t : State} {c : CellNo} {start : Ticks} (h : s.cellRuns c start)
    (mem : ∀ a, inCellHead c a → t.readMem a = s.readMem a) (custody : t.custodyOf c = s.custodyOf c) :
    t.cellRuns c start := by
  obtain ⟨w0, w4, w5, running⟩ := h
  have word : ∀ i, i < 8 → t.cellWord c i = s.cellWord c i := fun i hi => mem _ (inCellHead_word hi)
  exact ⟨(word 0 (by omega)).trans w0, (word 4 (by omega)).trans w4, (word 5 (by omega)).trans w5, custody.trans running⟩

/-- A job that ends on its start, before others start. -/
theorem State.JobsBegun.cons {b b' u : State} {starts : List (Job × Option Nat)} {j : Job} {out : Nat}
    (first : b.OnlyCells b' [j.cell]) (ended : b'.cellEnded j.cell 4 out 0 b.tick b.tick) (h : b'.JobsBegun u starts)
    (fresh : j.cell ∉ starts.map fun x => x.1.cell) : b.JobsBegun u ((j, some out) :: starts) where
  cells := first.trans h.cells
  each := fun x hx => by
    rcases List.mem_cons.mp hx with rfl | hx
    · exact ⟨nofun, fun _ e => Option.some.inj e ▸ h.cells.ended fresh ended⟩
    · rw [← first.frame.tick]
      exact h.each x hx

/-- A cell taken up and ended by the same event (R143, R144). -/
theorem State.beganAndEnded {b : State} (h : b.memOk) (c : CellNo) (out : JobOutcome) :
    let b' := (b.cellBegun c).endCell c .done out .none b.tick
    b.OnlyCells b' [c] ∧ b'.cellEnded c 4 out.code 0 b.tick b.tick := by
  have begun := State.OnlyCells.cellBegun h c
  have ended := State.OnlyCells.endCell begun.canonical c .done out .none b.tick
  have both := begun.trans ended
  refine ⟨⟨both.frame, both.canonical, fun a far => both.kept a (by simpa using far),
    fun d far => both.custody d (by simpa using far)⟩, ?_⟩
  have cell := State.endCell_ended begun.canonical c .done out .none b.tick
  rw [begun.frame.tick] at cell
  exact cell

/-! ### The list that waits -/

theorem jobsStarting_mem {linked : Bool} : ∀ {later : List Job} {x : Job × Option Nat}, x ∈ jobsStarting linked later →
    x.1 ∈ later := by
  intro later
  induction later generalizing linked with
  | nil => exact fun h => absurd h List.not_mem_nil
  | cons j rest ih =>
    intro x hx
    unfold jobsStarting at hx
    cases hw : j.work with
    | train f =>
      rw [hw] at hx
      exact List.mem_cons.mpr (.inl (congrArg Prod.fst (List.mem_singleton.mp hx)))
    | diagnose r i =>
      rw [hw] at hx
      dsimp only at hx
      split_ifs at hx with up
      · rcases List.mem_cons.mp hx with rfl | hx
        · exact List.mem_cons_self
        · exact List.mem_cons_of_mem _ (ih hx)
      · exact List.mem_cons.mpr (.inl (congrArg Prod.fst (List.mem_singleton.mp hx)))
    | hold =>
      rw [hw] at hx
      rcases List.mem_cons.mp hx with rfl | hx
      · exact List.mem_cons_self
      · exact List.mem_cons_of_mem _ (ih hx)

theorem startedCell_mem {linked : Bool} {later : List Job} {c : CellNo}
    (h : c ∈ (jobsStarting linked later).map fun x => x.1.cell) : c ∈ later.map Job.cell := by
  obtain ⟨x, hx, rfl⟩ := List.mem_map.mp h
  exact List.mem_map_of_mem (jobsStarting_mem hx)

section
variable {j : Job} {rest : List Job} {linked : Bool}

theorem jobsStarting_linkUp {r : Recipe} (hw : j.work = .diagnose r false) (up : linked = true) :
    jobsStarting linked (j :: rest) = (j, some 8) :: jobsStarting linked rest := by
  rw [jobsStarting_diagnose hw, if_pos (And.intro up rfl)]

theorem jobsStarting_goes {r : Recipe} {i : Bool} (hw : j.work = .diagnose r i)
    (goes : ¬ (linked = true ∧ i = false)) : jobsStarting linked (j :: rest) = [(j, none)] := by
  rw [jobsStarting_diagnose hw, if_neg goes]

variable {tick : Ticks} {ready : Bool} {x : Port}

theorem Port.jobsStarted_linkUp {r : Recipe} (hw : j.work = .diagnose r false) (up : x.status.state = .linked) :
    x.jobsStarted tick ready (j :: rest) = Port.jobsStarted tick ready rest { x with news := x.news ||| 1 } := by
  rw [Port.jobsStarted, hw]
  exact if_pos ⟨up, rfl⟩

theorem Port.jobsStarted_diagnose {r : Recipe} {i : Bool} (hw : j.work = .diagnose r i)
    (goes : ¬ (x.status.state = .linked ∧ i = false)) : x.jobsStarted tick ready (j :: rest) =
      { x.diagnoseStarted j.cell r j.tag tick with jobs := { j with start := tick } :: rest } := by
  rw [Port.jobsStarted, hw]
  exact if_neg goes

end

theorem Port.heldDown_relisted (x : Port) (l : List Job) (tick : Ticks) :
    ({ x with jobs := l } : Port).heldDown tick = { x.heldDown tick with jobs := l } := by
  unfold Port.heldDown
  dsimp only
  rw [Port.unlinked_relisted]
  rfl

theorem Port.diagnoseStarted_relisted (x : Port) (l : List Job) (c : CellNo) (r : Recipe) (tag : Word) (tick : Ticks) :
    ({ x with jobs := l } : Port).diagnoseStarted c r tag tick = { x.diagnoseStarted c r tag tick with jobs := l } := by
  unfold Port.diagnoseStarted
  dsimp only
  split_ifs <;> rfl

theorem Port.trainStarted_relisted (x : Port) (l : List Job) (c : CellNo) (f : Profile) (tick : Ticks) (ready : Bool) :
    ({ x with jobs := l } : Port).trainStarted c f tick ready = { x.trainStarted c f tick ready with jobs := l } := by
  unfold Port.trainStarted
  dsimp only
  rw [Port.unlinked_relisted, ← Port.sequenceStarted_relisted]
  rfl

/-- The list before takes no part in the starts. -/
theorem Port.jobsStarted_relisted (tick : Ticks) (ready : Bool) (later l : List Job) (x : Port) :
    Port.jobsStarted tick ready later { x with jobs := l } = x.jobsStarted tick ready later := by
  induction later generalizing x with
  | nil => rfl
  | cons j rest ih =>
    cases hw : j.work with
    | train f => rw [Port.jobsStarted_train hw, Port.jobsStarted_train hw, Port.trainStarted_relisted]
    | diagnose r i =>
      by_cases up : x.status.state = .linked ∧ i = false
      · obtain ⟨up, rfl⟩ := up
        rw [Port.jobsStarted_linkUp (x := { x with jobs := l }) hw up, Port.jobsStarted_linkUp hw up]
        exact ih { x with news := x.news ||| 1 }
      · rw [Port.jobsStarted_diagnose (x := { x with jobs := l }) hw up, Port.jobsStarted_diagnose hw up,
          Port.diagnoseStarted_relisted]
    | hold =>
      rw [Port.jobsStarted_hold hw, Port.jobsStarted_hold hw, Port.heldDown_relisted]
      exact ih (x.heldDown tick)

/-- A HOLD leaves nothing of its own start in the port but its end (R18). -/
theorem Port.heldDown_headTaken (x : Port) (j : Job) (t tick : Ticks) (rest : List Job) :
    (x.headTaken j t rest).heldDown tick = { x.heldDown tick with jobs := { j with start := t } :: rest } := by
  rw [← Port.heldDown_relisted]
  unfold Port.heldDown Port.unlinked Port.headTaken
  dsimp only
  split_ifs <;> rfl

theorem Port.relist_eq {x z : Port} {l : List Job} (h : x = { z with jobs := l }) (l' : List Job) :
    ({ x with jobs := l' } : Port) = { z with jobs := l' } := by
  rw [h]

theorem Port.heldDown_parts {x : Port} (short : x.history.length ≤ 4) (tick : Ticks) :
    (x.heldDown tick).status.state = .disabled ∧ (x.heldDown tick).status.running = none ∧
      (x.heldDown tick).history.length ≤ 4 := by
  refine ⟨rfl, rfl, ?_⟩
  show ((x.unlinked tick .hold).cutShort.withdrawn.disabledNow).history.length ≤ 4
  unfold Port.unlinked
  split_ifs with linked
  · show ((if x.history.length < 4 then x.history else x.history.tail) ++ [_]).length ≤ 4
    rw [List.length_append]
    split_ifs
    · simp only [List.length_cons, List.length_nil]
      omega
    · rw [List.length_tail]
      simp only [List.length_cons, List.length_nil]
      omega
  · exact short

/-! ### The starts move the port -/

theorem State.startJobsUpTo_waits {s : State} {p : PortNo} {j : Job} {rest : List Job} (none : (s.port p).status.running = none)
    (jobs : (s.port p).jobs = j :: rest) (n : Nat) :
    State.startJobsUpTo (n + 1) s p = State.startJobsUpTo n (s.startHead p) p := by
  rw [State.startJobsUpTo, none, jobs]
  rfl

theorem State.startJobsUpTo_runs {s : State} {p : PortNo} {c : CellNo} (runs : (s.port p).status.running = some c)
    (n : Nat) : State.startJobsUpTo n s p = s :=
  State.startJobsUpTo_of_settled (.inr (by rw [runs]; nofun)) n

/-- A DIAGNOSE that may not break the link ends on its start (R16). -/
theorem State.startDiagnose_linkUp {s : State} {p : PortNo} {r : Recipe} {tag : Word} {intrusive : Bool}
    (linked : (s.port p).status.state = .linked) (off : intrusive = false) :
    s.startDiagnose p r tag intrusive = s.endJob p .linkUp := by
  rw [State.startDiagnose, linked, off]
  rfl

/-- The jobs may start: no engine holds the port, its history is short, the sets are not empty. -/
structure Moves.CanStart (b : State) (p : PortNo) (y : Port) (later : List Job) : Prop where
  memOk : b.memOk
  free : b.engineOf p = none
  idle : y.status.running = none
  short : y.history.length ≤ 4
  allowed : ∀ j ∈ later, ∀ f, j.work = .train f → f.allowed ≠ 0
  once : (later.map Job.cell).Nodup

theorem Moves.startJobsUpTo : ∀ (later : List Job) {o : Bool} {b t : State} {p : PortNo} {y : Port}, Moves o b t p y →
    y.jobs = later → Moves.CanStart b p y later →
    ∃ u, Moves o u (State.startJobsUpTo later.length t p) p (y.jobsStarted b.tick (b.isReady (quadOf p)) later) ∧
      b.JobsBegun u (jobsStarting (decide (y.status.state = .linked)) later) := by
  intro later
  induction later with
  | nil =>
    intro o b t p y h jobs can
    exact ⟨b, h.as (congrArg (fun l => { y with jobs := l }) jobs), .nil can.memOk⟩
  | cons j rest ih =>
    intro o b t p y h jobs can
    have listed := h.jobs.trans jobs
    have begun := h.headBegun j rest
    have free : (b.cellBegun j.cell).engineOf p = none := can.free
    have once := List.nodup_cons.mp can.once
    rw [List.length_cons, State.startJobsUpTo_waits ((congrArg Status.running h.status).trans can.idle) listed]
    have linkUp : ∀ (t' : State) (out : JobOutcome) (y' : Port) (linked : Bool),
        Moves o ((b.cellBegun j.cell).endCell j.cell .done out .none b.tick) t' p { y' with jobs := rest } →
        y'.status.running = none → y'.history.length ≤ 4 → linked = decide (y'.status.state = .linked) →
        ∃ u, Moves o u (State.startJobsUpTo rest.length t' p) p (y'.jobsStarted b.tick (b.isReady (quadOf p)) rest) ∧
          b.JobsBegun u ((j, some out.code) :: jobsStarting linked rest) := by
      intro t' out y' linked moved idle short state
      obtain ⟨only, ended⟩ := State.beganAndEnded can.memOk j.cell out
      obtain ⟨u, reached, starts⟩ := ih moved rfl
        ⟨only.canonical, (only.frame.engineOf p).trans can.free, idle, short,
          fun k hk => can.allowed k (List.mem_cons_of_mem _ hk), once.2⟩
      rw [only.frame.tick, only.frame.isReady, Port.jobsStarted_relisted] at reached
      subst state
      exact ⟨u, reached, starts.cons only ended fun hc => once.1 (startedCell_mem hc)⟩
    cases hw : j.work with
    | train f =>
      rw [State.startHead_train listed hw, Port.jobsStarted_train hw, jobsStarting_train hw]
      have started := begun.startTrain rfl (can.allowed j List.mem_cons_self f hw) can.short (aborts_free free _)
      have started := started.as (Port.trainStarted_headTaken ..)
      have runs := congrArg Status.running started.status
      rw [State.startJobsUpTo_runs (runs.trans (Port.sequenceStarted_parts _ _ _).2.2.1)]
      exact ⟨_, started, .one can.memOk j⟩
    | diagnose r i =>
      rw [State.startHead_diagnose listed hw]
      by_cases up : y.status.state = .linked ∧ i = false
      · obtain ⟨up, rfl⟩ := up
        have state : ((t.headBegun p j rest).port p).status.state = .linked := (congrArg Status.state begun.status).trans up
        rw [State.startDiagnose_linkUp state rfl, Port.jobsStarted_linkUp hw up, jobsStarting_linkUp hw (decide_eq_true up)]
        have ended := begun.endJob rfl .linkUp
        refine linkUp _ .linkUp { y with news := y.news ||| 1 } _ (ended.as ?_) can.idle can.short rfl
        have own : ({ y.status with running := none } : Status) = y.status := by rw [← can.idle]
        exact congrArg (fun st => ({ y with news := y.news ||| 1, jobs := rest, status := st } : Port)) own
      · have goes : ¬ (decide (y.status.state = .linked) = true ∧ i = false) := fun h => up ⟨of_decide_eq_true h.1, h.2⟩
        rw [Port.jobsStarted_diagnose hw up, jobsStarting_goes hw goes]
        have started := begun.startDiagnose rfl r j.tag up can.short (aborts_free free _)
        have started := started.as (Port.diagnoseStarted_headTaken ..)
        rw [ite_self] at started
        have runs := congrArg Status.running started.status
        rw [State.startJobsUpTo_runs (c := j.cell) (runs.trans rfl)]
        exact ⟨_, started, .one can.memOk j⟩
    | hold =>
      rw [State.startHead_hold listed hw, Port.jobsStarted_hold hw, jobsStarting_hold hw]
      have started := begun.startHold rfl can.short (aborts_free free _)
      obtain ⟨state, idle, short⟩ := Port.heldDown_parts can.short b.tick
      refine linkUp _ .held (y.heldDown b.tick) _ (started.as ?_) idle short ?_
      · exact Port.relist_eq (y.heldDown_headTaken j b.tick b.tick rest) rest
      · rw [state]
        decide

end Sys2Proof.Machine

namespace Sys2Proof.Machine

/-! ### Ends of jobs, and the starts behind them (R144, R143) -/

/-- Between b and u job j, which leaves its port as z, ends DONE, and of the jobs behind it these start. -/
structure State.JobEnds (b u : State) (j : Job) (out : Nat) (z : Port) (later : List Job) : Prop where
  cells : b.OnlyCells u (j.cell :: startedCells z later)
  ended : u.cellEnded j.cell 4 out 0 j.start b.tick
  starts : ∀ x ∈ jobsStarting (decide (z.status.state = .linked)) later,
    (x.2 = none → u.cellRuns x.1.cell b.tick) ∧
      ∀ outcome, x.2 = some outcome → u.cellEnded x.1.cell 4 outcome 0 b.tick b.tick

/-- The jobs behind the end of one may start: asked only where jobs wait. -/
def State.mayStart (b : State) (p : PortNo) (y : Port) (later : List Job) : Prop :=
  later = [] ∨ b.engineOf p = none ∧ y.history.length ≤ 4 ∧ ∀ j ∈ later, ∀ f, j.work = .train f → f.allowed ≠ 0

theorem State.startJobs_waiting {t : State} {p : PortNo} {later : List Job} (jobs : (t.port p).jobs = later) :
    t.startJobs p = State.startJobsUpTo later.length t p := by
  rw [State.startJobs, jobs]

/-- The starts behind the end of a job (R144 step 6, R143). -/
theorem Moves.startsBehind {o : Bool} {b t : State} {p : PortNo} {z : Port} {later : List Job} (h : Moves o b t p z)
    (jobs : z.jobs = later) (idle : z.status.running = none) (hm : b.memOk) (once : (later.map Job.cell).Nodup)
    (may : b.mayStart p z later) :
    ∃ u, Moves o u (t.startJobs p) p (z.jobsStarted b.tick (b.isReady (quadOf p)) later) ∧
      b.JobsBegun u (jobsStarting (decide (z.status.state = .linked)) later) := by
  rw [State.startJobs_waiting (h.jobs.trans jobs)]
  rcases may with rfl | ⟨free, short, allowed⟩
  · exact ⟨b, h.as (congrArg (fun l => { z with jobs := l }) jobs), .nil hm⟩
  · exact Moves.startJobsUpTo later h jobs ⟨hm, free, idle, short, allowed, once⟩

/-- The end of the head job, with the starts behind it. -/
theorem Moves.jobEnds {o : Bool} {b t : State} {p : PortNo} {y : Port} {j : Job} {later : List Job} (h : Moves o b t p y)
    (hj : y.jobs = j :: later) (hm : b.memOk) (once : ((j :: later).map Job.cell).Nodup) (may : b.mayStart p y later)
    (out : JobOutcome) :
    ∃ u, Moves o u ((t.endJob p out).startJobs p) p (y.jobEnded.jobsStarted b.tick (b.isReady (quadOf p)) later) ∧
      b.JobEnds u j out.code y.jobEnded later := by
  have only := State.OnlyCells.endCell hm j.cell .done out .none j.start
  have cell := State.endCell_ended hm j.cell .done out .none j.start
  have once := List.nodup_cons.mp once
  obtain ⟨u, reached, starts⟩ := (h.endJob hj out).startsBehind (congrArg List.tail hj) rfl only.canonical once.2
    (may.imp_right fun ⟨free, rest⟩ => ⟨(only.frame.engineOf p).trans free, rest⟩)
  rw [only.frame.tick, only.frame.isReady] at reached
  refine ⟨u, reached, only.trans starts.cells, starts.cells.ended (fun hc => once.1 (startedCell_mem hc)) cell, ?_⟩
  rw [← only.frame.tick]
  exact starts.each

/-- What `jobEnds` leaves, at the close. -/
theorem Moves.close_jobEnds {b u t : State} {p : PortNo} {z : Port} (h : Moves true u t p z) (same : b.SameButCells u)
    (closed : b.editsClosed) : t.closeEdits = u.setPort p { z with editCount := (b.port p).editCount + 2 } := by
  rw [h.close (same.editsClosed closed), same.port]

theorem State.cellEnded_setPort {u : State} {p : PortNo} {z : Port} {c : CellNo} {w : Word} {out why : Nat}
    {start stop : Ticks} (h : u.cellEnded c w out why start stop) : (u.setPort p z).cellEnded c w out why start stop := h

/-- A running TRAIN job at the head of the list is what began the sequence (R15). -/
theorem Port.runsTrain_running {x : Port} {j : Job} {later : List Job} {c : CellNo} {f : Profile} (jobs : x.jobs = j :: later)
    (running : x.status.running = some c) (train : j.work = .train f) : x.runsTrain = true := by
  obtain ⟨cell, tag, work, start⟩ := j
  cases train
  rw [Port.runsTrain, jobs, running]
  rfl

/-- The end of a sequence, as the statements say it (R10, R144): the event has opened the port's edit. -/
theorem Moves.sequenceEnds {s t : State} {p : PortNo} {y : Port} {result : Host.Outcome State Fault Refusal}
    {out : JobOutcome} (h : Moves true s t p y) (closed : s.editsClosed)
    (e : result = .next ((t.endTrain p out).startJobs p).closeEdits) (jobs : y.jobs = (s.port p).jobs)
    (running : y.status.running = (s.port p).status.running) (count : y.editCount = (s.port p).editCount) :
    s.sequenceEnds result p y out.code := by
  unfold State.sequenceEnds
  intro x
  refine ⟨fun jobless => ?_, fun j f later hm hj runs train can free => ?_⟩
  · have jobless' : y.jobless := ⟨jobs.trans jobless.1, running.trans jobless.2⟩
    have ended := (h.endTrain_other (Port.runsTrain_jobless jobless') out).startJobs_settled (.inl jobless'.1)
    rw [e, ended.close_counted closed (y' := y.edited) (Port.alike_edited y).symm (congrArg (· + 2) count)]
  · intro cells
    have hj' : y.jobs = j :: later := jobs.trans hj
    have trains : (t.port p).runsTrain = true := h.runsTrain.trans (Port.runsTrain_running hj' (running.trans runs) train)
    have once : ((j :: later).map Job.cell).Nodup := by
      rcases can with rfl | ⟨ok, -⟩
      · exact List.nodup_singleton _
      · rw [← hj]
        exact ok.listOnce p
    have may : s.mayStart p y later := by
      rcases can with none | ⟨-, -, short, allowed⟩
      · exact .inl none
      · exact free.imp id fun free => ⟨free, short, allowed⟩
    obtain ⟨u, moved, ends⟩ := h.jobEnds hj' hm once may out
    rw [State.endTrain, if_pos trains, moved.close_jobEnds ends.cells.frame closed] at e
    obtain ⟨mem, custody, frame⟩ := ends.cells.frame
    refine ⟨_, e, ends.ended, ⟨ends.starts, State.port_setPort_self ..⟩, ⟨fun a far _ => ends.cells.kept a far, nofun⟩,
      ends.cells.custody, ?_⟩
    rw [State.port_setPort_self]
    subst frame
    rfl

end Sys2Proof.Machine

namespace Sys2Proof.Machine

/-! ### Sequences that end (R10, R11, R76) -/

/-- What an event that ends a sequence has left of the port so far: its jobs, its running cell, its edit count. -/
structure Port.Stands (x y : Port) : Prop where
  jobs : y.jobs = x.jobs
  running : y.status.running = x.status.running
  count : y.editCount = x.editCount

theorem Port.Stands.refl (x : Port) : x.Stands x := ⟨rfl, rfl, rfl⟩

theorem Port.Stands.settled {x y : Port} (h : x.Stands y) (waits : x.settled) : y.settled := by
  rw [Port.settled, h.jobs, h.running]
  exact waits

namespace Moves
variable {o : Bool} {s t : State} {p : PortNo} {y : Port}

/-- An attempt's last failure ends the sequence in IDLE (R10). -/
theorem failAttempt_final (h : Moves o s t p y) (closed : s.editsClosed) (stands : (s.port p).Stands y)
    (active : (s.port p).status.state ≠ .idle) {why : AttemptResult} (final : y.endsSequence why) :
    s.sequenceEnds (.next ((t.failAttempt p why).startJobs p).closeEdits) p ((y.chargedFor why).failedInto why .idle)
      why.outcome.code := by
  obtain ⟨u, e, moved⟩ := h.failAttempt_ends final
  refine ((moved.opened (Port.samePage_of_status_ne fun e => active (congrArg Status.state e))).sequenceEnds closed
    (by rw [e]) ?_ ?_ ?_) <;> rw [Port.chargedFor_eq]
  · exact stands.jobs
  · exact stands.running
  · exact stands.count

/-- An attempt's failure with attempts left (R10). -/
theorem failAttempt_backsOff (h : Moves o s t p y) (closed : s.editsClosed) (stands : (s.port p).Stands y)
    (waits : (s.port p).settled) (active : (s.port p).status.state ≠ .backoff) {why : AttemptResult}
    (left : ¬ y.endsSequence why) :
    ((t.failAttempt p why).startJobs p).closeEdits = s.setPort p ((y.chargedFor why).backedOff why) := by
  have settled : ((y.chargedFor why).backedOff why).settled := by
    rw [Port.chargedFor_eq]
    exact stands.settled waits
  refine ((((h.failAttempt_retry left).startJobs_settled settled).opened (Port.samePage_of_status_ne fun e =>
    active (congrArg Status.state e))).close_counted closed (.refl _) ?_)
  rw [Port.chargedFor_eq]
  exact congrArg (· + 2) stands.count

/-- An attempt that may not start, its sets apart (R8). -/
theorem startAttempt_apart (h : Moves o s t p y) (apart : ¬ y.setsMeet) :
    ∃ u, t.startAttempt p = u.endTrain p .cableFault ∧ Moves o s u p (y.leftFor .cableHold) := by
  have sets : (t.port p).status.qualSet &&& (t.port p).status.offerSet = 0 := by
    rw [h.status, BitVec.and_comm]
    exact not_not.mp apart
  exact ⟨t.enterState p .cableHold, if_pos sets, (h.enterState .cableHold).as (y.enter_quiet _ (by simp))⟩

end Moves

/-- Settles O27: each of the four events fails the attempt, which is the last. -/
theorem lastFailureEndsInIdle : Obligations.LastFailureEndsInIdle := by
  unfold Obligations.LastFailureEndsInIdle
  intro s p working closed x charged ends
  have plain : ∀ {why : AttemptResult}, x.endsSequence why → x.status.state ≠ .idle →
      s.sequenceEnds (.next ((s.failAttempt p why).startJobs p).closeEdits) p ((x.chargedFor why).failedInto why .idle)
        why.outcome.code := fun final active =>
    (Moves.start s p).failAttempt_final closed (.refl x) active final
  refine ⟨fun state due final => ?_, fun limit => ⟨fun state due => ?_, fun state sub up free => ?_, fun state due bad => ?_⟩⟩
  · have taken : exec (.offerTimeout p) s = s.take fun s => s.ifRunning fun s => s.offerTimeout p := rfl
    simp only [ends]
    rw [taken, State.take_working working, State.offerTimeout, if_pos (by simp [x] at state due; simp [state, due])]
    exact plain (why := .noPartner) (.inr (final.imp_left fun off => ⟨rfl, off⟩)) (by rw [state]; decide)
  · have taken : exec (.lockTimeout p) s = s.take fun s => s.ifRunning fun s => s.lockTimeout p := rfl
    simp only [ends]
    rw [taken, State.take_working working, State.lockTimeout, if_pos (by simp [x] at state due; simp [state, due])]
    exact plain (why := .lockTimeout) (.inr (.inr limit)) (by rw [state]; decide)
  · have taken : exec (.lockFall p) s = s.take fun s => s.ifRunning fun s => s.lockFalls p := rfl
    have down := Moves.first s p (f := fun x => { x with lockUp := false }) fun _ _ => rfl
    have same : charged.failedInto .lockLostInVerify .idle =
        (({ x with lockUp := false } : Port).chargedFor .lockLostInVerify).failedInto .lockLostInVerify .idle := by
      rw [Port.chargedFor_charged rfl]
      show _ = (Port.charge { x with lockUp := false } x.link.rate).failedInto _ _
      rw [Port.charge_lockDown]
      rfl
    simp only [ends]
    rw [taken, State.take_working working, State.lockFalls_inWindow state sub up free, same]
    exact down.failAttempt_final closed ⟨rfl, rfl, rfl⟩ (by
      show x.status.state ≠ .idle
      rw [state]
      decide) (.inr (.inr limit))
  · have taken : exec (.verifyWindowEnd p) s = s.take fun s => s.ifRunning fun s => s.verifyWindowEnd p := rfl
    have fails : s.verifyWindowEnd p = (s.failAttempt p .verifyErrors).startJobs p := by
      rw [State.verifyWindowEnd, if_pos (by simp [x] at state due; simp [state, due]), if_neg (Nat.not_le.mpr bad)]
    simp only [ends]
    rw [taken, State.take_working working, fails]
    exact plain (why := .verifyErrors) (.inr (.inr limit)) (by rw [state]; decide)

/-- Settles O29: a backoff ends in an attempt, in CABLE_HOLD, or starts again. -/
theorem backoffExpiryStartsAttempt : Obligations.BackoffExpiryStartsAttempt := by
  unfold Obligations.BackoffExpiryStartsAttempt
  intro s p working closed x
  have taken : exec (.backoffExpiry p) s = s.take fun s => s.ifRunning fun s => s.backoffExpiry p := rfl
  rw [taken]
  refine ⟨fun early => ?_, fun state due => ?_⟩
  · refine State.take_idle working closed (if_neg ?_)
    rw [Bool.and_eq_true, decide_eq_true_eq, decide_eq_true_eq]
    exact fun h => early.elim (· h.1) (· h.2)
  have expires : s.backoffExpiry p = if s.isReady (quadOf p) = true then (s.startAttempt p).startJobs p
      else s.updPort p fun x => { x with timers := { x.timers with backoff := some x.backoffLen } } :=
    if_pos (by simp [x] at state due; simp [state, due])
  refine ⟨fun down => ?_, fun ready meet waits => ?_, fun ready apart => ?_⟩
  · rw [down, if_neg Bool.false_ne_true] at expires
    exact State.take_updPort_same working closed expires rfl rfl (Port.samePage_of_eq rfl rfl rfl rfl rfl)
  · rw [if_pos ready] at expires
    have started := (Moves.start s p).startAttempt (.inr meet)
    rw [ready, show (s.port p).attemptStarted true = x.attemptBegun from
      (if_neg meet).trans (if_pos rfl)] at started
    rw [State.take_working working, expires, ((started.startJobs_settled (y := x.attemptBegun) waits).opened
      (Port.samePage_of_status_ne fun e => ?_)).close_counted closed (.refl _) rfl]
    exact PortState.noConfusion (state.symm.trans (congrArg Status.state e))
  · rw [if_pos ready] at expires
    obtain ⟨u, e, moved⟩ := (Moves.start s p).startAttempt_apart (not_not.mpr apart)
    rw [State.take_working working, expires, e]
    refine (moved.opened (Port.samePage_of_status_ne fun e => ?_)).sequenceEnds closed rfl rfl rfl rfl
    exact PortState.noConfusion (state.symm.trans (congrArg Status.state e))

/-- The port as it enters LINKED (R76). -/
def Port.linkedUp (x : Port) (tick : Ticks) : Port :=
  let y := (x.recorded tick none x.link).counted 8
  { y with
    news := x.news ||| 2
    status := { y.status with
      state := .linked, sub := .none, lastResult := .linked, errPub := x.errTotal, unlockPub := x.unlockTotal }
    timers := ⟨none, none, none, none, some x.prof.monitorWindow, none, none, none⟩
    sender := ⟨none, false, none⟩
    decoder := { x.decoder with burst := none }
    monitor := ⟨0, 0, 0⟩ }

/-- LINKED entered, and the TRAIN job left to end (R76). -/
theorem Moves.enterLinked {o : Bool} {b t : State} {p : PortNo} {y : Port} (h : Moves o b t p y)
    (short : y.history.length ≤ 4) :
    ∃ u, t.enterLinked p = u.endTrain p .linked ∧ Moves o b u p (y.linkedUp b.tick) := by
  have moved := (h.upd (f := fun x =>
    let y := x.enter .linked
    Port.bump { Port.writeRecord { y with status := { y.status with lastResult := .linked } } t.tick none with
      monitor := Monitor.zero
      timers := { Timers.stopped with monitor := some y.prof.monitorWindow } } .linkUps) fun _ _ => rfl).raise .linkUp
  refine ⟨_, rfl, moved.as ?_⟩
  dsimp only
  rw [Port.bump_eq_counted, Port.writeRecord_eq_recorded _ (by exact short), h.tick]
  rfl

/-- Settles O43: a verified port is LINKED. -/
theorem verifiedPortIsLinked : Obligations.VerifiedPortIsLinked := by
  unfold Obligations.VerifiedPortIsLinked
  intro s p working closed short x y state due good
  have taken : exec (.verifyWindowEnd p) s = s.take fun s => s.ifRunning fun s => s.verifyWindowEnd p := rfl
  have enters : s.verifyWindowEnd p = (s.enterLinked p).startJobs p := by
    rw [State.verifyWindowEnd, if_pos (by simp [x] at state due; simp [state, due]), if_pos good]
  obtain ⟨u, e, moved⟩ := (Moves.start s p).enterLinked short
  rw [taken, State.take_working working, enters, e]
  refine (moved.opened (Port.samePage_of_status_ne fun e => ?_)).sequenceEnds closed rfl rfl rfl rfl
  exact PortState.noConfusion (state.symm.trans (congrArg Status.state e))

end Sys2Proof.Machine

namespace Sys2Proof.Machine

/-! ### Resolution (R57 to R63) -/

theorem RateSet.highest_eq {kept : RateSet} {rate : Rate} (has : kept.getLsbD rate.code.val = true)
    (above : ∀ i, rate.code.val < i → kept.getLsbD i = false) : RateSet.highest kept = some rate := by
  have h1 := above 1
  have h2 := above 2
  have h3 := above 3
  cases rate <;> simp_all [RateSet.highest, RateSet.has, Rate.code]

theorem RateSet.highest_zero : RateSet.highest 0 = none := by decide

theorem capRates_eq (common : RateSet) (q : Word) : capRates common q =
    if q.getLsbD 9 = true ∧ q.getLsbD 10 = true then common else common &&& 1 := by
  refine if_congr ?_ rfl rfl
  rw [Bool.and_eq_true]
  rfl

theorem Port.roles_congr {x y : Port} (h : x.status = y.status) : x.roles = y.roles := by
  unfold Port.roles
  rw [h]

theorem Port.commonRates_congr {x y : Port} (h : x.status = y.status) : x.commonRates = y.commonRates := by
  unfold Port.commonRates
  rw [h]

theorem Port.keptRates_congr {x y : Port} (h : x.status = y.status) : x.keptRates = y.keptRates := by
  unfold Port.keptRates
  rw [Port.commonRates_congr h, h]

/-- The port as a role fault leaves it (R14, R60). -/
def Port.roleFaulted (x : Port) : Port := { (x.counted 6).failedInto .roleFault .roleHold with
  news := x.news ||| 8
  timers := ⟨none, none, none, none, none, none, none, if x.prof.roleHold = 0 then none else some x.prof.roleHold⟩ }

/-- One more seed clash (R59). -/
def Port.clashed (x : Port) : Port :=
  ({ x with exch := { x.exch with clashes := x.exch.clashes + 1 } } : Port).bump .seedClashes

theorem Port.clashed_eq (x : Port) :
    x.clashed = { x.counted 5 with exch := { x.exch with clashes := x.exch.clashes + 1 } } := by
  rw [Port.clashed, Port.bump_eq_counted]
  rfl

/-- The exchange from page 0 with a fresh seed (R59). -/
def Port.reseeded (x : Port) : Port :=
  Port.buildPage { x.toPageZero with status := { x.toPageZero.status with seed := x.freshSeed } } 0

/-- The exchange back at page 0, its word rebuilt with the flags it showed (R53, R36). -/
theorem Port.toPageZero_buildPage (x : Port) : x.toPageZero.buildPage 0 = { x with
    exch := ⟨none, 0, false, false, 0, false, x.exch.restarts, x.exch.clashes⟩
    status := { x.status with
      page := 0, partner := Vector.replicate 4 none
      ours := (Vector.replicate 4 none).set 0 (some (x.content 0 ||| (x.status.ours[0].getD 0 &&& 0x1800))) } } := by
  have ours : ((Vector.replicate 4 none).set 0 x.status.ours[0]).set (0 : PageNo).val (some (x.toPageZero.content 0 |||
      (((Vector.replicate 4 none).set 0 x.status.ours[0])[(0 : PageNo)].getD 0 &&& 0x1800))) =
      (Vector.replicate 4 none).set 0 (some (x.content 0 ||| (x.status.ours[0].getD 0 &&& 0x1800))) := by
    rw [show x.toPageZero.content 0 = x.content 0 from rfl]
    simp
  exact congrArg (fun v => { x with
    exch := ⟨none, 0, false, false, 0, false, x.exch.restarts, x.exch.clashes⟩
    status := { x.status with page := 0, partner := Vector.replicate 4 none, ours := v } }) ours

theorem Port.reseeded_eq {x : Port} {o0 : Word} (ours : x.status.ours[0] = some o0) : x.reseeded = { x with
    exch := ⟨none, 0, false, false, 0, false, x.exch.restarts, x.exch.clashes⟩
    status := { x.status with
      page := 0, seed := x.seedGen.extractLsb' 11 5, partner := Vector.replicate 4 none
      ours := (Vector.replicate 4 none).set 0 (some (pageZeroWord (x.status.offerSet &&& x.status.qualSet) x.prof.claim
        (x.seedGen.extractLsb' 11 5) ||| (o0 &&& 0x1800))) } } := by
  have reordered : x.reseeded = Port.buildPage (Port.toPageZero { x with
      status := { x.status with seed := x.freshSeed } }) 0 := rfl
  rw [reordered, Port.toPageZero_buildPage, Port.content_zero]
  show ({ x with exch := _, status := { x.status with page := 0, seed := _, partner := _, ours := Vector.set _ _ (some
    (_ ||| (x.status.ours[0].getD 0 &&& 0x1800))) } } : Port) = _
  rw [ours]
  rfl

theorem State.resolveLink_of_fault {s : State} {p : PortNo} (h : (s.port p).roles = .fault) :
    s.resolveLink p = s.roleFault p := by
  unfold Port.roles at h
  simp only [State.resolveLink, h]

theorem State.resolveLink_of_clash {s : State} {p : PortNo} (h : (s.port p).roles = .clash) :
    s.resolveLink p = s.seedClash p := by
  unfold Port.roles at h
  simp only [State.resolveLink, h]

section
variable {o : Bool} {s t : State} {p : PortNo} {y : Port}

namespace Moves

theorem roleFault (h : Moves o s t p y) :
    ∃ u, t.roleFault p = u.endTrain p .roleFault ∧ Moves o s u p y.roleFaulted := by
  have moved := (h.upd (f := fun x =>
    let y : Port := { x.enter .roleHold with status := { (x.enter .roleHold).status with lastResult := .roleFault } }
    Port.bump { y with timers := { Timers.stopped with
      roleHold := if y.prof.roleHold = 0 then none else some y.prof.roleHold } } .roleFaults) fun _ _ => rfl).raise .roleFault
  refine ⟨_, rfl, moved.as ?_⟩
  dsimp only
  rw [Port.bump_eq_counted, Port.enter_quiet _ _ (by simp)]
  rfl

/-- A seed clash, counted (R59): the seventh is a role fault, an earlier one restarts the exchange. -/
theorem seedClash (h : Moves o s t p y) : Moves o s (t.updPort p Port.clashed) p y.clashed ∧
    (6 ≤ y.exch.clashes → t.seedClash p = (t.updPort p Port.clashed).roleFault p) ∧
    (y.exch.clashes < 6 → t.seedClash p = (t.updPort p Port.clashed).updPort p Port.reseeded) := by
  have moved := h.upd (f := Port.clashed) fun _ _ => rfl
  have clashes : ((t.updPort p Port.clashed).port p).exch.clashes = y.exch.clashes + 1 := by
    rw [moved.exch, Port.clashed_eq]
  have equation : t.seedClash p = if Config.clashLimit ≤ ((t.updPort p Port.clashed).port p).exch.clashes
      then (t.updPort p Port.clashed).roleFault p else (t.updPort p Port.clashed).updPort p Port.reseeded := rfl
  rw [equation, clashes, show Config.clashLimit = 7 from rfl]
  exact ⟨moved, fun many => if_pos (by omega), fun few => if_neg (by omega)⟩

/-- The exchange ends as the statements say (R57). -/
theorem resolves {result : Host.Outcome State Fault Refusal} (h : Moves o s t p y) (closed : s.editsClosed)
    (stands : (s.port p).Stands y) (waits : (s.port p).settled) (active : (s.port p).status.state = .exchange)
    (partner : y.status.partner = (s.port p).status.partner)
    (e : result = .next ((t.resolveLink p).startJobs p).closeEdits) : s.resolves result p y := by
  unfold State.resolves
  intro o0 q0 q1 ho hq0 hq1 common kept claims faulted
  have roles : (t.port p).roles = claims := by
    rw [Port.roles_congr h.status, Port.roles, ho, hq0]
    rfl
  have commonRates : (t.port p).commonRates = common := by
    rw [Port.commonRates_congr h.status, Port.commonRates, ho, hq0]
    rfl
  have keptRates : (t.port p).keptRates = kept := by
    rw [Port.keptRates, commonRates, h.status, hq1]
    exact capRates_eq common q1
  have leaves : ∀ {z : Port}, z.status.state ≠ .exchange → Port.samePage (s.port p) z = false := fun away =>
    Port.samePage_of_status_ne fun e => away ((congrArg Status.state e).symm.trans active)
  have faults : ∀ {t' : State} {z : Port}, Moves o s t' p z → (s.port p).Stands z → 
      s.sequenceEnds (.next ((t'.roleFault p).startJobs p).closeEdits) p z.roleFaulted 6 := by
    intro t' z h' stands'
    obtain ⟨u, e, moved⟩ := h'.roleFault
    rw [e]
    exact (moved.opened (leaves (by nofun))).sequenceEnds closed rfl stands'.jobs stands'.running stands'.count
  refine ⟨fun role rate settled has above => ?_, fun role settled none => ?_, fun fault => ?_, fun clash many => ?_,
    fun clash few => ?_⟩
  · have highest : RateSet.highest (t.port p).keptRates = some rate := by
      rw [keptRates]
      exact RateSet.highest_eq has above
    rw [State.resolveLink_of_rate (roles.trans settled) highest, keptRates, commonRates] at e
    have moved := h.upd (f := fun x => x.enterVerify rate role (decide (kept ≠ common))) fun _ _ => rfl
    rw [e]
    exact congrArg Host.Outcome.next (((moved.startJobs_settled (stands.settled waits)).opened
      (leaves (by nofun))).close_counted closed rfl (congrArg (· + 2) stands.count))
  · have highest : RateSet.highest (t.port p).keptRates = Option.none := by
      rw [keptRates, none]
      exact RateSet.highest_zero
    rw [State.resolveLink_of_noRate (roles.trans settled) highest] at e
    rw [e]
    exact h.failAttempt_final closed stands (by rw [active]; decide) (.inl rfl)
  · have isFault : t.resolveLink p = t.roleFault p := State.resolveLink_of_fault (roles.trans fault)
    rw [e, isFault]
    exact faults h stands
  · obtain ⟨clashed, known⟩ := h.seedClash
    have isFault : t.resolveLink p = (t.updPort p Port.clashed).roleFault p :=
      (State.resolveLink_of_clash (roles.trans clash)).trans (known.1 many)
    rw [e, isFault]
    refine (congrArg (s.sequenceEnds _ p · 6) ?_).mp (faults clashed ⟨?_, ?_, ?_⟩)
    all_goals rw [Port.clashed_eq]
    · rfl
    · exact stands.jobs
    · exact stands.running
    · exact stands.count
  · intro seed
    obtain ⟨clashed, known⟩ := h.seedClash
    have restarts : t.resolveLink p = (t.updPort p Port.clashed).updPort p Port.reseeded :=
      (State.resolveLink_of_clash (roles.trans clash)).trans (known.2 few)
    have fresh := Port.reseeded_eq (x := y.clashed) (o0 := o0) (by rw [Port.clashed_eq]; exact ho)
    have moved := (clashed.upd (f := Port.reseeded) fun _ _ => rfl).as fresh
    rw [Port.clashed_eq] at moved
    rw [e, restarts]
    refine congrArg Host.Outcome.next (((moved.startJobs_settled (stands.settled waits)).opened
      (Port.samePage_of_status_ne fun e => ?_)).close_counted closed rfl (congrArg (· + 2) stands.count))
    · have cleared : (s.port p).status.partner = Vector.replicate 4 none := congrArg Status.partner e
      rw [partner, cleared] at hq0
      exact absurd hq0 (by simp)

end Moves
end

/-- Settles O35: the burst that completes the last page resolves the link. -/
theorem exchangeEndResolvesLink : Obligations.ExchangeEndResolvesLink := by
  unfold Obligations.ExchangeEndResolvesLink
  intro s p w working closed x k waits onLine exchange isMatched sent seen ack ofPage last
  have counts : x.countsAck w := ⟨exchange, isMatched, ack, ofPage, sent.trans_lt (by decide)⟩
  have moved := Moves.first s p (Port.blind_sent w)
  rw [show (s.port p).sent w = _ from Port.sent_counts counts] at moved
  have done : ((x.burstShown w).ackCounted).pageDone := ⟨Nat.le_of_eq (congrArg (· + 1) sent).symm, seen⟩
  have noMore : ¬ ((x.burstShown w).ackCounted).morePages := by
    rintro ⟨notLast, more⟩
    obtain ⟨ours, theirs⟩ := last.resolve_left notLast
    rcases more with more | more
    · exact Bool.false_ne_true (ours.symm.trans ((Status.shown_more ofPage).symm.trans more))
    · exact Bool.false_ne_true (theirs.symm.trans more)
  have taken : exec (.burstSent p) s = s.take fun s => s.ifRunning fun s => s.burstSent p := rfl
  rw [taken, State.take_working working, State.burstSent_counts onLine counts, moved.completeIfDone_last done noMore]
  have ended := moved.resolves closed ⟨rfl, rfl, rfl⟩ waits exchange rfl rfl
  have y : ((x.burstShown w).ackCounted) = { x with
      sender := { x.sender with onLine := none }
      exch := { x.exch with ackSent := 3 }
      status := { x.status with
        ours := x.status.ours.set k (x.status.ours[k].map fun c => (c &&& 0xE7FF) ||| (w &&& 0x1800)) } } := by
    rw [← Status.shown_at ofPage, show (3 : Nat) = x.exch.ackSent + 1 from (congrArg (· + 1) sent).symm]
    rfl
  rw [y] at ended
  exact ended

end Sys2Proof.Machine

namespace Sys2Proof.Machine

/-! ### Words sorted in EXCHANGE (R48 to R54) -/

/-- One more restart, counted (R54). -/
def Port.restarted (x : Port) : Port :=
  ({ x with exch := { x.exch with restarts := x.exch.restarts + 1 } } : Port).bump .pageRestarts

theorem Port.restarted_eq (x : Port) :
    x.restarted = { x.counted 3 with exch := { x.exch with restarts := x.exch.restarts + 1 } } := by
  rw [Port.restarted, Port.bump_eq_counted]
  rfl

/-- The current page begun again (R50). -/
def Port.pageBegunAgain (x : Port) : Port :=
  Port.buildPage { x with
    exch := x.exch.unmatched
    status := { x.status with partner := x.status.partner.set x.status.page none } } x.status.page

/-- The exchange begun again from page 0 (R53). -/
def Port.exchangeBegunAgain (x : Port) : Port := x.toPageZero.buildPage 0

namespace Moves
variable {o : Bool} {s t : State} {p : PortNo} {y : Port}

/-- A restart that is carried out, and the fifth, which fails the attempt (R54). -/
theorem restart (h : Moves o s t p y) {carryOut : Port → Port} (blind : Port.Blind carryOut) :
    (y.exch.restarts < 4 → Moves o s (t.restart p carryOut) p (carryOut y.restarted)) ∧
      (y.exch.restarts = 4 → ∃ u, t.restart p carryOut = u.failAttempt p .exchangeUnstable ∧ Moves o s u p y.restarted) := by
  have counted := h.upd (f := Port.restarted) fun _ _ => rfl
  have restarts : ((t.updPort p Port.restarted).port p).exch.restarts = y.exch.restarts + 1 := by
    rw [counted.exch, Port.restarted_eq]
  have equation : t.restart p carryOut = if Config.restartLimit ≤ ((t.updPort p Port.restarted).port p).exch.restarts
      then (t.updPort p Port.restarted).failAttempt p .exchangeUnstable
      else (t.updPort p Port.restarted).updPort p carryOut := rfl
  rw [equation, restarts, show Config.restartLimit = 5 from rfl]
  refine ⟨fun few => ?_, fun fifth => ⟨_, if_pos (by omega), counted⟩⟩
  rw [if_neg (by omega)]
  exact counted.upd blind

/-- The fifth restart (R54, R10): the attempt backs off, or its sequence ends. -/
theorem restart_unstable (h : Moves o s t p y) {carryOut : Port → Port} (blind : Port.Blind carryOut)
    (closed : s.editsClosed) (stands : (s.port p).Stands y) (active : (s.port p).status.state = .exchange)
    (fifth : y.exch.restarts = 4) :
    (y.status.attempts < y.prof.attemptLimit → (s.port p).settled →
      ((t.restart p carryOut).startJobs p).closeEdits = s.setPort p ((y.counted 3).backedOff .exchangeUnstable)) ∧
    (y.prof.attemptLimit ≤ y.status.attempts →
      s.sequenceEnds (.next ((t.restart p carryOut).startJobs p).closeEdits) p
        ((y.counted 3).failedInto .exchangeUnstable .idle) 3) := by
  obtain ⟨u, e, moved⟩ := (h.restart blind).2 fifth
  rw [Port.restarted_eq] at moved
  have stands' : (s.port p).Stands { y.counted 3 with exch := { y.exch with restarts := y.exch.restarts + 1 } } :=
    ⟨stands.jobs, stands.running, stands.count⟩
  rw [e]
  refine ⟨fun left waits => ?_, fun final => ?_⟩
  · refine moved.failAttempt_backsOff closed stands' waits (by rw [active]; decide) ?_
    rintro (c | ⟨c, -⟩ | limit)
    · cases c
    · cases c
    · exact absurd limit (Nat.not_le.mpr left)
  · exact moved.failAttempt_final closed stands' (by rw [active]; decide) (.inr (.inr final))

end Moves

/-- Sorting once the break timer has started again (R48). -/
def State.sortTimed (s : State) (p : PortNo) (w : Word) : State :=
  let k := (s.port p).status.page.val
  let n := (OfferWord.page w).val
  let isMatched := (s.port p).exch.isMatched
  if n = k then (if isMatched then s.matchedWord p w else s.matchWord p w)
  else if n = k + 1 then (if isMatched then s.partnerSeen p else s.exchangeRestart p)
  else if n + 1 = k then s
  else s.exchangeRestart p

/-- The burst gone and the break timer started again (R38, R48). -/
def Port.timedAgain (x : Port) : Port := { x with
  decoder := { x.decoder with burst := none }, timers := { x.timers with brk := some 36 } }

theorem Port.samePage_timedAgain (x : Port) : Port.samePage x x.timedAgain = true :=
  Port.samePage_of_eq rfl rfl rfl rfl rfl

section
variable {s : State} {p : PortNo} {b : BurstIn} {w : Word}

/-- A valid word in EXCHANGE is sorted (R41, R48). -/
theorem State.endBurst_sorted (burst : (s.port p).decoder.burst = some b) (runs : s.decoderRuns p = true)
    (valid : b.verdict = .valid w) (exchange : (s.port p).status.state = .exchange) :
    s.endBurst p = (State.sortTimed (s.setPort p (s.port p).timedAgain) p w).startJobs p := by
  have timed : ((s.setPort p (s.port p).burstDropped).updPort p fun x => { x with
      timers := { x.timers with brk := some Config.breakTicks } }) = s.setPort p (s.port p).timedAgain := by
    rw [State.updPort_of_same (Port.samePage_of_eq rfl rfl rfl rfl rfl), State.port_setPort_self, State.setPort_setPort]
    rfl
  have sorted : State.handOnWord (s.setPort p (s.port p).burstDropped) p w =
      (s.setPort p (s.port p).burstDropped).sortWord p w := by
    rw [State.handOnWord, State.port_setPort_self, show (s.port p).burstDropped.status.state = .exchange from exchange]
  have equation : (s.setPort p (s.port p).burstDropped).sortWord p w = State.sortTimed
      ((s.setPort p (s.port p).burstDropped).updPort p fun x => { x with
        timers := { x.timers with brk := some Config.breakTicks } }) p w := rfl
  rw [State.endBurst_valid burst runs valid, sorted, equation, timed]

/-- A word of the current page, before and after the match (R48). -/
theorem State.sortTimed_current (h : OfferWord.page w = (s.port p).status.page) :
    ((s.port p).exch.isMatched = false → s.sortTimed p w = s.matchWord p w) ∧
      ((s.port p).exch.isMatched = true → s.sortTimed p w = s.matchedWord p w) := by
  have h : (OfferWord.page w).val = (s.port p).status.page.val := congrArg Fin.val h
  unfold State.sortTimed
  dsimp only
  rw [if_pos h]
  exact ⟨fun e => by rw [e, if_neg Bool.false_ne_true], fun e => by rw [e, if_pos rfl]⟩

/-- A word of the next page after the match (R48). -/
theorem State.sortTimed_next (h : (OfferWord.page w).val = (s.port p).status.page.val + 1)
    (isMatched : (s.port p).exch.isMatched = true) : s.sortTimed p w = s.partnerSeen p := by
  unfold State.sortTimed
  dsimp only
  rw [if_neg (by omega), if_pos h, isMatched, if_pos rfl]

/-- A late copy of the page before (R48). -/
theorem State.sortTimed_late (h : (OfferWord.page w).val + 1 = (s.port p).status.page.val) : s.sortTimed p w = s := by
  unfold State.sortTimed
  dsimp only
  rw [if_neg (by omega), if_neg (by omega), if_pos h]

/-- A word of a page out of step (R48). -/
theorem State.sortTimed_outOfStep (h : (OfferWord.page w).val + 1 < (s.port p).status.page.val ∨
      (s.port p).status.page.val + 1 < (OfferWord.page w).val ∨
      (OfferWord.page w).val = (s.port p).status.page.val + 1 ∧ (s.port p).exch.isMatched = false) :
    s.sortTimed p w = s.exchangeRestart p := by
  unfold State.sortTimed
  dsimp only
  rw [if_neg (by omega)]
  rcases h with before | after | ⟨next, unmatched⟩
  · rw [if_neg (by omega), if_neg (by omega)]
  · rw [if_neg (by omega), if_neg (by omega)]
  · rw [if_pos next, unmatched, if_neg Bool.false_ne_true]

end

end Sys2Proof.Machine

namespace Sys2Proof.Machine

/-! ### Words matched (R49, R52) -/

section
variable {s : State} {p : PortNo} {w : Word}

theorem State.matchWord_first (h : (s.port p).exch.runWord = none) :
    s.matchWord p w = s.updPort p fun x => x.extendRun w 1 := by
  rw [State.matchWord, h]

theorem State.matchWord_same {r : Word} (h : (s.port p).exch.runWord = some r)
    (same : OfferWord.content r = OfferWord.content w) :
    s.matchWord p w = s.updPort p fun x => x.extendRun w (x.exch.runCount + 1) := by
  rw [State.matchWord, h]
  exact if_pos same

theorem State.matchWord_other {r : Word} (h : (s.port p).exch.runWord = some r)
    (other : OfferWord.content r ≠ OfferWord.content w) : s.matchWord p w = s.restart p Port.pageBegunAgain := by
  rw [State.matchWord, h]
  exact if_neg other

variable {r : Word} (stored : (s.port p).status.partner[(s.port p).status.page] = some r)
include stored

theorem State.matchedWord_plain (same : OfferWord.content r = OfferWord.content w) (ack : OfferWord.ack w = false) :
    s.matchedWord p w = s := by
  unfold State.matchedWord
  rw [stored]
  dsimp only [Option.getD_some]
  rw [if_pos same, ack, if_neg Bool.false_ne_true]

theorem State.matchedWord_ack (same : OfferWord.content r = OfferWord.content w) (ack : OfferWord.ack w = true) :
    s.matchedWord p w = s.partnerSeen p := by
  unfold State.matchedWord
  rw [stored]
  dsimp only [Option.getD_some]
  rw [if_pos same, ack, if_pos rfl]

theorem State.matchedWord_other (other : OfferWord.content r ≠ OfferWord.content w) :
    s.matchedWord p w = s.restart p Port.pageBegunAgain := by
  unfold State.matchedWord
  rw [stored]
  dsimp only [Option.getD_some]
  rw [if_neg other]
  rfl

end

/-- The page matched at the third word of one content (R49). -/
def Port.pageMatched (x : Port) (w : Word) : Port := { x with
  exch := { x.exch with
    runWord := some w, runCount := 3, isMatched := true, ack := true, ackSent := 0, seen := OfferWord.ack w }
  status := { x.status with partner := x.status.partner.set x.status.page (some w) } }

/-- The run grown to n words, short of the match (R49). -/
def Port.runGrown (x : Port) (w : Word) (n : Nat) : Port :=
  { x with exch := { x.exch with runWord := some w, runCount := n } }

theorem Port.extendRun_short {n : Nat} (h : n < 3) (x : Port) (w : Word) : x.extendRun w n = x.runGrown w n :=
  if_neg (by omega)

theorem Port.extendRun_three (x : Port) (w : Word) : x.extendRun w 3 = x.pageMatched w := if_pos (Nat.le_refl 3)

theorem Port.extendRun_count (x : Port) (w : Word) (n : Nat) : (x.extendRun w n).editCount = x.editCount := by
  unfold Port.extendRun
  split_ifs <;> rfl

theorem PageNo.of_val_succ {k next : PageNo} (h : next.val = k.val + 1) : k + 1 = next ∧ k ≠ 3 := by
  revert k next
  decide

/-- The page shows the match unless it held that word (R153). -/
theorem Port.samePage_pageMatched (x : Port) (w : Word) :
    Port.samePage x (x.pageMatched w) = true ↔ x.status.partner[x.status.page] = some w := by
  have same := Port.samePage_status (x := x) (x.pageMatched w).status
  refine Iff.trans (show Port.samePage x (x.pageMatched w) = true ↔ (x.pageMatched w).status = x.status from same) ?_
  refine ⟨fun e => ?_, fun e => ?_⟩
  · have stored : x.status.partner.set x.status.page (some w) = x.status.partner := congrArg Status.partner e
    rw [← stored]
    simp
  · exact congrArg (fun v => { x.status with partner := v }) (vector_set_same e)

/-- The partner seen (R52). -/
def Port.partnerIsSeen (x : Port) : Port := { x with exch := { x.exch with seen := true } }

/-- Settles O40: a valid word in EXCHANGE is matched. -/
theorem partnerWordIsMatched : Obligations.PartnerWordIsMatched := by
  unfold Obligations.PartnerWordIsMatched
  intro s p b w working closed waits x k n y burst runs valid exchange gives unmatched unstable pageRestarts
    exchangeRestarts seen
  have taken : exec (.burstEnd p) s = s.take fun s => s.ifRunning fun s => s.endBurst p := rfl
  have begun : Moves false s (s.setPort p y) p y :=
    (Moves.start s p).set (f := Port.timedAgain) (fun _ _ => rfl) Port.samePage_timedAgain
  have held : (s.setPort p y).port p = y := State.port_setPort_self s p y
  have stands : x.Stands y := ⟨rfl, rfl, rfl⟩
  have finish : ∀ {t : State}, State.sortTimed (s.setPort p y) p w = t →
      exec (.burstEnd p) s = .next (t.startJobs p).closeEdits := fun e => by
    rw [taken, State.take_working working, State.endBurst_sorted burst runs valid exchange, ← e]
    rfl
  have idle : State.sortTimed (s.setPort p y) p w = s.setPort p y → gives y := fun e => by
    refine (finish e).trans ?_
    rw [State.startJobs_settled (begun.settled waits), State.closeEdits_setPort_plain (y := y) closed rfl]
  have beside : ∀ {f : Port → Port} {z : Port}, State.sortTimed (s.setPort p y) p w = (s.setPort p y).updPort p f →
      f y = z → z.jobs = y.jobs → z.status.running = y.status.running → z.editCount = y.editCount →
      Port.samePage y z = true → gives z := by
    intro f z e fy jobs running count same
    have settled : (((s.setPort p y).updPort p f).port p).settled := by
      rw [Port.settled, State.port_updPort_jobs, State.port_updPort_status, held, fy, jobs, running]
      exact waits
    refine (finish e).trans ?_
    rw [State.startJobs_settled settled]
    exact congrArg Host.Outcome.next (State.closeEdits_setPort_updPort_same (y := y) closed fy rfl count same)
  have restarting : ∀ {carry : Port → Port} {z : Port}, Port.Blind carry →
      State.sortTimed (s.setPort p y) p w = (s.setPort p y).restart p carry → (carry y.restarted).Alike z →
      z.editCount = x.editCount + 2 → z.status.counters = (y.counted 3).status.counters → z.jobs = x.jobs →
      z.status.running = x.status.running →
      (x.exch.restarts < 4 → x.status.counters[3] ≠ 0xFFFF → gives z) ∧ (x.exch.restarts = 4 → unstable) := by
    intro carry z blind e alike count counters jobs running
    refine ⟨fun few room => ?_, fun fifth => ?_⟩
    · have moved := ((begun.restart blind).1 few).alike alike
      have settled : z.settled := by
        rw [Port.settled, jobs, running]
        exact waits
      refine (finish e).trans (congrArg Host.Outcome.next (((moved.startJobs_settled settled).opened
        (Port.samePage_of_status_ne fun e => Port.counters_counted_ne (x := y) (i := 3) room ?_)).close_counted closed
          (.refl z) count))
      exact counters.symm.trans (congrArg Status.counters e).symm
    · obtain ⟨retry, final⟩ := begun.restart_unstable blind closed stands exchange fifth
      simp only [unstable, gives]
      rw [finish e]
      exact ⟨fun left => congrArg _ (retry left waits), final⟩
  have pageAgain : State.sortTimed (s.setPort p y) p w = (s.setPort p y).restart p Port.pageBegunAgain → pageRestarts :=
    fun e => restarting (fun _ _ => rfl) e (by rw [Port.restarted_eq]; exact rfl) rfl rfl rfl rfl
  have fromZero : State.sortTimed (s.setPort p y) p w = (s.setPort p y).restart p Port.exchangeBegunAgain →
      exchangeRestarts := fun e => restarting (fun _ _ => rfl) e
    (by
      rw [Port.exchangeBegunAgain, Port.toPageZero_buildPage, Port.restarted_eq]
      exact rfl) rfl rfl rfl rfl
  have isSeen : State.sortTimed (s.setPort p y) p w = (s.setPort p y).partnerSeen p → seen := by
    intro e
    have marked := begun.upd (f := Port.partnerIsSeen) fun _ _ => rfl
    have finish := finish e
    rw [show (s.setPort p y).partnerSeen p = ((s.setPort p y).updPort p Port.partnerIsSeen).completeIfDone p from rfl]
      at finish
    refine ⟨fun few => ?_, fun next three isNext unbuilt more => ?_, fun three last => ?_⟩
    · have partial_ : ¬ y.partnerIsSeen.pageDone := fun done => absurd done.1 (Nat.not_le.mpr few)
      exact beside (e.trans (marked.completeIfDone_partial partial_)) rfl rfl rfl rfl
        (Port.samePage_of_eq rfl rfl rfl rfl rfl)
    · have done : y.partnerIsSeen.pageDone := ⟨three, rfl⟩
      have current : y.partnerIsSeen.status.page + 1 = next := (PageNo.of_val_succ isNext).1
      have turned := marked.completeIfDone_next done ⟨(PageNo.of_val_succ isNext).2, more⟩
      rw [Port.nextPage_eq (x := y.partnerIsSeen) current unbuilt] at turned
      refine finish.trans (congrArg Host.Outcome.next (((turned.startJobs_settled waits).opened
        (Port.samePage_of_status_ne fun e => ?_)).close_counted closed rfl rfl))
      exact PageNo.ne_succ k ((congrArg Status.page e).trans current.symm)
    · have done : y.partnerIsSeen.pageDone := ⟨three, rfl⟩
      have noMore : ¬ y.partnerIsSeen.morePages := by
        rintro ⟨notLast, more⟩
        obtain ⟨ours, theirs⟩ := last.resolve_left notLast
        exact more.elim (fun more => Bool.false_ne_true (ours.symm.trans more))
          fun more => Bool.false_ne_true (theirs.symm.trans more)
      rw [marked.completeIfDone_last done noMore] at finish
      exact marked.resolves closed ⟨rfl, rfl, rfl⟩ waits exchange rfl finish
  have onPage : ((s.setPort p y).port p).status.page = k := by rw [held]
  have isMatchedOf : ((s.setPort p y).port p).exch.isMatched = x.exch.isMatched := by
    rw [held]
  have runOf : ((s.setPort p y).port p).exch.runWord = x.exch.runWord := by
    rw [held]
  refine ⟨fun late => idle (State.sortTimed_late (by rw [onPage]; exact late)),
    fun out => fromZero (State.sortTimed_outOfStep (by rw [onPage, isMatchedOf]; exact out)), fun current run => ?_,
    fun current run r stored => ?_,
    fun ahead run => isSeen (State.sortTimed_next (by rw [onPage]; exact ahead) (isMatchedOf.trans run))⟩
  · have sorted := (State.sortTimed_current (s := s.setPort p y) (p := p) (w := w) (current.trans onPage.symm)).1
      (isMatchedOf.trans run)
    refine ⟨fun first => ?_, fun r again => ⟨fun same once => ?_, fun same twice => ?_, fun other => ?_⟩⟩
    · exact beside (sorted.trans (State.matchWord_first (runOf.trans first))) (Port.extendRun_short (by omega) y w) rfl rfl rfl
        (Port.samePage_of_eq rfl rfl rfl rfl rfl)
    · refine beside (sorted.trans (State.matchWord_same (runOf.trans again) same)) ?_ rfl rfl rfl
        (Port.samePage_of_eq rfl rfl rfl rfl rfl)
      rw [show y.exch.runCount + 1 = 2 from congrArg (· + 1) once]
      exact Port.extendRun_short (by omega) y w
    · have three : y.extendRun w (y.exch.runCount + 1) = y.pageMatched w := by
        rw [show y.exch.runCount + 1 = 3 from congrArg (· + 1) twice]
        exact Port.extendRun_three y w
      have settled : (((s.setPort p y).updPort p fun x => x.extendRun w (x.exch.runCount + 1)).port p).settled := by
        rw [Port.settled, State.port_updPort_jobs, State.port_updPort_status, held, three]
        exact waits
      refine (finish (sorted.trans (State.matchWord_same (runOf.trans again) same))).trans ?_
      rw [State.startJobs_settled settled, State.closeEdits_setPort_updPort (y := y) closed rfl (Port.extendRun_count ..),
        three]
      have edits := (Port.samePage_pageMatched y w)
      exact congrArg (fun n => Host.Outcome.next (s.setPort p { y.pageMatched w with editCount := n }))
        (if_congr edits rfl rfl)
    · exact pageAgain (sorted.trans (State.matchWord_other (runOf.trans again) other))
  · have sorted := (State.sortTimed_current (s := s.setPort p y) (p := p) (w := w) (current.trans onPage.symm)).2
      (isMatchedOf.trans run)
    have word : ((s.setPort p y).port p).status.partner[((s.setPort p y).port p).status.page] = some r :=
      (congrArg (fun z : Port => z.status.partner[z.status.page]) held).trans stored
    exact ⟨fun same plain => idle (sorted.trans (State.matchedWord_plain word same plain)),
      fun same ack => isSeen (sorted.trans (State.matchedWord_ack word same ack)),
      fun other => pageAgain (sorted.trans (State.matchedWord_other word other))⟩

end Sys2Proof.Machine

namespace Sys2Proof.Machine

/-! ## Intake (R139 to R148) -/

/-! ### What a cell asks for (11.3) -/

theorem State.cellKind_eq (s : State) (c : CellNo) : s.cellKind c = (s.cellWord c 1).toNat / 256 := by
  rw [State.cellKind, BitVec.extractLsb'_toNat, Nat.shiftRight_eq_div_pow]
  have := (s.cellWord c 1).isLt
  omega

theorem State.cellPort_eq (s : State) (c : CellNo) : s.cellPort c = (s.cellWord c 1).toNat % 256 := by
  rw [State.cellPort, BitVec.extractLsb'_toNat, Nat.shiftRight_zero]

theorem State.namedPort_some {s : State} {c : CellNo} {p : PortNo} (h : (s.cellWord c 1).toNat % 256 = p.val) :
    s.namedPort c = some p := by
  have lt : s.cellPort c < 48 := by
    rw [State.cellPort_eq, h]
    exact p.isLt
  rw [State.namedPort, portOf, dif_pos lt]
  exact congrArg some (Fin.ext ((s.cellPort_eq c).trans h))

theorem State.namedPort_none {s : State} {c : CellNo} (h : 48 ≤ (s.cellWord c 1).toNat % 256) : s.namedPort c = none := by
  rw [State.namedPort, portOf, dif_neg]
  rw [State.cellPort_eq]
  omega

theorem State.targetOf_some {s : State} {c d : CellNo} (h : (s.cellParam c 0).toNat = d.val) (ne : d ≠ c) :
    s.targetOf c = some d := by
  have lt : (s.cellParam c 0).toNat < 128 := h ▸ d.isLt
  have same : (⟨(s.cellParam c 0).toNat, lt⟩ : CellNo) = d := Fin.ext h
  rw [State.targetOf, dif_pos lt, if_neg (by rw [same]; exact ne), same]

theorem State.targetOf_none {s : State} {c : CellNo}
    (h : 128 ≤ (s.cellParam c 0).toNat ∨ (s.cellParam c 0).toNat = c.val) : s.targetOf c = none := by
  unfold State.targetOf
  split_ifs with lt same
  · rfl
  · exact absurd (Fin.ext (h.resolve_left (by omega))) same
  · rfl

/-! ### The entry intake takes (R139) -/

/-- The state in which intake judges the entry it owes. -/
def State.judging (s : State) (rest : List CellNo) : State := { s with intakeQueue := rest, intakeDue := false }

theorem exec_tick_takes {s : State} {c : CellNo} {rest : List CellNo} (due : s.entryDue c rest) : exec .tick s = .next
    (if s.cellWord c 0 = 1 then (s.judging rest).judge c else (s.judging rest).notReady c).closeEdits := by
  obtain ⟨working, -, owed, queue⟩ := due
  have taken := State.intakeTake_cons (s := { s with intakeDue := false }) (c := c) (rest := rest) queue
  rw [exec_tick_entry working owed, taken]
  rfl

theorem exec_tick_judges {s : State} {c : CellNo} {rest : List CellNo} (due : s.entryDue c rest)
    (ready : s.cellWord c 0 = 1) : exec .tick s = .next ((s.judging rest).judge c).closeEdits := by
  rw [exec_tick_takes due, if_pos ready]

/-- A cell ended by intake with its news (R140, R145). -/
def State.endedAtIntake (s : State) (c : CellNo) (st : CellState) (out : JobOutcome) (why : Reason) (fault : Bool)
    (doneOn : Option PortNo) : State :=
  let ended := s.endCell c st out why s.tick
  let counted := if fault then ended.raiseGlobal .intakeFault else ended
  match doneOn with
  | some p => counted.raisePort p .jobDone
  | none => counted

theorem setBit_zero {n : Nat} (x : BitVec n) : setBit x 0 = x ||| 1 := by
  unfold setBit
  simp

/-- News of an ended cell, at the close: no page shows it (R153). -/
theorem State.closeEdits_cellNews {v : State} (closed : v.editsClosed) (fault : Bool) (doneOn : Option PortNo) :
    State.closeEdits (match doneOn with
      | some p => (if fault then v.raiseGlobal .intakeFault else v).raisePort p .jobDone
      | none => if fault then v.raiseGlobal .intakeFault else v) =
    { v with
      globalNews := if fault then v.globalNews ||| 1 else v.globalNews
      ports := match doneOn with
        | some p => v.ports.set p { v.port p with news := (v.port p).news ||| 1 }
        | none => v.ports } := by
  have counted : (if fault then v.raiseGlobal .intakeFault else v) =
      { v with globalNews := if fault then v.globalNews ||| 1 else v.globalNews } := by
    cases fault
    · rfl
    · exact congrArg (fun n => { v with globalNews := n }) (setBit_zero v.globalNews)
  rw [counted]
  generalize (if fault = true then v.globalNews ||| 1 else v.globalNews) = news
  cases doneOn with
  | none => exact State.closeEdits_of_ports closed rfl
  | some p =>
    have closed' : State.editsClosed { v with globalNews := news } := closed
    have raised : (v.port p).raise .jobDone = { v.port p with news := (v.port p).news ||| 1 } :=
      congrArg (fun n => { v.port p with news := n }) (setBit_zero (v.port p).news)
    refine (State.closeEdits_setPort_plain (y := (v.port p).raise .jobDone) closed' rfl).trans ?_
    rw [raised]
    rfl

/-- What the host then sees (R140). -/
theorem State.cellEndsAtIntake_of_judge {s : State} {c : CellNo} {rest : List CellNo} (due : s.entryDue c rest)
    (hm : s.memOk) (ready : s.cellWord c 0 = 1) {st : CellState} {out : JobOutcome} {why : Reason} {fault : Bool}
    {doneOn : Option PortNo}
    (e : (s.judging rest).judge c = (s.judging rest).endedAtIntake c st out why fault doneOn) :
    s.cellEndsAtIntake c rest st.code out.code why.code fault doneOn := by
  have only := State.OnlyCells.endCell (s := s.judging rest) hm c st out why s.tick
  have cell := State.endCell_ended (s := s.judging rest) hm c st out why s.tick
  have closed := only.frame.editsClosed due.2.1
  have taken := exec_tick_judges due ready
  rw [e] at taken
  have close := State.closeEdits_cellNews closed fault doneOn
  refine ⟨_, taken.trans (congrArg _ close), cell, fun a far => only.kept a fun d hd => List.mem_singleton.mp hd ▸ far,
    fun d ne => only.custody d fun hd => ne (List.mem_singleton.mp hd), ?_⟩
  obtain ⟨mem, custody, frame⟩ := only.frame
  rw [frame]
  rfl

/-! ### Cells turned away (R140) -/

theorem JobKind.ofCode_none {n : Nat} (h : n = 0 ∨ 4 < n) : JobKind.ofCode n = none := by
  unfold JobKind.ofCode
  rw [if_neg (by omega), if_neg (by omega), if_neg (by omega), if_neg (by omega)]

section
variable {s : State} {c : CellNo}

theorem State.judge_badKind (kind : (s.cellWord c 1).toNat / 256 = 0 ∨ 4 < (s.cellWord c 1).toNat / 256) :
    s.judge c = s.endedAtIntake c .refused .none .badKind true (s.namedPort c) := by
  rw [State.judge, s.cellKind_eq, JobKind.ofCode_none kind]
  cases s.namedPort c <;> rfl

theorem State.judge_badPort {k : JobKind} (kind : JobKind.ofCode ((s.cellWord c 1).toNat / 256) = some k)
    (job : k ≠ .cancel) (port : s.namedPort c = none) :
    s.judge c = s.endedAtIntake c .refused .none .badPort true none := by
  rw [State.judge, s.cellKind_eq, kind, port]
  cases k with
  | train => rfl
  | diagnose => rfl
  | hold => rfl
  | cancel => exact absurd rfl job

theorem State.judge_job {k : JobKind} (kind : JobKind.ofCode ((s.cellWord c 1).toNat / 256) = some k)
    (job : k ≠ .cancel) {p : PortNo} (port : s.namedPort c = some p) : s.judge c = s.judgeJob c k p := by
  rw [State.judge, s.cellKind_eq, kind, port]
  cases k with
  | train => rfl
  | diagnose => rfl
  | hold => rfl
  | cancel => exact absurd rfl job

theorem State.judge_cancel (kind : (s.cellWord c 1).toNat / 256 = 4) : s.judge c = s.judgeCancel c := by
  rw [State.judge, s.cellKind_eq, kind]
  rfl

theorem State.judgeJob_badParam {k : JobKind} {p : PortNo} (work : s.workOf c k = none) :
    s.judgeJob c k p = s.endedAtIntake c .refused .none .badParam false (some p) := by
  rw [State.judgeJob, work]
  rfl

theorem State.judgeJob_listFull {k : JobKind} {p : PortNo} {w : Work} (work : s.workOf c k = some w)
    (full : (s.port p).jobs.length = 4) :
    s.judgeJob c k p = s.endedAtIntake c .refused .none .listFull false (some p) := by
  rw [State.judgeJob, work]
  dsimp only
  rw [if_pos (show Config.listDepth ≤ (s.port p).jobs.length from Nat.le_of_eq full.symm)]
  rfl

theorem State.judgeCancel_badParam (target : s.targetOf c = none) :
    s.judgeCancel c = s.endedAtIntake c .refused .none .badParam true none := by
  rw [State.judgeCancel, target]
  rfl

end

end Sys2Proof.Machine

namespace Sys2Proof.Machine

/-! ### Parameters (11.3) -/

theorem inRange_iff (n lo hi : Nat) : inRange n lo hi = true ↔ lo ≤ n ∧ n ≤ hi := by
  rw [inRange, Bool.and_eq_true, decide_eq_true_eq, decide_eq_true_eq]

theorem ne_zero_iff_toNat {n : Nat} (x : BitVec n) : x ≠ 0 ↔ x.toNat ≠ 0 := by
  rw [ne_eq, ← BitVec.toNat_inj]
  rfl

theorem RoleClaim.ofCode_listed (c : BitVec 2) :
    [RoleClaim.forceLead, .forceFollow, .preferLead, .preferFollow][c.toNat]? = some (RoleClaim.ofCode c) := by
  revert c
  decide

theorem Profile.valid_iff (f : Profile) : f.valid = true ↔ f.allowed.toNat ≠ 0 ∧
    (1 ≤ f.attemptLimit ∧ f.attemptLimit ≤ 15) ∧ f.offerTimeout ≤ 65535 ∧ (1 ≤ f.lockTimeout ∧ f.lockTimeout ≤ 1000) ∧
    (1 ≤ f.verifyWindow ∧ f.verifyWindow ≤ 1000) ∧ f.verifyThreshold ≤ 65535 ∧
    (1 ≤ f.monitorWindow ∧ f.monitorWindow ≤ 65535) ∧ (1 ≤ f.monitorThreshold ∧ f.monitorThreshold ≤ 65535) ∧
    (1 ≤ f.badLimit ∧ f.badLimit ≤ 15) ∧ (1 ≤ f.dropHold ∧ f.dropHold ≤ 1000) ∧ f.roleHold ≤ 65535 ∧
    f.extraCount ≤ 2 ∧ (f.extraCount = 0 ∨ f.extra1.toNat ≤ 0x7FF) ∧ (f.extraCount ≤ 1 ∨ f.extra2.toNat ≤ 0x7FF) := by
  simp only [Profile.valid, Bool.and_eq_true, Bool.or_eq_true, decide_eq_true_eq, inRange_iff, ne_zero_iff_toNat, and_assoc,
    Nat.zero_le, true_and]

theorem Recipe.valid_iff (r : Recipe) : r.valid = true ↔ r.pairSet.toNat ≠ 0 ∧
    (1 ≤ r.chipDivider ∧ r.chipDivider ≤ 16) ∧ (1 ≤ r.order ∧ r.order ≤ 3) ∧ (1 ≤ r.decimation ∧ r.decimation ≤ 64) ∧
    (16 ≤ r.window ∧ r.window ≤ 512) ∧ r.blanking < r.window ∧ r.shift ≤ 16 ∧ (1 ≤ r.mild ∧ r.mild ≤ 32767) ∧
    r.mild ≤ r.strong ∧ r.strong ≤ 32767 ∧ (1 ≤ r.cross ∧ r.cross ≤ 32767) ∧ 1 ≤ r.shots ∧ r.shots ≤ 256 := by
  simp only [Recipe.valid, Bool.and_eq_true, decide_eq_true_eq, inRange_iff, ne_zero_iff_toNat, and_assoc,
    Nat.zero_le, true_and]

theorem Profile.readFrom_ofWords (w : Nat → Word) : (Profile.ofWords w).readFrom w := by
  refine ⟨rfl, RoleClaim.ofCode_listed _, rfl, rfl, rfl, rfl, rfl, rfl, rfl, rfl, rfl, rfl, rfl, rfl, rfl, rfl, rfl, rfl,
    rfl, (Profile.valid_iff _).trans ?_⟩
  have small : ∀ i, (w i).toNat ≤ 65535 := fun i => by
    have := (w i).isLt
    omega
  have h2 := small 2
  have h5 := small 5
  have h6 := small 6
  have h7 := small 7
  have h10 := small 10
  have count : ((w 0).extractLsb' 12 2).toNat < 4 := ((w 0).extractLsb' 12 2).isLt
  dsimp only [Profile.ofWords, fieldOf]
  omega

theorem Recipe.readFrom_ofWords (w : Nat → Word) : (Recipe.ofWords w).readFrom w := by
  refine ⟨rfl, rfl, rfl, rfl, rfl, rfl, rfl, rfl, rfl, rfl, rfl, rfl, rfl, rfl, (Recipe.valid_iff _).trans ?_⟩
  dsimp only [Recipe.ofWords, fieldOf]
  omega

theorem State.workOf_train {s : State} {c : CellNo} :
    ((Profile.ofWords (s.cellParam c)).valid = false → s.workOf c .train = none) ∧
      ((Profile.ofWords (s.cellParam c)).valid = true →
        s.workOf c .train = some (.train (Profile.ofWords (s.cellParam c)))) := by
  unfold State.workOf
  exact ⟨fun h => if_neg (by rw [h]; decide), fun h => if_pos h⟩

theorem State.workOf_diagnose {s : State} {c : CellNo} :
    ((Recipe.ofWords (s.cellParam c)).valid = false → s.workOf c .diagnose = none) ∧
      ((Recipe.ofWords (s.cellParam c)).valid = true →
        s.workOf c .diagnose = some (.diagnose (Recipe.ofWords (s.cellParam c)) ((s.cellParam c 0).getLsbD 6))) := by
  unfold State.workOf
  exact ⟨fun h => if_neg (by rw [h]; decide), fun h => if_pos h⟩

/-! ### Cells turned away (O19) -/

/-- What leaves custody unwritten (R139). -/
theorem exec_tick_notReady {s : State} {c : CellNo} {rest : List CellNo} (due : s.entryDue c rest)
    (other : s.cellWord c 0 ≠ 1) : exec .tick s = .next { (s.setCustody c .outside) with
      intakeQueue := rest, intakeDue := false
      intakeErrors := oneMore s.intakeErrors, globalNews := s.globalNews ||| 1 } := by
  have closed : ((s.judging rest).notReady c).closeEdits = (s.judging rest).notReady c :=
    State.closeEdits_of_ports (s := s) due.2.1 rfl
  rw [exec_tick_takes due, if_neg other, closed]
  have errors : satInc s.intakeErrors = oneMore s.intakeErrors := satInc_eq_oneMore _
  have news : setBit s.globalNews 0 = s.globalNews ||| 1 := setBit_zero _
  rw [← errors, ← news]
  rfl

/-- Settles O19: the checks of R140, in their order. -/
theorem intakeTurnsCellsAway : Obligations.IntakeTurnsCellsAway := by
  unfold Obligations.IntakeTurnsCellsAway
  refine ⟨fun w => ⟨Profile.readFrom_ofWords w, Recipe.readFrom_ofWords w⟩, fun s c rest due hm => ?_⟩
  intro kind port
  refine ⟨exec_tick_notReady due, fun ready => ?_⟩
  have ends := fun {st out why fault doneOn} =>
    State.cellEndsAtIntake_of_judge (st := st) (out := out) (why := why) (fault := fault) (doneOn := doneOn) due hm ready
  have named : ∀ p : PortNo, port = p.val → (s.judging rest).namedPort c = some p := fun p h => State.namedPort_some h
  refine ⟨fun bad far => ?_, fun p bad at_ => ?_, fun job far => ?_, fun p train at_ bad => ?_, fun p diagnose at_ bad => ?_,
    fun cancel bad => ?_, fun p at_ full job => ?_⟩
  · have nowhere : (s.judging rest).namedPort c = none := State.namedPort_none far
    exact ends (by rw [State.judge_badKind (s := s.judging rest) (c := c) bad, nowhere])
  · exact ends (by rw [State.judge_badKind (s := s.judging rest) (c := c) bad, named p at_])
  · have nowhere : (s.judging rest).namedPort c = none := State.namedPort_none far
    rcases job with job | job | job
    · exact ends (State.judge_badPort (s := s.judging rest) (c := c) (k := .train) (congrArg JobKind.ofCode job) (by decide) nowhere)
    · exact ends (State.judge_badPort (s := s.judging rest) (c := c) (k := .diagnose) (congrArg JobKind.ofCode job) (by decide) nowhere)
    · exact ends (State.judge_badPort (s := s.judging rest) (c := c) (k := .hold) (congrArg JobKind.ofCode job) (by decide) nowhere)
  · exact ends ((State.judge_job (s := s.judging rest) (c := c) (k := .train) (congrArg JobKind.ofCode train) (by decide) (named p at_)).trans
      (State.judgeJob_badParam (State.workOf_train.1 bad)))
  · exact ends ((State.judge_job (s := s.judging rest) (c := c) (k := .diagnose) (congrArg JobKind.ofCode diagnose) (by decide) (named p at_)).trans
      (State.judgeJob_badParam (State.workOf_diagnose.1 bad)))
  · exact ends ((State.judge_cancel (s := s.judging rest) (c := c) cancel).trans (State.judgeCancel_badParam (State.targetOf_none bad)))
  · rcases job with ⟨job, valid⟩ | ⟨job, valid⟩ | job
    · exact ends ((State.judge_job (s := s.judging rest) (c := c) (k := .train) (congrArg JobKind.ofCode job) (by decide) (named p at_)).trans
        (State.judgeJob_listFull (State.workOf_train.2 valid) full))
    · exact ends ((State.judge_job (s := s.judging rest) (c := c) (k := .diagnose) (congrArg JobKind.ofCode job) (by decide) (named p at_)).trans
        (State.judgeJob_listFull (State.workOf_diagnose.2 valid) full))
    · exact ends ((State.judge_job (s := s.judging rest) (c := c) (k := .hold) (congrArg JobKind.ofCode job) (by decide) (named p at_)).trans
        (State.judgeJob_listFull (w := .hold) rfl full))

/-! ### A CANCEL that comes too late (O24) -/

theorem isTerminal_iff (w : Word) : isTerminal w = true ↔ w = 4 ∨ w = 5 ∨ w = 6 := by
  rw [isTerminal, Bool.or_eq_true, Bool.or_eq_true, decide_eq_true_eq, decide_eq_true_eq, decide_eq_true_eq, or_assoc]
  rfl

section
variable {s : State} {c d : CellNo}

theorem State.cancelOutside_late (late : s.cellWord d 0 = 4 ∨ s.cellWord d 0 = 5 ∨ s.cellWord d 0 = 6) :
    s.cancelOutside c d = (s.endCancel c .tooLate).cellNews (s.namedPort d) := by
  rw [State.cancelOutside, if_pos ((isTerminal_iff _).mpr late)]

theorem State.cancelOutside_bad (live : ¬ (s.cellWord d 0 = 4 ∨ s.cellWord d 0 = 5 ∨ s.cellWord d 0 = 6)) :
    s.cancelOutside c d = ((s.refuseCell c .badTarget).cellNews (s.namedPort d)).raiseGlobal .intakeFault := by
  rw [State.cancelOutside, if_neg fun terminal => live ((isTerminal_iff _).mp terminal)]

theorem State.judge_cancelOf (kind : (s.cellWord c 1).toNat / 256 = 4) (target : (s.cellParam c 0).toNat = d.val)
    (ne : d ≠ c) : s.judge c = s.cancel c d := by
  rw [State.judge_cancel kind, State.judgeCancel, State.targetOf_some target ne]

theorem State.raiseGlobal_twice (s : State) :
    (s.raiseGlobal .intakeFault).raiseGlobal .intakeFault = s.raiseGlobal .intakeFault := by
  have once : setBit (setBit s.globalNews 0) 0 = setBit s.globalNews 0 := by
    rw [setBit_zero, setBit_zero, BitVec.or_assoc, BitVec.or_self]
  exact congrArg (fun n => { s with globalNews := n }) once

end

/-- Settles O24: the target is not written, whatever its state word says. -/
theorem cancelOfCellOutside : Obligations.CancelOfCellOutside := by
  unfold Obligations.CancelOfCellOutside
  intro s c d rest due hm ready kind target ne outside late
  have ends := fun {st out why fault doneOn} =>
    State.cellEndsAtIntake_of_judge (st := st) (out := out) (why := why) (fault := fault) (doneOn := doneOn) due hm ready
  have custody : (s.judging rest).custodyOf d = .outside := outside
  have judged : (s.judging rest).judge c = (s.judging rest).cancelOutside c d := by
    rw [State.judge_cancelOf (s := s.judging rest) kind target ne, State.cancel, custody]
  have isLate := State.cancelOutside_late (s := s.judging rest) (c := c) (d := d)
  have isBad := State.cancelOutside_bad (s := s.judging rest) (c := c) (d := d)
  refine ⟨fun p at_ => ?_, fun far => ?_⟩
  · have named : (s.judging rest).namedPort d = some p := State.namedPort_some at_
    rw [named] at isLate isBad
    exact ⟨fun h => ends (out := .tooLate) (why := .none) (fault := false) (doneOn := some p) (judged.trans (isLate h)),
      fun h => ends (st := .refused) (why := .badTarget) (fault := true) (doneOn := some p) (judged.trans (isBad h))⟩
  · have named : (s.judging rest).namedPort d = none := State.namedPort_none far
    rw [named] at isLate isBad
    exact ⟨fun h => ends (out := .tooLate) (why := .none) (fault := true) (doneOn := none) (judged.trans (isLate h)),
      fun h => ends (st := .refused) (why := .badTarget) (fault := true) (doneOn := none)
        ((judged.trans (isBad h)).trans (State.raiseGlobal_twice _))⟩

end Sys2Proof.Machine

namespace Sys2Proof.Machine

/-! ### Releases beside other changes (R104, R115)

The grant rule reads and writes the arbiter's part of the state alone, so a release does there what it would do without
the changes beside it. -/

/-- State b with the arbiter's part of state a. -/
def State.takesFrom (a b : State) : State :=
  { b with engines := a.engines, grants := a.grants, claims := a.claims, requests := a.requests }

theorem State.makeGrant_takesFrom (a b : State) (e : EngineNo) (r : Request) :
    (a.takesFrom b).makeGrant e r = (a.makeGrant e r).takesFrom b := rfl

theorem State.freeEngine_takesFrom (a b : State) : (a.takesFrom b).freeEngine = a.freeEngine := rfl

theorem State.pickRequest_takesFrom {a b : State} (ready : b.ready = a.ready) :
    (a.takesFrom b).pickRequest = a.pickRequest := by
  have eligible : (a.takesFrom b).eligible = a.eligible := by
    funext r
    show (!a.claimed (quadOf r.port) && b.ready[quadOf r.port]) = _
    rw [ready]
    rfl
  unfold State.pickRequest
  rw [eligible]
  rfl

theorem State.grantUpTo_takesFrom {b : State} : ∀ (n : Nat) {a : State}, b.ready = a.ready →
    State.grantUpTo n (a.takesFrom b) = (State.grantUpTo n a).takesFrom b
  | 0, _, _ => rfl
  | n + 1, a, ready => by
    rw [State.grantUpTo, State.grantUpTo, State.freeEngine_takesFrom, State.pickRequest_takesFrom ready]
    cases a.freeEngine with
    | none => rfl
    | some e =>
      cases a.pickRequest with
      | none => rfl
      | some r =>
        dsimp only
        rw [State.makeGrant_takesFrom]
        exact State.grantUpTo_takesFrom n (a := a.makeGrant e r) ready

theorem State.applyGrantRule_takesFrom {a b : State} (ready : b.ready = a.ready) :
    (a.takesFrom b).applyGrantRule = a.applyGrantRule.takesFrom b := State.grantUpTo_takesFrom 4 ready

/-- The arbiter's part of t is that of s. -/
structure State.SameArbiter (s t : State) : Prop where
  engines : t.engines = s.engines
  grants : t.grants = s.grants
  claims : t.claims = s.claims
  requests : t.requests = s.requests
  ready : t.ready = s.ready

theorem State.SameArbiter.own {s t : State} (h : s.SameArbiter t) : t = s.takesFrom t := by
  rw [State.takesFrom, ← h.engines, ← h.grants, ← h.claims, ← h.requests]

/-- A release of the engine that holds the port, where other parts have changed. -/
theorem State.SameArbiter.release_eq {s t : State} (h : s.SameArbiter t) (ok : s.grantsOk) {e : EngineNo} {m : Measurement}
    (hm : (s.engine e).meas = some m) :
    t.release e = (s.freed e m.holder).applyGrantRule.takesFrom t := by
  have ok' : t.grantsOk := ok.of_parts h.engines h.grants h.claims
  have hm' : (t.engine e).meas = some m := by
    rw [h.own]
    exact hm
  have freed : t.freed e m.holder = (s.freed e m.holder).takesFrom t := by
    have own := h.own
    generalize t = u at own ⊢
    rw [own]
    rfl
  rw [ok'.release_eq hm', freed, State.applyGrantRule_takesFrom (a := s.freed e m.holder) h.ready]

/-- What an abort of the engine that holds the port leaves of t: the slab FREE, the engine released. -/
structure State.Released (s t u : State) (e : EngineNo) (m : Measurement) : Prop where
  frame : u = { t with mem := u.mem, engines := u.engines, grants := u.grants, claims := u.claims, requests := u.requests }
  released : s.releasedIn u e m.holder
  canonical : u.memOk
  kept : ∀ a, (∀ k, m.filling = some k → a ≠ ownerAddr k) → u.readMem a = t.readMem a
  freed : ∀ k, m.filling = some k → u.readMem (ownerAddr k) = 0

theorem State.SameArbiter.freeSlab {s t : State} (h : s.SameArbiter t) (k : Option SlabNo) : s.SameArbiter (t.freeSlab k) := by
  rw [t.freeSlab_parts k]
  exact ⟨h.engines, h.grants, h.claims, h.requests, h.ready⟩

theorem State.SameArbiter.released {s t : State} (h : s.SameArbiter t) (ok : s.grantsOk) (memOk : t.memOk) {e : EngineNo}
    {m : Measurement} (hm : (s.engine e).meas = some m) :
    s.Released t ((t.freeSlab m.filling).release e) e m := by
  have reads := State.readMem_freeSlab memOk m.filling
  have canonical := State.memOk_freeSlab memOk m.filling
  have parts := t.freeSlab_parts m.filling
  rw [(h.freeSlab m.filling).release_eq ok hm]
  refine ⟨?_, ⟨rfl, rfl, rfl, rfl⟩, canonical, fun a far => ?_, fun k hk => ?_⟩
  · rw [parts]
    rfl
  · exact (reads a).trans (if_neg fun ⟨l, hl, e⟩ => far l hl e.symm)
  · exact (reads _).trans (if_pos ⟨k, hk, rfl⟩)

end Sys2Proof.Machine

namespace Sys2Proof.Machine

/-! ### Accepted cells (R142, R143) -/

/-- The work a cell asks for, its parameters in range (R139, R141). -/
def State.asks (s : State) (c : CellNo) (w : Work) : Prop :=
  (s.cellWord c 1).toNat / 256 = 1 ∧ (Profile.ofWords (s.cellParam c)).valid = true ∧
      w = .train (Profile.ofWords (s.cellParam c)) ∨
    (s.cellWord c 1).toNat / 256 = 2 ∧ (Recipe.ofWords (s.cellParam c)).valid = true ∧
      w = .diagnose (Recipe.ofWords (s.cellParam c)) ((s.cellParam c 0).getLsbD 6) ∨
    (s.cellWord c 1).toNat / 256 = 3 ∧ w = .hold

theorem State.judgeJob_appends {s : State} {c : CellNo} {k : JobKind} {p : PortNo} {w : Work} (work : s.workOf c k = some w)
    (room : (s.port p).jobs.length < 4) : s.judgeJob c k p = (s.joined p c w).startJobs p := by
  rw [State.judgeJob, work]
  dsimp only
  rw [if_neg (show ¬ Config.listDepth ≤ (s.port p).jobs.length from Nat.not_le.mpr room)]
  rfl

/-- An accepted cell joins its port's list (R142). -/
theorem State.judge_appends {s : State} {c : CellNo} {p : PortNo} {w : Work} (asks : s.asks c w)
    (port : (s.cellWord c 1).toNat % 256 = p.val) (room : (s.port p).jobs.length < 4) :
    s.judge c = (s.joined p c w).startJobs p := by
  have named := State.namedPort_some port
  rcases asks with ⟨kind, valid, rfl⟩ | ⟨kind, valid, rfl⟩ | ⟨kind, rfl⟩
  · exact (State.judge_job (k := .train) (congrArg JobKind.ofCode kind) (by decide) named).trans
      (State.judgeJob_appends (State.workOf_train.2 valid) room)
  · exact (State.judge_job (k := .diagnose) (congrArg JobKind.ofCode kind) (by decide) named).trans
      (State.judgeJob_appends (State.workOf_diagnose.2 valid) room)
  · exact (State.judge_job (k := .hold) (congrArg JobKind.ofCode kind) (by decide) named).trans
      (State.judgeJob_appends (w := .hold) rfl room)

/-- Cell c QUEUED, in a port's list (R142). -/
def State.cellListed (s : State) (c : CellNo) : State := (s.writeCellState c .queued).setCustody c .listed

/-- The job a cell becomes (R142). -/
def State.jobOf (s : State) (c : CellNo) (w : Work) : Job := ⟨c, s.cellWord c 2, w, s.tick⟩

theorem Port.samePage_of_cells_ne {x y : Port} (h : x.jobs.map Job.cell ≠ y.jobs.map Job.cell) : Port.samePage x y = false := by
  simp [Port.samePage, h]

theorem Moves.joined (s : State) (p : PortNo) (c : CellNo) (w : Work) :
    Moves true (s.cellListed c) (s.joined p c w) p { s.port p with jobs := (s.port p).jobs ++ [s.jobOf c w] } := by
  have appended := ((Moves.start s p).upd (f := fun x => { x with jobs := x.jobs ++ [s.jobOf c w] }) fun _ _ => rfl)
  have moved := appended.elsewhere (F := fun s => s.cellListed c) rfl fun _ => rfl
  exact moved.opened (Port.samePage_of_cells_ne (x := s.port p) (by simp))

/-- Settles O20: a cell behind a running job waits in the list. -/
theorem intakeAppendsBehindRunningJob : Obligations.IntakeAppendsBehindRunningJob := by
  unfold Obligations.IntakeAppendsBehindRunningJob
  intro s c rest p w due ready port asks room running
  have joined := Moves.joined (s.judging rest) p c w
  have settled : (((s.judging rest).joined p c w).port p).settled := joined.settled (.inr running)
  have closed : ((s.judging rest).cellListed c).editsClosed := due.2.1
  rw [exec_tick_judges due ready, State.judge_appends (s := s.judging rest) asks port room,
    State.startJobs_settled settled, joined.close closed]
  rfl

end Sys2Proof.Machine

namespace Sys2Proof.Machine

/-! ### Jobs that start at once (R143) -/

theorem aborts_held {b : State} {p : PortNo} {e : EngineNo} {m : Measurement} (ok : b.grantsOk)
    (hm : (b.engine e).meas = some m) (holder : m.holder = p) :
    Aborts b ((b.freeSlab m.filling).release e) p none where
  moves := fun h asks => (h.abortPort_held (holder ▸ ok.engineOf hm) hm).as (Port.withdrawn_none (x := Port.stopActivity _) asks).symm
  ready := fun q => by
    have same : b.SameArbiter b := ⟨rfl, rfl, rfl, rfl, rfl⟩
    rw [(same.freeSlab m.filling).release_eq ok hm, b.freeSlab_parts m.filling]
    rfl

/-- Between s and u intake has taken its entry, and jobs and the arbiter have changed what is theirs. -/
def State.Enters (s u : State) (rest : List CellNo) : Prop := ∃ mem custody engines grants claims requests, u = { s with
  intakeQueue := rest, intakeDue := false, mem := mem, custody := custody, engines := engines, grants := grants
  claims := claims, requests := requests }

theorem State.Enters.cells {s u v : State} {rest : List CellNo} (h : s.Enters u rest) (same : u.SameButCells v) :
    s.Enters v rest := by
  obtain ⟨mem, custody, engines, grants, claims, requests, rfl⟩ := h
  obtain ⟨mem', custody', rfl⟩ := same
  exact ⟨mem', custody', engines, grants, claims, requests, rfl⟩

theorem State.Enters.released {s t u v : State} {rest : List CellNo} {e : EngineNo} {m : Measurement} (h : s.Enters u rest)
    (r : t.Released u v e m) : s.Enters v rest := by
  obtain ⟨mem, custody, engines, grants, claims, requests, rfl⟩ := h
  rw [r.frame]
  exact ⟨_, _, _, _, _, _, rfl⟩

theorem State.SameArbiter.cells {s t u : State} (h : s.SameArbiter t) (same : t.SameButCells u) : s.SameArbiter u := by
  obtain ⟨mem, custody, rfl⟩ := same
  exact ⟨h.engines, h.grants, h.claims, h.requests, h.ready⟩

/-- What the host sees of an entry whose job has moved port p alone. -/
theorem State.Enters.seen {s u : State} {rest : List CellNo} (h : s.Enters u rest) {p : PortNo} {z : Port}
    {cells : List CellNo} (custody : ∀ d, d ∉ cells → u.custodyOf d = s.custodyOf d) :
    s.tookEntry (u.setPort p z) rest cells ∧ (u.setPort p z).globalNews = s.globalNews ∧
      (∀ q, q ≠ p → (u.setPort p z).port q = s.port q) ∧ (u.setPort p z).port p = z := by
  obtain ⟨mem, custodies, engines, grants, claims, requests, rfl⟩ := h
  exact ⟨⟨rfl, custody⟩, rfl, fun q ne => State.port_setPort_ne _ _ _ _ ne, State.port_setPort_self ..⟩

/-- The entry's cell taken up by its job. -/
def State.takenUp (s : State) (c : CellNo) (rest : List CellNo) : State := ((s.judging rest).cellListed c).cellBegun c

section
variable {s : State} {c : CellNo} {rest : List CellNo} {p : PortNo}

theorem State.takenUp_frame : (s.judging rest).SameButCells (s.takenUp c rest) := by
  have same : (s.judging rest).SameButCells (s.judging rest) := ⟨_, _, rfl⟩
  exact ((same.writeMem _ _).setCustody _ _).trans (State.cellBegun_frame _ c)

theorem State.takenUp_enters : s.Enters (s.takenUp c rest) rest :=
  State.Enters.cells (u := s.judging rest) ⟨s.mem, s.custody, s.engines, s.grants, s.claims, s.requests, rfl⟩ State.takenUp_frame

theorem State.takenUp_arbiter : s.SameArbiter (s.takenUp c rest) :=
  State.SameArbiter.cells (t := s.judging rest) ⟨rfl, rfl, rfl, rfl, rfl⟩ State.takenUp_frame

theorem State.takenUp_custody {d : CellNo} (ne : d ∉ [c]) : (s.takenUp c rest).custodyOf d = s.custodyOf d := by
  have ne : c ≠ d := fun e => ne (List.mem_singleton.mpr e.symm)
  rw [State.takenUp, State.cellBegun_custodyOf, if_neg ne, State.cellListed, State.setCustody_custodyOf, if_neg ne]
  rfl

variable (hm : s.memOk)
include hm

theorem State.cellListed_memOk : ((s.judging rest).cellListed c).memOk := State.memOk_writeCellState hm c .queued

theorem State.takenUp_memOk : (s.takenUp c rest).memOk :=
  (State.OnlyCells.cellBegun (State.cellListed_memOk hm) c).canonical

theorem State.takenUp_runs : (s.takenUp c rest).cellRuns c s.tick := State.cellBegun_runs (State.cellListed_memOk hm) c

/-- The start writes its three words (R143). -/
theorem State.takenUp_kept {a : Nat} (far : ¬ inStartWords c a) : (s.takenUp c rest).readMem a = s.readMem a := by
  rw [not_or, not_or] at far
  obtain ⟨h0, h4, h5⟩ := far
  have listed : ((s.judging rest).cellListed c).readMem a = s.readMem a :=
    (State.readMem_writeMem (s.judging rest) (cellBase c) a _ hm).trans (if_neg (Ne.symm h0))
  rw [State.takenUp, State.cellBegun_readMem (State.cellListed_memOk hm), if_neg (Ne.symm h0), if_neg (Ne.symm h5),
    if_neg (Ne.symm h4), listed]

end

/-- The entry's cell joined to a jobless port's list, its job begun (R142, R143). -/
theorem Moves.entryBegins (s : State) (c : CellNo) (rest : List CellNo) {p : PortNo} (jobless : (s.port p).jobless) (w : Work) :
    ∃ t, ((s.judging rest).joined p c w).startJobs p = State.startHead t p ∧
      (t.port p).jobs = [(s.judging rest).jobOf c w] ∧
      Moves true (s.takenUp c rest) (t.headBegun p ((s.judging rest).jobOf c w) []) p
        (Port.headTaken (s.port p) ((s.judging rest).jobOf c w) s.tick []) := by
  have joined := Moves.joined (s.judging rest) p c w
  have alone : ((s.judging rest).port p).jobs ++ [(s.judging rest).jobOf c w] = [(s.judging rest).jobOf c w] := by
    rw [show ((s.judging rest).port p).jobs = [] from jobless.1, List.nil_append]
  rw [alone] at joined
  have idle : (((s.judging rest).joined p c w).port p).status.running = none :=
    (congrArg Status.running joined.status).trans jobless.2
  have begun := joined.headBegun ((s.judging rest).jobOf c w) []
  refine ⟨(s.judging rest).joined p c w, ?_, joined.jobs, begun.as rfl⟩
  rw [State.startJobs_waiting joined.jobs, List.length_singleton, State.startJobsUpTo_waits idle joined.jobs]
  rfl

end Sys2Proof.Machine

namespace Sys2Proof.Machine

/-! ### The three kinds of start (O21, O22, O23) -/

theorem State.SameArbiter.engineOf {s t : State} (h : s.SameArbiter t) (p : PortNo) : t.engineOf p = s.engineOf p := by
  rw [h.own]
  rfl

theorem State.SameArbiter.kept {s t : State} (h : s.SameArbiter t) : s.enginesKept t :=
  ⟨h.engines, h.grants, h.claims, h.requests⟩

theorem State.SameArbiter.setPort {s t : State} (h : s.SameArbiter t) (p : PortNo) (z : Port) : s.SameArbiter (t.setPort p z) :=
  ⟨h.engines, h.grants, h.claims, h.requests, h.ready⟩

theorem State.SameArbiter.held {s t : State} (h : s.SameArbiter t) {e : EngineNo} {m : Measurement} {p : PortNo}
    (measures : s.measures e m p) : t.grantsOk ∧ (t.engine e).meas = some m ∧ m.holder = p := by
  obtain ⟨ok, hm, holder, -⟩ := measures
  refine ⟨ok.of_parts h.engines h.grants h.claims, ?_, holder⟩
  rw [h.own]
  exact hm

/-- Kind and port of a cell whose second word is known (11.3). -/
theorem kind_port {n k : Nat} {p : PortNo} (h : n = 256 * k + p.val) : n / 256 = k ∧ n % 256 = p.val := by
  have := p.isLt
  omega

section
variable {s : State} {c : CellNo} {rest : List CellNo} {p : PortNo} {w : Work}

/-- The entry's command, where its cell is accepted on a jobless port. -/
theorem exec_tick_begins (due : s.entryDue c rest) (ready : s.cellWord c 0 = 1) (asks : s.asks c w)
    (port : (s.cellWord c 1).toNat % 256 = p.val) (jobless : (s.port p).jobless) :
    ∃ t, exec .tick s = .next (State.startHead t p).closeEdits ∧ (t.port p).jobs = [(s.judging rest).jobOf c w] ∧
      Moves true (s.takenUp c rest) (t.headBegun p ((s.judging rest).jobOf c w) []) p
        (Port.headTaken (s.port p) ((s.judging rest).jobOf c w) s.tick []) := by
  obtain ⟨t, starts, jobs, begun⟩ := Moves.entryBegins s c rest jobless w
  refine ⟨t, ?_, jobs, begun⟩
  have room : ((s.judging rest).port p).jobs.length < 4 := by
    rw [show ((s.judging rest).port p).jobs = [] from jobless.1]
    decide
  rw [exec_tick_judges due ready, State.judge_appends (s := s.judging rest) asks port room, starts]

theorem State.takenUp_closed (due : s.entryDue c rest) : (s.takenUp c rest).editsClosed :=
  State.takenUp_frame.editsClosed due.2.1

theorem State.takenUp_port : (s.takenUp c rest).port p = s.port p := State.takenUp_frame.port p

theorem State.takenUp_free (free : s.engineOf p = none) : (s.takenUp c rest).engineOf p = none :=
  (State.takenUp_arbiter.engineOf p).trans free

end

/-- What the host sees of a start on a port that no engine holds. -/
theorem State.seen_free {s u : State} {c : CellNo} {rest : List CellNo} {p : PortNo} {z : Port}
    (enters : s.Enters u rest) (arbiter : s.SameArbiter u) (custody : ∀ d, d ∉ [c] → u.custodyOf d = s.custodyOf d) :
    s.tookEntry (u.setPort p z) rest [c] ∧ s.enginesKept (u.setPort p z) ∧ (u.setPort p z).globalNews = s.globalNews ∧
      (∀ q, q ≠ p → (u.setPort p z).port q = s.port q) ∧ (u.setPort p z).port p = z := by
  obtain ⟨took, news⟩ := enters.seen (z := z) custody
  exact ⟨took, (arbiter.setPort p z).kept, news⟩

/-- What the host sees of a start on a port that an engine held. -/
theorem State.seen_held {s u : State} {c : CellNo} {rest : List CellNo} {p : PortNo} {z : Port} {e : EngineNo}
    (enters : s.Enters u rest) (released : s.releasedIn u e p)
    (custody : ∀ d, d ∉ [c] → u.custodyOf d = s.custodyOf d) :
    s.tookEntry (u.setPort p z) rest [c] ∧ s.releasedIn (u.setPort p z) e p ∧
      (u.setPort p z).globalNews = s.globalNews ∧ (∀ q, q ≠ p → (u.setPort p z).port q = s.port q) ∧
      (u.setPort p z).port p = z := by
  obtain ⟨took, news⟩ := enters.seen (z := z) custody
  exact ⟨took, released, news⟩

section
variable {s t u : State} {e : EngineNo} {m : Measurement} (r : s.Released t u e m)
include r

theorem State.Released.custodyOf (d : CellNo) : u.custodyOf d = t.custodyOf d :=
  (congrArg (fun v : State => v.custodyOf d) r.frame).trans rfl

theorem State.Released.port (p : PortNo) : u.port p = t.port p :=
  (congrArg (fun v : State => v.port p) r.frame).trans rfl

theorem State.Released.tick : u.tick = t.tick := (congrArg State.tick r.frame).trans rfl

end

/-- The slab freed and the engine released after the cell was taken up. -/
structure State.TakenReleased (s u : State) (c : CellNo) (rest : List CellNo) (e : EngineNo) (m : Measurement) : Prop where
  enters : s.Enters u rest
  released : s.releasedIn u e m.holder
  memOk : u.memOk
  closed : u.editsClosed
  port : ∀ p, u.port p = s.port p
  tick : u.tick = s.tick
  runs : u.cellRuns c s.tick
  kept : ∀ a, ¬ inStartWords c a → (∀ k, m.filling = some k → a ≠ ownerAddr k) → u.readMem a = s.readMem a
  freed : ∀ k, m.filling = some k → u.readMem (ownerAddr k) = 0
  custody : ∀ d, d ∉ [c] → u.custodyOf d = s.custodyOf d

theorem State.takenReleased {s : State} {c : CellNo} {rest : List CellNo} (due : s.entryDue c rest) (hm : s.memOk)
    {e : EngineNo} {m : Measurement} (ok : s.grantsOk) (meas : (s.engine e).meas = some m) :
    s.TakenReleased (((s.takenUp c rest).freeSlab m.filling).release e) c rest e m := by
  have r := State.takenUp_arbiter.released ok (State.takenUp_memOk (c := c) (rest := rest) hm) meas
  have ports := fun p => (r.port p).trans (State.takenUp_port (s := s) (c := c) (rest := rest) (p := p))
  have custody := r.custodyOf
  refine ⟨State.takenUp_enters.released r, r.released, r.canonical, fun p => ?_, ports, ?_, ?_, fun a out far => ?_,
    r.freed, fun d ne => ?_⟩
  · rw [ports]
    exact due.2.1 p
  · exact r.tick.trans State.takenUp_frame.tick
  · refine State.cellRuns_of_same (State.takenUp_runs hm) (fun a head => r.kept a fun k _ e => ?_) (custody c)
    exact ownerAddr_not_inCellHead k c (e ▸ head)
  · rw [r.kept a far, State.takenUp_kept hm out]
  · rw [custody, State.takenUp_custody ne]

/-- Settles O21: a TRAIN job starts on its entry. -/
theorem trainJobStartsAttempt : Obligations.TrainJobStartsAttempt := by
  unfold Obligations.TrainJobStartsAttempt
  intro s c rest p f due hm ready word hf valid jobless short started
  obtain ⟨kind, port⟩ := kind_port (k := 1) word
  have asks : s.asks c (.train f) := .inl ⟨kind, hf ▸ valid, by rw [hf]⟩
  obtain ⟨t, taken, jobs, begun⟩ := exec_tick_begins due ready asks port jobless
  rw [State.startHead_train jobs rfl] at taken
  have allowed : f.allowed ≠ 0 := (ne_zero_iff_toNat _).mpr ((Profile.valid_iff f).mp valid).1
  have same : ∀ {ready}, ready = s.isReady (quadOf p) → (Port.headTaken (s.port p) ((s.judging rest).jobOf c (.train f))
      s.tick []).trainStarted c f (s.takenUp c rest).tick ready = started := by
    rintro _ rfl
    rw [State.takenUp_frame.tick]
    exact Port.trainStarted_headTaken (s.port p) ((s.judging rest).jobOf c (.train f)) f s.tick [] _
  have count : started.editCount = (s.port p).editCount + 2 := by
    refine (Port.sequenceStarted_parts _ _ _).1.trans (congrArg (· + 2) ?_)
    unfold Port.unlinked
    split_ifs <;> rfl
  refine ⟨fun free => ?_, fun e m measures => ?_⟩
  · have moved := (begun.startTrain rfl allowed short (aborts_free (State.takenUp_free free) _)).as
      (same (State.takenUp_frame.isReady _))
    rw [moved.close_counted (State.takenUp_closed due) (.refl _) (by rw [State.takenUp_port, count])] at taken
    exact ⟨_, taken, State.takenUp_runs (c := c) (rest := rest) hm,
      fun a far => State.takenUp_kept (c := c) (rest := rest) hm far,
      State.seen_free (State.takenUp_enters (c := c)) (State.takenUp_arbiter (rest := rest))
        fun d ne => State.takenUp_custody (rest := rest) ne⟩
  · obtain ⟨ok, meas, holder⟩ := (State.takenUp_arbiter (c := c) (rest := rest)).held measures
    have r := State.takenReleased due hm measures.1 measures.2.1
    have released := r.released
    rw [holder] at released
    have aborts := aborts_held ok meas holder
    rw [← measures.2.2.2] at aborts
    have moved := (begun.startTrain rfl allowed short aborts).as (same (State.takenUp_frame.isReady _))
    rw [moved.close_counted r.closed (.refl _) (by rw [r.port, count])] at taken
    exact ⟨_, taken, r.runs, r.kept, r.freed, State.seen_held r.enters released r.custody⟩

end Sys2Proof.Machine

namespace Sys2Proof.Machine

/-! ### Starts that end the job (R16, R18) -/

theorem inCellHead_of_inStartWords {c : CellNo} {a : Nat} (h : inStartWords c a) : inCellHead c a := by
  unfold inCellHead
  rcases h with rfl | rfl | rfl <;> omega

section
variable {s u : State} {c : CellNo} (hm : u.memOk) (tick : u.tick = s.tick) (out : JobOutcome)
include hm tick

/-- The taken up cell ended on its start. -/
theorem State.startEnded_cell : (u.endCell c .done out .none s.tick).cellEnded c 4 out.code 0 s.tick s.tick := by
  have ended := State.endCell_ended hm c .done out .none s.tick
  rw [tick] at ended
  exact ended

end

theorem State.startEnded_custody {s u : State} {c : CellNo} {out : JobOutcome} {start : Ticks}
    (custody : ∀ d, d ∉ [c] → u.custodyOf d = s.custodyOf d) :
    ∀ d, d ∉ [c] → (u.endCell c .done out .none start).custodyOf d = s.custodyOf d := fun d ne => by
  rw [State.endCell_custodyOf, if_neg fun e => ne (List.mem_singleton.mpr e.symm), custody d ne]

section
variable {s : State} {c : CellNo} {rest : List CellNo} {p : PortNo}

/-- What the host sees of a job that ended on its start, on a port that no engine held. -/
theorem State.seen_ended (due : s.entryDue c rest) (hm : s.memOk) (out : JobOutcome) {t : State} {z : Port}
    (moved : Moves true ((s.takenUp c rest).endCell c .done out .none s.tick) t p z)
    (taken : exec .tick s = .next t.closeEdits) :
    ∃ t, exec .tick s = .next t ∧ t.cellEnded c 4 out.code 0 s.tick s.tick ∧ s.memKeptBut t c ∧
      s.tookEntry t rest [c] ∧ s.enginesKept t ∧ t.globalNews = s.globalNews ∧ (∀ q, q ≠ p → t.port q = s.port q) ∧
      t.port p = { z with editCount := (s.port p).editCount + 2 } := by
  have hm' := State.takenUp_memOk (c := c) (rest := rest) hm
  have only := State.OnlyCells.endCell hm' c .done out .none s.tick
  have enters : s.Enters _ rest := (State.takenUp_enters (s := s) (c := c) (rest := rest)).cells only.frame
  have arbiter : s.SameArbiter _ := (State.takenUp_arbiter (s := s) (c := c) (rest := rest)).cells only.frame
  have cell := State.startEnded_cell (s := s) (c := c) hm' State.takenUp_frame.tick out
  have custody := State.startEnded_custody (s := s) (u := s.takenUp c rest) (c := c) (out := out) (start := s.tick)
    fun d ne => State.takenUp_custody ne
  have kept : ∀ a, ¬ inCellHead c a → ((s.takenUp c rest).endCell c .done out .none s.tick).readMem a = s.readMem a :=
    fun a far => (State.endCell_readMem hm' far _ _ _ _).trans
      (State.takenUp_kept hm fun words => far (inCellHead_of_inStartWords words))
  rw [moved.close (only.frame.editsClosed (State.takenUp_closed due)),
    (only.frame.port p).trans (State.takenUp_port (s := s) (c := c) (rest := rest))] at taken
  generalize (s.takenUp c rest).endCell c .done out .none s.tick = u at *
  exact ⟨_, taken, cell, kept, State.seen_free enters arbiter custody⟩

/-- What the host sees of a HOLD on a port that an engine held. -/
theorem State.seen_heldEnded {e : EngineNo} {m : Measurement} {b : State} (r : s.TakenReleased b c rest e m)
    (holder : m.holder = p) (out : JobOutcome) {t : State} {z : Port}
    (moved : Moves true (b.endCell c .done out .none s.tick) t p z) (taken : exec .tick s = .next t.closeEdits) :
    ∃ t, exec .tick s = .next t ∧ t.cellEnded c 4 out.code 0 s.tick s.tick ∧ s.memKeptFreeing t [c] m.filling ∧
      s.tookEntry t rest [c] ∧ s.releasedIn t e p ∧ t.globalNews = s.globalNews ∧
      (∀ q, q ≠ p → t.port q = s.port q) ∧ t.port p = { z with editCount := (s.port p).editCount + 2 } := by
  have only := State.OnlyCells.endCell r.memOk c .done out .none s.tick
  have enters : s.Enters _ rest := r.enters.cells only.frame
  have released := r.released
  rw [holder] at released
  have released' : s.releasedIn (b.endCell c .done out .none s.tick) e p := by
    obtain ⟨mem, custody, frame⟩ := only.frame
    rw [frame]
    exact released
  have cell := State.startEnded_cell (s := s) (c := c) r.memOk r.tick out
  have custody := State.startEnded_custody (s := s) (c := c) (out := out) (start := s.tick) r.custody
  have kept : ∀ a, ¬ inCellHead c a → (∀ k, m.filling = some k → a ≠ ownerAddr k) →
      (b.endCell c .done out .none s.tick).readMem a = s.readMem a := fun a head far =>
    (State.endCell_readMem r.memOk head _ _ _ _).trans
      (r.kept a (fun words => head (inCellHead_of_inStartWords words)) far)
  have freed : ∀ k, m.filling = some k → (b.endCell c .done out .none s.tick).readMem (ownerAddr k) = 0 := fun k hk =>
    (State.endCell_readMem r.memOk (ownerAddr_not_inCellHead k c) _ _ _ _).trans (r.freed k hk)
  rw [moved.close (only.frame.editsClosed r.closed), (only.frame.port p).trans (r.port p)] at taken
  generalize b.endCell c .done out .none s.tick = u at *
  exact ⟨_, taken, cell, ⟨fun a far => kept a (far c List.mem_cons_self), freed⟩, State.seen_held enters released' custody⟩

end

/-- A HOLD keeps the list and makes one edit. -/
theorem Port.heldDown_own {x : Port} (empty : x.jobs = []) (tick : Ticks) :
    ({ x.heldDown tick with jobs := [], editCount := x.editCount + 2 } : Port) = x.heldDown tick := by
  have jobs : (x.heldDown tick).jobs = [] := by
    rw [← empty]
    unfold Port.heldDown Port.unlinked
    split_ifs <;> rfl
  have count : (x.heldDown tick).editCount = x.editCount + 2 := by
    unfold Port.heldDown Port.unlinked
    split_ifs <;> rfl
  rw [← jobs, ← count]

/-- Settles O23: a HOLD job runs through. -/
theorem holdJobDisablesPort : Obligations.HoldJobDisablesPort := by
  unfold Obligations.HoldJobDisablesPort
  intro s c rest p due hm ready word jobless short disabled
  obtain ⟨kind, port⟩ := kind_port (k := 3) word
  obtain ⟨t, taken, jobs, begun⟩ := exec_tick_begins due ready (w := .hold) (.inr (.inr ⟨kind, rfl⟩)) port jobless
  rw [State.startHead_hold jobs rfl] at taken
  have same : ∀ {tick}, tick = s.tick → ({ ({ (Port.headTaken (s.port p) ((s.judging rest).jobOf c .hold) s.tick []).heldDown
      tick with jobs := [] } : Port) with editCount := (s.port p).editCount + 2 } : Port) = disabled := by
    rintro _ rfl
    rw [Port.heldDown_headTaken]
    exact Port.heldDown_own jobless.1 s.tick
  refine ⟨fun free => ?_, fun e m measures => ?_⟩
  · have moved := begun.startHold rfl short (aborts_free (State.takenUp_free free) _)
    have seen := State.seen_ended due hm .held moved taken
    rw [same State.takenUp_frame.tick] at seen
    exact seen
  · obtain ⟨ok, meas, holder⟩ := (State.takenUp_arbiter (c := c) (rest := rest)).held measures
    have aborts := aborts_held ok meas holder
    rw [← measures.2.2.2] at aborts
    have moved := begun.startHold rfl short aborts
    have seen := State.seen_heldEnded (State.takenReleased due hm measures.1 measures.2.1) holder .held moved taken
    rw [same State.takenUp_frame.tick] at seen
    exact seen

/-- A job that begins and ends on a jobless port leaves its news there alone (R144). -/
theorem Port.headTaken_jobEnded {x : Port} (jobless : x.jobless) (j : Job) (tick : Ticks) :
    (x.headTaken j tick []).jobEnded = { x with news := x.news ||| 1 } := by
  have own : ∀ (l : List Job) (st : Status), l = x.jobs → st = x.status →
      ({ x with news := x.news ||| 1, jobs := l, status := st } : Port) = { x with news := x.news ||| 1 } := by
    rintro _ _ rfl rfl
    rfl
  refine own [] { x.status with running := none } jobless.1.symm ?_
  rw [← jobless.2]

/-- Settles O22: a DIAGNOSE job starts on its entry, or ends on it with LINK_UP. -/
theorem diagnoseJobStarts : Obligations.DiagnoseJobStarts := by
  unfold Obligations.DiagnoseJobStarts
  intro s c rest p r due hm ready word hr valid jobless short probing
  obtain ⟨kind, port⟩ := kind_port (k := 2) word
  have asks : s.asks c (.diagnose r ((s.cellParam c 0).getLsbD 6)) := .inr (.inl ⟨kind, hr ▸ valid, by rw [hr]⟩)
  obtain ⟨t, taken, jobs, begun⟩ := exec_tick_begins due ready asks port jobless
  rw [State.startHead_diagnose jobs rfl] at taken
  refine ⟨fun intrusive => ?_, fun linked quiet => ?_⟩
  · have goes : ¬ ((s.port p).status.state = .linked ∧ (s.cellParam c 0).getLsbD 6 = false) := fun ⟨linked, off⟩ =>
      Bool.false_ne_true (off.symm.trans (intrusive linked))
    have same : (Port.headTaken (s.port p) ((s.judging rest).jobOf c (.diagnose r ((s.cellParam c 0).getLsbD 6))) s.tick
        []).diagnoseStarted c r (s.cellWord c 2) (s.takenUp c rest).tick = probing := by
      rw [State.takenUp_frame.tick]
      exact Port.diagnoseStarted_headTaken (s.port p)
        ((s.judging rest).jobOf c (.diagnose r ((s.cellParam c 0).getLsbD 6))) r s.tick []
    have count : probing.editCount = (s.port p).editCount + 2 := by
      show (Port.diagnoseStarted (s.port p) c r (s.cellWord c 2) s.tick).editCount = _
      unfold Port.diagnoseStarted
      split_ifs <;> rfl
    refine ⟨fun free => ?_, fun e m measures away => ?_⟩
    · have moved := (begun.startDiagnose rfl r (s.cellWord c 2) goes short (aborts_free (State.takenUp_free free) _)).as same
      rw [ite_self] at moved
      have taken := taken.trans (congrArg _ (moved.close_counted (State.takenUp_closed due) (.refl _)
        (by rw [State.takenUp_port, count])))
      exact ⟨_, taken, State.takenUp_runs (c := c) (rest := rest) hm,
        fun a far => State.takenUp_kept (c := c) (rest := rest) hm far,
        State.seen_free (State.takenUp_enters (c := c)) (State.takenUp_arbiter (rest := rest))
          fun d ne => State.takenUp_custody (rest := rest) ne⟩
    · obtain ⟨ok, meas, holder⟩ := (State.takenUp_arbiter (c := c) (rest := rest)).held measures
      have r' := State.takenReleased due hm measures.1 measures.2.1
      have released := r'.released
      rw [holder] at released
      have aborts := aborts_held ok meas holder
      rw [← measures.2.2.2] at aborts
      have moved := (begun.startDiagnose rfl r (s.cellWord c 2) goes short aborts).as same
      rw [if_neg (show ¬ (Port.headTaken (s.port p) ((s.judging rest).jobOf c
        (.diagnose r ((s.cellParam c 0).getLsbD 6))) s.tick []).status.state = .linked from away)] at moved
      have taken := taken.trans (congrArg _ (moved.close_counted r'.closed (.refl _) (by rw [r'.port, count])))
      exact ⟨_, taken, r'.runs, r'.kept, r'.freed, State.seen_held r'.enters released r'.custody⟩
  · have ends := begun.endJob rfl .linkUp
    have state : (State.port (t.headBegun p ((s.judging rest).jobOf c (.diagnose r ((s.cellParam c 0).getLsbD 6))) [])
        p).status.state = .linked := (congrArg Status.state begun.status).trans linked
    rw [State.startDiagnose_linkUp state quiet] at taken
    obtain ⟨t, taken, cell, kept, took, arbiter, news, others, own⟩ := State.seen_ended due hm .linkUp ends taken
    refine ⟨t, taken, cell, kept, took, arbiter, news, others, ?_⟩
    rw [own, Port.headTaken_jobEnded jobless]

end Sys2Proof.Machine

namespace Sys2Proof.Machine

/-! ### Cells cancelled (R145 to R147) -/

@[simp] theorem State.endCell_globalNews (v : State) (c : CellNo) (st : CellState) (out : JobOutcome) (why : Reason)
    (start : Ticks) : (v.endCell c st out why start).globalNews = v.globalNews := by
  simp only [State.endCell_eq, State.setCustody_globalNews, State.writeMem_globalNews]

theorem State.endCell_setPort (v : State) (p : PortNo) (z : Port) (c : CellNo) (st : CellState) (out : JobOutcome)
    (why : Reason) (start : Ticks) :
    (v.setPort p z).endCell c st out why start = (v.endCell c st out why start).setPort p z := rfl

theorem State.endCell_news (v : State) (g : BitVec 4) (c : CellNo) (st : CellState) (out : JobOutcome) (why : Reason)
    (start : Ticks) : { v with globalNews := g }.endCell c st out why start =
      { v.endCell c st out why start with globalNews := g } := rfl

theorem State.endCell_cellNews (v : State) (n : Option PortNo) (c : CellNo) (st : CellState) (out : JobOutcome)
    (why : Reason) (start : Ticks) :
    (v.cellNews n).endCell c st out why start = (v.endCell c st out why start).cellNews n := by
  cases n with
  | none =>
    show ({ v with globalNews := setBit v.globalNews 0 } : State).endCell c st out why start =
      { v.endCell c st out why start with globalNews := setBit (v.endCell c st out why start).globalNews 0 }
    rw [State.endCell_news, State.endCell_globalNews]
  | some p =>
    show (v.setPort p ((v.port p).raise .jobDone)).endCell c st out why start =
      (v.endCell c st out why start).setPort p (((v.endCell c st out why start).port p).raise .jobDone)
    rw [State.endCell_port, State.endCell_setPort]

theorem Port.raise_twice (x : Port) : (x.raise .jobDone).raise .jobDone = x.raise .jobDone := by
  have once : setBit (setBit x.news 0) 0 = setBit x.news 0 := by
    rw [setBit_zero, setBit_zero, BitVec.or_assoc, BitVec.or_self]
  exact congrArg (fun n => { x with news := n }) once

theorem State.cellNews_tick (v : State) (n : Option PortNo) : (v.cellNews n).tick = v.tick := by
  cases n <;> rfl

theorem State.cellNews_twice (v : State) (n : Option PortNo) : (v.cellNews n).cellNews n = v.cellNews n := by
  cases n with
  | none => exact v.raiseGlobal_twice
  | some p =>
    show ((v.raisePort p .jobDone).raisePort p .jobDone) = v.raisePort p .jobDone
    unfold State.raisePort
    rw [State.port_setPort_self, State.setPort_setPort, Port.raise_twice]

/-- The target ended CANCELLED and the CANCEL ended DONE (R145, R146). -/
def State.bothEnded (s : State) (c d : CellNo) (start : Ticks) : State :=
  (s.endCell d .cancelled .none .byCancel start).endCell c .done .cancelDone .none s.tick

section
variable {s : State} {c d : CellNo} (hm : s.memOk) (ne : d ≠ c) (start : Ticks)
include hm

theorem State.bothEnded_only : s.OnlyCells (s.bothEnded c d start) [c, d] := by
  have first := State.OnlyCells.endCell hm d .cancelled .none .byCancel start
  have both := first.trans (State.OnlyCells.endCell first.canonical c .done .cancelDone .none s.tick)
  exact ⟨both.frame, both.canonical, fun a far => both.kept a fun x hx => far x (by simpa [or_comm] using hx),
    fun x hx => both.custody x (by simpa [or_comm] using hx)⟩

include ne

theorem State.bothEnded_cells : (s.bothEnded c d start).cellEnded d 6 0 6 start s.tick ∧
    (s.bothEnded c d start).cellEnded c 4 10 0 s.tick s.tick := by
  have first := State.OnlyCells.endCell hm d .cancelled .none .byCancel start
  have cell := State.endCell_ended hm d .cancelled .none .byCancel start
  have last := State.endCell_ended first.canonical c .done .cancelDone .none s.tick
  rw [first.frame.tick] at last
  exact ⟨State.cellEnded_endCell first.canonical cell ne.symm _ _ _ _, last⟩

end

section
variable {s : State} {c d : CellNo}

theorem State.cancel_queued (custody : s.custodyOf d = .intake) : s.cancel c d = (State.bothEnded { s with
    intakeQueue := s.intakeQueue.filter fun x => decide (x ≠ d) } c d s.tick).cellNews (s.namedPort d) := by
  have tick : (s.cancelQueued d).tick = s.tick :=
    (State.cellNews_tick _ _).trans (State.endCell_frame _ _ _ _ _ _).tick
  calc s.cancel c d = ((s.cancelQueued d).endCell c .done .cancelDone .none (s.cancelQueued d).tick).cellNews (s.namedPort d) := by
        rw [State.cancel, custody]
        rfl
    _ = _ := by
        rw [tick, State.cancelQueued, State.cancelCell, State.endCell_cellNews, State.cellNews_twice]
        rfl

/-- One list holds the cell (R136). -/
theorem State.jobsOk.listPortOf {s : State} (ok : s.jobsOk) {p : PortNo} (listed : s.inList p d) : s.listPortOf d = some p := by
  cases h : s.listPortOf d with
  | some q => exact congrArg some (ok.oneList q p d (State.inList_of_listPortOf h) listed)
  | none =>
    have none := List.find?_eq_none.mp h p (List.mem_finRange p)
    obtain ⟨j, hj, e⟩ := List.mem_map.mp listed
    exact absurd (List.any_eq_true.mpr ⟨j, hj, decide_eq_true e⟩) none

end

/-- A cell intake holds is in no list (R136). -/
theorem State.jobsOk.queued_not_listed {s : State} (ok : s.jobsOk) {c : CellNo} {p : PortNo} (queued : c ∈ s.intakeQueue)
    (listed : s.inList p c) : False := by
  have custody := (ok.queueCustody c).mp queued
  rcases ok.listCustody p c listed with ⟨e, -⟩ | ⟨e, -⟩ <;> exact Custody.noConfusion (e.symm.trans custody)

/-- What the host sees of a CANCEL of a cell in the queue or in a list, at the close. -/
theorem State.entry_seen {s u : State} {rest : List CellNo} {p : PortNo} (enters : s.Enters u rest)
    (arbiter : s.SameArbiter u) {cells : List CellNo} (custody : ∀ x, x ∉ cells → u.custodyOf x = s.custodyOf x) (z : Port) :
    s.tookEntry (u.setPort p z) rest cells ∧ s.enginesKept (u.setPort p z) ∧ (u.setPort p z).globalNews = s.globalNews ∧
      (∀ q, q ≠ p → (u.setPort p z).port q = s.port q) ∧ (u.setPort p z).port p = z := by
  obtain ⟨took, news⟩ := enters.seen (z := z) custody
  exact ⟨took, (arbiter.setPort p z).kept, news⟩

end Sys2Proof.Machine

namespace Sys2Proof.Machine

/-! ### A CANCEL of a cell that waits (R146) -/

theorem State.closeEdits_news {v : State} (closed : v.editsClosed) :
    (v.cellNews none).closeEdits = { v with globalNews := v.globalNews ||| 1, ports := v.ports } ∧
      ∀ p, (v.cellNews (some p)).closeEdits = { v with
        globalNews := v.globalNews, ports := v.ports.set p { v.port p with news := (v.port p).news ||| 1 } } :=
  ⟨State.closeEdits_cellNews closed true none, fun p => State.closeEdits_cellNews closed false (some p)⟩

/-- What the host sees of a CANCEL of a queued cell, whatever the news. -/
theorem State.Enters.newsSeen {s u : State} {rest : List CellNo} (enters : s.Enters u rest) (arbiter : s.SameArbiter u)
    {cells : List CellNo} (custody : ∀ x, x ∉ cells → u.custodyOf x = s.custodyOf x) (g : BitVec 4)
    (ports : Vector Port 48) :
    s.tookEntry { u with globalNews := g, ports := ports } rest cells ∧
      s.enginesKept { u with globalNews := g, ports := ports } := by
  obtain ⟨mem, custodies, engines, grants, claims, requests, rfl⟩ := enters
  exact ⟨⟨rfl, custody⟩, arbiter.engines, arbiter.grants, arbiter.claims, arbiter.requests⟩

theorem State.Enters.parts {s u : State} {rest : List CellNo} (enters : s.Enters u rest) :
    u.globalNews = s.globalNews ∧ u.ports = s.ports := by
  obtain ⟨mem, custodies, engines, grants, claims, requests, rfl⟩ := enters
  exact ⟨rfl, rfl⟩

theorem State.judging_enters (s : State) (rest : List CellNo) : s.Enters (s.judging rest) rest :=
  ⟨_, _, _, _, _, _, rfl⟩

theorem State.judging_arbiter (s : State) (rest : List CellNo) : s.SameArbiter (s.judging rest) :=
  ⟨rfl, rfl, rfl, rfl, rfl⟩

section
variable {s : State} {c d : CellNo} {rest : List CellNo} (due : s.entryDue c rest) (hm : s.memOk)
  (ready : s.cellWord c 0 = 1) (kind : (s.cellWord c 1).toNat / 256 = 4) (target : (s.cellParam c 0).toNat = d.val)
  (ne : d ≠ c)
include due ready kind target ne

theorem exec_tick_cancels : exec .tick s = .next ((s.judging rest).cancel c d).closeEdits :=
  (exec_tick_judges due ready).trans
    (congrArg (fun t => Host.Outcome.next (State.closeEdits t)) (State.judge_cancelOf (s := s.judging rest) kind target ne))

include hm

/-- O25, a target in the queue. -/
theorem exec_tick_cancelsQueued (custody : s.custodyOf d = .intake) : ∃ t, exec .tick s = .next t ∧
    (t.cellEnded d 6 0 6 s.tick s.tick ∧ t.cellEnded c 4 10 0 s.tick s.tick) ∧
    s.memKeptFreeing t [c, d] none ∧ s.tookEntry t (rest.filter fun x => decide (x ≠ d)) [c, d] ∧ s.enginesKept t ∧
    (48 ≤ (s.cellWord d 1).toNat % 256 → t.globalNews = s.globalNews ||| 1 ∧ ∀ p, t.port p = s.port p) ∧
    ∀ p : PortNo, (s.cellWord d 1).toNat % 256 = p.val → t.globalNews = s.globalNews ∧
      (∀ q, q ≠ p → t.port q = s.port q) ∧
      t.port p = { s.port p with news := (s.port p).news ||| 1 } := by
  have taken := exec_tick_cancels due ready kind target ne
  rw [State.cancel_queued (s := s.judging rest) custody] at taken
  have hm' : (s.judging (rest.filter fun x => decide (x ≠ d))).memOk := hm
  have only := State.bothEnded_only (c := c) (d := d) hm' s.tick
  have cells := State.bothEnded_cells hm' ne s.tick
  have enters := (s.judging_enters (rest.filter fun x => decide (x ≠ d))).cells only.frame
  have arbiter := (s.judging_arbiter (rest.filter fun x => decide (x ≠ d))).cells only.frame
  have closed := only.frame.editsClosed (show (s.judging _).editsClosed from due.2.1)
  replace taken : exec .tick s = .next (State.closeEdits (((s.judging (rest.filter fun x => decide (x ≠ d))).bothEnded c d
    s.tick).cellNews ((s.judging rest).namedPort d))) := taken
  have kept := only.kept
  have custodies := only.custody
  generalize (s.judging (rest.filter fun x => decide (x ≠ d))).bothEnded c d s.tick = u at *
  obtain ⟨globalNews, ports⟩ := enters.parts
  obtain ⟨newsNone, newsSome⟩ := State.closeEdits_news closed
  rcases Nat.lt_or_ge ((s.cellWord d 1).toNat % 256) 48 with near | far
  · obtain ⟨p, hp⟩ : ∃ p : PortNo, (s.cellWord d 1).toNat % 256 = p.val := ⟨⟨_, near⟩, rfl⟩
    rw [State.namedPort_some (s := s.judging rest) (p := p) hp, newsSome p] at taken
    obtain ⟨took, engines⟩ := enters.newsSeen arbiter custodies u.globalNews
      (u.ports.set p { u.port p with news := (u.port p).news ||| 1 })
    refine ⟨_, taken, cells, ⟨fun a far _ => kept a far, nofun⟩, took, engines, fun far => absurd near (by omega),
      fun q hq => ?_⟩
    obtain rfl : p = q := Fin.ext (hp.symm.trans hq)
    have port : ∀ r, u.port r = s.port r := fun r => congrArg (·[r]) ports
    exact ⟨globalNews, fun q hq => (State.port_setPort_ne u p _ q hq).trans (port q),
      (State.port_setPort_self u p _).trans (by rw [port])⟩
  · rw [State.namedPort_none (s := s.judging rest) far, newsNone] at taken
    obtain ⟨took, engines⟩ := enters.newsSeen arbiter custodies (u.globalNews ||| 1) u.ports
    exact ⟨_, taken, cells, ⟨fun a far _ => kept a far, nofun⟩, took, engines,
      fun _ => ⟨congrArg (· ||| 1) globalNews, fun p => congrArg (·[p]) ports⟩, fun q hq => absurd q.isLt (by omega)⟩

end

/-! ### A CANCEL of a cell in a list (R146) -/

theorem Moves.bothEnded {o : Bool} {b t : State} {p : PortNo} {y : Port} (h : Moves o b t p y) (c d : CellNo)
    (start : Ticks) : Moves o (b.bothEnded c d start) (t.bothEnded c d start) p y := by
  have ended := (h.endCell d .cancelled .none .byCancel start).endCell c .done .cancelDone .none b.tick
  rw [← h.tick] at ended
  rw [State.bothEnded, ← h.tick]
  exact ended

/-- The list without the cell. -/
def Port.unlisted (d : CellNo) (x : Port) : Port := { x with jobs := x.jobs.filter fun j => decide (j.cell ≠ d) }

theorem Port.blind_unlisted (d : CellNo) : Port.Blind (Port.unlisted d) := fun _ _ => rfl

theorem Port.unlisted_cells {d : CellNo} {x : Port} (listed : d ∈ x.jobs.map Job.cell) :
    x.jobs.map Job.cell ≠ (x.unlisted d).jobs.map Job.cell := fun e => by
  rw [e] at listed
  obtain ⟨j, hj, cell⟩ := List.mem_map.mp listed
  exact of_decide_eq_true (List.mem_filter.mp hj).2 cell

section
variable {s : State} {c d : CellNo} {p : PortNo}

theorem State.cancel_listed (custody : s.custodyOf d = .listed) (at_ : s.listPortOf d = some p) :
    s.cancel c d = ((s.updPort p (Port.unlisted d)).bothEnded c d s.tick).raisePort p .jobDone := by
  have tick : (s.cancelListed p d).tick = s.tick :=
    (State.cellNews_tick _ _).trans (State.endCell_frame _ _ _ _ _ _).tick
  calc s.cancel c d = ((s.cancelListed p d).endCell c .done .cancelDone .none (s.cancelListed p d).tick).cellNews
          (some p) := by
        rw [State.cancel, custody, at_]
        rfl
    _ = _ := by
        rw [tick, State.cancelListed, State.cancelCell, State.endCell_cellNews, State.cellNews_twice]
        rfl

theorem Moves.cancelListed (s : State) (listed : s.inList p d) (c : CellNo) :
    Moves true (s.bothEnded c d s.tick) (((s.updPort p (Port.unlisted d)).bothEnded c d s.tick).raisePort p .jobDone) p
      (((s.port p).unlisted d).raise .jobDone) :=
  (((Moves.first s p (Port.blind_unlisted d)).opened
    (Port.samePage_of_cells_ne (Port.unlisted_cells listed))).bothEnded c d s.tick).raise .jobDone

end

section
variable {s : State} {c d : CellNo} {rest : List CellNo} {p : PortNo} (due : s.entryDue c rest) (hm : s.memOk)
  (ready : s.cellWord c 0 = 1) (kind : (s.cellWord c 1).toNat / 256 = 4) (target : (s.cellParam c 0).toNat = d.val)
  (ne : d ≠ c)
include due hm ready kind target ne

/-- O25, a target that waits in a list. -/
theorem exec_tick_cancelsListed (ok : s.jobsOk) (custody : s.custodyOf d = .listed) (listed : s.inList p d) :
    ∃ t, exec .tick s = .next t ∧ (t.cellEnded d 6 0 6 s.tick s.tick ∧ t.cellEnded c 4 10 0 s.tick s.tick) ∧
      s.memKeptFreeing t [c, d] none ∧ s.tookEntry t rest [c, d] ∧ s.enginesKept t ∧ t.globalNews = s.globalNews ∧
      (∀ q, q ≠ p → t.port q = s.port q) ∧ t.port p = { s.port p with
        jobs := (s.port p).jobs.filter (fun j => decide (j.cell ≠ d))
        news := (s.port p).news ||| 1, editCount := (s.port p).editCount + 2 } := by
  have taken := exec_tick_cancels due ready kind target ne
  rw [State.cancel_listed (s := s.judging rest) (p := p) custody (ok.listPortOf listed)] at taken
  have hm' : (s.judging rest).memOk := hm
  have moved := Moves.cancelListed (s.judging rest) (p := p) listed c
  have only := State.bothEnded_only (c := c) (d := d) hm' (s.judging rest).tick
  have cells := State.bothEnded_cells hm' ne (s.judging rest).tick
  have enters := (s.judging_enters rest).cells only.frame
  have arbiter := (s.judging_arbiter rest).cells only.frame
  have closed := only.frame.editsClosed (show (s.judging rest).editsClosed from due.2.1)
  have port := only.frame.port p
  have news : setBit (s.port p).news 0 = (s.port p).news ||| 1 := setBit_zero _
  have kept := only.kept
  have custodies := only.custody
  rw [moved.close closed, port] at taken
  rw [← news]
  generalize (s.judging rest).bothEnded c d (s.judging rest).tick = u at *
  exact ⟨_, taken, cells, ⟨fun a far _ => kept a far, nofun⟩, State.entry_seen enters arbiter custodies _⟩

end

end Sys2Proof.Machine

namespace Sys2Proof.Machine

/-! ### The resumption rule (R17) -/

/-- A port without a running TRAIN job resumes (R17). -/
theorem Moves.resume {o : Bool} {b t : State} {p : PortNo} {y : Port} (h : Moves o b t p y)
    (other : y.runsTrain = false) : Moves o b (t.resume p) p (y.resumed (b.isReady (quadOf p))) := by
  unfold Port.resumed
  rw [State.resume, h.profile]
  cases none : y.profile with
  | none => exact (h.enterDisabled.as (Port.disable_eq_disabledNow y none)).alike (Port.alike_edited _).symm
  | some f =>
    rw [if_pos (show (some f).isSome = true from rfl), if_neg (Option.some_ne_none f)]
    have moved := h.retrainOrIdle (.inr (.inl other))
    split_ifs at moved ⊢
    · exact moved
    · exact moved.alike (Port.alike_edited _).symm

/-- Activity ended, the port resumes as one cut short (R15, R17). -/
theorem Port.stopActivity_resumed (x : Port) (ready : Bool) : x.stopActivity.resumed ready = x.cutShort.resumed ready := by
  have bare : x.stopActivity.bare = x.cutShort.bare := rfl
  have disabled : x.stopActivity.disabledNow = x.cutShort.disabledNow := by
    unfold Port.disabledNow
    rw [x.stopActivity_leftFor]
  have profile : x.stopActivity.profile = x.cutShort.profile := rfl
  have prof : x.stopActivity.prof = x.cutShort.prof := rfl
  unfold Port.resumed
  rw [disabled, profile, prof, Port.sequenceStarted_congr bare, x.stopActivity_leftFor]

theorem Port.resumed_parts (x : Port) (ready : Bool) : (x.resumed ready).jobs = x.jobs ∧
    (x.status.running = none → (x.resumed ready).status.running = none) := by
  obtain ⟨-, jobs, running, -⟩ := x.sequenceStarted_parts ready false
  unfold Port.resumed
  split_ifs
  · exact ⟨rfl, fun _ => rfl⟩
  · exact ⟨jobs, running.trans⟩
  · exact ⟨rfl, id⟩

/-! ### The end of a running job by a CANCEL (R147) -/

/-- What a cancelled job leaves of its port (R19, R147): DISABLED after a TRAIN, resumed after a DIAGNOSE. -/
def Port.leavesAs (y : Port) (w : Work) (ready : Bool) (z : Port) : Prop :=
  (∀ f, w = .train f → z = y.disabledNow) ∧ ∀ r i, w = .diagnose r i → z = y.resumed ready

theorem Port.leavesAs.parts {y z : Port} {w : Work} {ready : Bool} (h : y.leavesAs w ready z) (job : w ≠ .hold)
    (idle : y.status.running = none) : z.jobs = y.jobs ∧ z.status.running = none := by
  obtain ⟨train, diagnose⟩ := h
  cases w with
  | train f => exact train f rfl ▸ ⟨rfl, rfl⟩
  | diagnose r i => exact diagnose r i rfl ▸ ⟨(y.resumed_parts ready).1, (y.resumed_parts ready).2 idle⟩
  | hold => exact absurd rfl job

section
variable {o : Bool} {b t : State} {p : PortNo} {y : Port} {j : Job} {later : List Job}

/-- The head of the list goes, with JOB_DONE (R144, R147). -/
theorem Moves.headGone (h : Moves o b t p y) (jobs : y.jobs = j :: later) :
    Moves o b ((t.updPort p fun x => { x with jobs := later, status := { x.status with running := none } }).cellNews
      (some p)) p y.jobEnded := by
  refine ((h.upd (f := fun x => { x with jobs := later, status := { x.status with running := none } })
    fun _ _ => rfl).raise .jobDone).as ?_
  unfold Port.jobEnded
  rw [jobs]
  rfl

/-- The port's part of a CANCEL of its running job, behind the abort (R147 steps 1 to 5). -/
theorem Moves.cancelsHead {a : State} (h : Moves o b (a.abortPort p (some flagCancelled)) p y.stopActivity)
    (jobs : y.jobs = j :: later) (job : j.work ≠ .hold) {z : Port}
    (leaves : y.jobEnded.cutShort.leavesAs j.work (b.isReady (quadOf p)) z) :
    Moves o (b.endCell j.cell .cancelled .none .byCancel j.start)
      (((((a.abortJob p j.work).cancelCell j.cell j.start).updPort p fun x =>
        { x with jobs := later, status := { x.status with running := none } }).cellNews (some p)).resumeAfter p j.work)
      p z := by
  obtain ⟨train, diagnose⟩ := leaves
  cases work : j.work with
  | train f =>
    have disabled := (h.removeProfile.enterDisabled.as y.stopActivity_disable).endCell j.cell .cancelled .none .byCancel
      j.start
    exact (disabled.headGone (j := j) jobs).as (train f work).symm
  | diagnose r i =>
    have ended := (h.endCell j.cell .cancelled .none .byCancel j.start).headGone (j := j) jobs
    have resumed := ended.resume rfl
    rw [(b.endCell_frame ..).isReady] at resumed
    refine resumed.as ?_
    rw [diagnose r i work]
    exact y.jobEnded.stopActivity_resumed _
  | hold => exact absurd work job

/-- Between b and u the running job of cell d ended CANCELLED by the CANCEL in cell c, which ended DONE, and the jobs
behind it started (R147). -/
structure State.JobCancelled (b u : State) (c : CellNo) (j : Job) (z : Port) (later : List Job) : Prop where
  cells : b.OnlyCells u (c :: j.cell :: startedCells z later)
  target : u.cellEnded j.cell 6 0 6 j.start b.tick
  done : u.cellEnded c 4 10 0 b.tick b.tick
  starts : ∀ x ∈ jobsStarting (decide (z.status.state = .linked)) later,
    (x.2 = none → u.cellRuns x.1.cell b.tick) ∧
      ∀ outcome, x.2 = some outcome → u.cellEnded x.1.cell 4 outcome 0 b.tick b.tick

end

section
variable {b u : State} {c : CellNo} {j : Job} {later : List Job} {z : Port} (hm : b.memOk)
  (away : c ∉ (j :: later).map Job.cell) (once : ((j :: later).map Job.cell).Nodup)
include hm away once

/-- The cells of a CANCEL of a running job. -/
theorem State.JobsBegun.cancelled (begun : (b.endCell j.cell .cancelled .none .byCancel j.start).JobsBegun u
    (jobsStarting (decide (z.status.state = .linked)) later)) :
    b.JobCancelled (u.endCell c .done .cancelDone .none b.tick) c j z later := by
  have first := State.OnlyCells.endCell hm j.cell .cancelled .none .byCancel j.start
  have cell := State.endCell_ended hm j.cell .cancelled .none .byCancel j.start
  have last := State.OnlyCells.endCell begun.cells.canonical c .done .cancelDone .none b.tick
  have lastCell := State.endCell_ended begun.cells.canonical c .done .cancelDone .none b.tick
  have tick : u.tick = b.tick := begun.cells.frame.tick.trans first.frame.tick
  rw [tick] at lastCell
  have apart : ∀ d ∈ (j :: later).map Job.cell, d ∉ [c] := fun d hd e => away (List.mem_singleton.mp e ▸ hd)
  have all := (first.trans begun.cells).trans last
  have order : ∀ x, x ∈ ([j.cell] ++ startedCells z later) ++ [c] ↔ x ∈ c :: j.cell :: startedCells z later := fun x => by
    simp only [List.mem_append, List.mem_cons, List.not_mem_nil, or_false]
    tauto
  refine ⟨⟨all.frame, all.canonical, fun a far => all.kept a fun x hx => far x ((order x).mp hx),
    fun x hx => all.custody x fun h => hx ((order x).mp h)⟩, ?_, lastCell, fun x hx => ?_⟩
  · have fresh : j.cell ∉ startedCells z later := fun hc => (List.nodup_cons.mp once).1 (startedCell_mem hc)
    exact last.ended (apart _ List.mem_cons_self) (begun.cells.ended fresh cell)
  · obtain ⟨runs, ended⟩ := begun.each x hx
    have far := apart x.1.cell (List.mem_cons_of_mem _ (List.mem_map_of_mem (jobsStarting_mem hx)))
    rw [first.frame.tick] at runs ended
    have ne : x.1.cell ≠ c := fun e => far (List.mem_singleton.mpr e)
    refine ⟨fun h => ?_, fun out h => last.ended far (ended out h)⟩
    refine State.cellRuns_of_same (runs h) (fun a ha => last.kept a fun y hy => ?_) (last.custody _ far)
    rw [List.mem_singleton.mp hy]
    exact not_inCellHead_of_ne ne ha

end

end Sys2Proof.Machine

namespace Sys2Proof.Machine

/-! ### JOB_DONE stays raised through the starts behind a job -/

/-- JOB_DONE (bit 0) is raised on the port. -/
def Port.doneShown (x : Port) : Prop := x.news ||| 1 = x.news

theorem Port.doneShown.raise {x : Port} (h : x.doneShown) : x.raise .jobDone = x := by
  have news : setBit x.news 0 = x.news := (setBit_zero _).trans h
  show ({ x with news := setBit x.news 0 } : Port) = x
  rw [news]

/-- Flags come on and stay (R163). -/
theorem Port.doneShown.more {x y : Port} (h : x.doneShown) (f : BitVec 8) (news : y.news = x.news ||| f) : y.doneShown := by
  unfold Port.doneShown at *
  rw [news, BitVec.or_assoc, BitVec.or_comm f, ← BitVec.or_assoc, h]

theorem Port.doneShown.same {x y : Port} (h : x.doneShown) (news : y.news = x.news) : y.doneShown := by
  unfold Port.doneShown at *
  rw [news, h]

theorem Port.jobEnded_doneShown (x : Port) : x.jobEnded.doneShown := by
  show x.news ||| 1 ||| 1 = x.news ||| 1
  rw [BitVec.or_assoc, BitVec.or_self]

theorem Port.sequenceStarted_news (x : Port) (ready byWatch : Bool) : (x.sequenceStarted ready byWatch).news = x.news := by
  unfold Port.sequenceStarted Port.attemptStarted
  dsimp only
  split_ifs <;> rfl

theorem Port.resumed_news (x : Port) (ready : Bool) : (x.resumed ready).news = x.news := by
  unfold Port.resumed
  split_ifs
  · rfl
  · exact x.sequenceStarted_news ready false
  · rfl

theorem Port.leavesAs.news {y z : Port} {w : Work} {ready : Bool} (h : y.leavesAs w ready z) (job : w ≠ .hold) :
    z.news = y.news := by
  obtain ⟨train, diagnose⟩ := h
  cases w with
  | train f => exact train f rfl ▸ rfl
  | diagnose r i => exact diagnose r i rfl ▸ y.resumed_news ready
  | hold => exact absurd rfl job

section
variable {x : Port} (h : x.doneShown)
include h

theorem Port.doneShown.unlinked (tick : Ticks) (why : DownReason) : (x.unlinked tick why).doneShown := by
  unfold Port.unlinked
  split_ifs
  · exact h.more 4 rfl
  · exact h

theorem Port.doneShown.heldDown (tick : Ticks) : (x.heldDown tick).doneShown :=
  (h.unlinked tick .hold).more 1 rfl

theorem Port.doneShown.trainStarted (c : CellNo) (f : Profile) (tick : Ticks) (ready : Bool) :
    (x.trainStarted c f tick ready).doneShown :=
  (h.unlinked tick .retrainRequested).same (Port.sequenceStarted_news _ ready false)

theorem Port.doneShown.diagnoseStarted (c : CellNo) (r : Recipe) (tag : Word) (tick : Ticks) :
    (x.diagnoseStarted c r tag tick).doneShown := by
  unfold Port.diagnoseStarted
  split_ifs
  · exact h.more 4 rfl
  · exact h.same rfl

end

theorem Port.doneShown.jobsStarted (tick : Ticks) (ready : Bool) :
    ∀ {later : List Job} {x : Port}, x.doneShown → (x.jobsStarted tick ready later).doneShown
  | [], _, h => h.same rfl
  | j :: later, x, h => by
    unfold Port.jobsStarted
    cases j.work with
    | train f => exact (h.trainStarted j.cell f tick ready).same rfl
    | diagnose r i =>
      dsimp only
      split_ifs
      · exact Port.doneShown.jobsStarted tick ready (h.more 1 rfl)
      · exact (h.diagnoseStarted j.cell r j.tag tick).same rfl
    | hold => exact Port.doneShown.jobsStarted tick ready (h.heldDown tick)

/-! ### A CANCEL of a running job (R147) -/

section
variable {o : Bool} {b t a : State} {p : PortNo} {y z : Port} {c : CellNo} {j : Job} {later : List Job}

theorem State.cancel_running (custody : t.custodyOf j.cell = .running) (at_ : t.listPortOf j.cell = some p)
    (jobs : (t.port p).jobs = j :: later) : t.cancel c j.cell =
      (((((((t.abortJob p j.work).cancelCell j.cell j.start).updPort p fun x =>
        { x with jobs := later, status := { x.status with running := none } }).cellNews (some p)).resumeAfter p
        j.work).startJobs p).endCancel c .cancelDone).cellNews (some p) := by
  rw [State.cancel, custody, at_]
  dsimp only
  rw [State.cancelRunning, jobs]

/-- The CANCEL of the running job of port p, behind the abort. -/
theorem Moves.cancelsRunning (h : Moves o b (t.abortPort p (some flagCancelled)) p y.stopActivity)
    (jobs : y.jobs = j :: later) (own : (b.port p).jobs = j :: later) (job : j.work ≠ .hold)
    (leaves : y.jobEnded.cutShort.leavesAs j.work (b.isReady (quadOf p)) z) (hm : b.memOk)
    (away : c ∉ (j :: later).map Job.cell) (once : ((j :: later).map Job.cell).Nodup) (may : b.mayStart p z later) :
    ∃ u, Moves true u ((((((((t.abortJob p j.work).cancelCell j.cell j.start).updPort p fun x =>
        { x with jobs := later, status := { x.status with running := none } }).cellNews (some p)).resumeAfter p
        j.work).startJobs p).endCancel c .cancelDone).cellNews (some p)) p
        (z.jobsStarted b.tick (b.isReady (quadOf p)) later) ∧ b.JobCancelled u c j z later := by
  obtain ⟨zJobs, idle⟩ := leaves.parts job rfl
  have waits : z.jobs = later := zJobs.trans (congrArg List.tail jobs)
  have shown : z.doneShown := y.jobEnded_doneShown.same (leaves.news job)
  have first := State.OnlyCells.endCell hm j.cell .cancelled .none .byCancel j.start
  have gone := h.cancelsHead jobs job leaves
  have opened := gone.opened (Port.samePage_of_cells_ne (by
    rw [first.frame.port, own, waits]
    exact fun e => absurd (congrArg List.length e) (by simp)))
  obtain ⟨u, moved, begun⟩ := opened.startsBehind waits idle first.canonical (List.nodup_cons.mp once).2
    (may.imp_right fun ⟨free, rest⟩ => ⟨(first.frame.engineOf p).trans free, rest⟩)
  have tick : u.tick = b.tick := begun.cells.frame.tick.trans first.frame.tick
  have ended := (moved.endCell c .done .cancelDone .none b.tick).raise .jobDone
  rw [first.frame.tick, first.frame.isReady, (shown.jobsStarted _ _).raise] at ended
  refine ⟨_, ?_, begun.cancelled hm away once⟩
  rw [State.endCancel, moved.tick, tick]
  exact ended

end

end Sys2Proof.Machine

namespace Sys2Proof.Machine

/-! ### What the host sees of it (O25) -/

theorem State.Enters.rest_same {s u : State} {rest : List CellNo} (enters : s.Enters u rest) :
    u.tick = s.tick ∧ (∀ q, u.isReady q = s.isReady q) ∧ (∀ p, u.port p = s.port p) := by
  obtain ⟨mem, custodies, engines, grants, claims, requests, rfl⟩ := enters
  exact ⟨rfl, fun _ => rfl, fun _ => rfl⟩

theorem State.applyGrantRule_engines (s : State) : s.applyGrantRule.engines = s.engines := by
  rw [s.applyGrantRule_frame]

/-- An engine released holds no port (R104). -/
theorem State.Released.free {s t u : State} {e : EngineNo} {m : Measurement} (r : s.Released t u e m) (ok : s.grantsOk)
    (meas : (s.engine e).meas = some m) : u.engineOf m.holder = none := by
  refine State.engineOf_eq_none_of fun f n hn held => ?_
  have engines : u.engines = (s.freed e m.holder).engines :=
    r.released.1.trans (State.applyGrantRule_engines _)
  have found : ((s.freed e m.holder).engine f).meas = some n := (congrArg (fun v => v[f].meas) engines).symm.trans hn
  rw [State.freed_engine] at found
  split_ifs at found with same
  have owner := ok.engineOf found
  rw [held, ok.engineOf meas] at owner
  exact same (Option.some.inj owner)

theorem State.Released.isReady {s t u : State} {e : EngineNo} {m : Measurement} (r : s.Released t u e m) (q : QuadNo) :
    u.isReady q = t.isReady q := by
  rw [r.frame]
  rfl

section
variable {s b u t : State} {rest : List CellNo} {c : CellNo} {j : Job} {later : List Job} {p : PortNo} {z : Port}
  {slab : Option SlabNo}

/-- What the host sees of a CANCEL of a running job: b is the state behind what the abort made of the engines and of
the slabs. -/
theorem State.JobCancelled.seen (h : b.JobCancelled u c j z later) (enters : s.Enters b rest)
    (custody : ∀ d, b.custodyOf d = s.custodyOf d) (closed : s.editsClosed)
    (kept : ∀ a, (∀ k, slab = some k → a ≠ ownerAddr k) → b.readMem a = s.readMem a)
    (freed : ∀ k, slab = some k → b.readMem (ownerAddr k) = 0)
    (moved : Moves true u t p (z.jobsStarted b.tick (b.isReady (quadOf p)) later))
    (taken : exec .tick s = .next t.closeEdits) :
    ∃ w, exec .tick s = .next (u.setPort p w) ∧
      ((u.setPort p w).cellEnded j.cell 6 0 6 j.start s.tick ∧ (u.setPort p w).cellEnded c 4 10 0 s.tick s.tick) ∧
      s.runsOn (u.setPort p w) p later z ∧
      s.memKeptFreeing (u.setPort p w) (c :: j.cell :: startedCells z later) slab ∧
      s.tookEntry (u.setPort p w) rest (c :: j.cell :: startedCells z later) ∧
      (u.setPort p w).globalNews = s.globalNews ∧ ∀ q, q ≠ p → (u.setPort p w).port q = s.port q := by
  obtain ⟨tick, ready, port⟩ := enters.rest_same
  obtain ⟨cells, target, done, starts⟩ := h
  have bClosed : b.editsClosed := fun q => (congrArg (fun x => x.editCount.getLsbD 0) (port q)).trans (closed q)
  rw [moved.close_jobEnds cells.frame bClosed, port, tick, ready] at taken
  rw [tick] at target done starts
  obtain ⟨took, news, others, own⟩ := (enters.cells cells.frame).seen (p := p)
    (z := { z.jobsStarted s.tick (s.isReady (quadOf p)) later with editCount := (s.port p).editCount + 2 })
    fun d hd => (cells.custody d hd).trans (custody d)
  refine ⟨_, taken, ⟨target, done⟩, ⟨starts, own⟩, ⟨fun a far free => ?_, fun k hk => ?_⟩, took, news, others⟩
  · exact (cells.kept a far).trans (kept a free)
  · exact (cells.kept _ fun d _ => ownerAddr_not_inCellHead k d).trans (freed k hk)

end

/-- The order in which a cancelled, measuring job raises REPORT_NEW and JOB_DONE does not show. -/
theorem Port.reported_jobEnded (x : Port) (r : Report) :
    (x.reported r).jobEnded.cutShort = x.jobEnded.cutShort.reported r := by
  have order : x.news ||| 0x20 ||| 1 = x.news ||| 1 ||| 0x20 := by
    rw [BitVec.or_assoc, BitVec.or_comm 0x20, ← BitVec.or_assoc]
  exact congrArg (fun n => { (x.reported r).jobEnded.cutShort with news := n }) order

/-- Settles O25: the target waits in the queue or in a list, or runs. -/
theorem cancelOfHeldCell : Obligations.CancelOfHeldCell := by
  unfold Obligations.CancelOfHeldCell
  intro s c d rest due hm ok ready kind target ne bothEnd
  refine ⟨fun custody => exec_tick_cancelsQueued due hm ready kind target ne custody,
    fun p custody listed => exec_tick_cancelsListed due hm ready kind target ne ok custody listed,
    fun p j later jobs cell job => ?_⟩
  intro x leaves ends z can
  subst cell
  have queued : c ∈ s.intakeQueue := due.2.2.2 ▸ List.mem_cons_self
  have listed : s.inList p j.cell := List.mem_map.mpr ⟨j, jobs ▸ List.mem_cons_self, rfl⟩
  have head : s.isHead p j.cell := by
    unfold State.isHead
    rw [jobs]
    rfl
  have custody : s.custodyOf j.cell = .running := by
    rcases ok.listCustody p j.cell listed with ⟨runs, -⟩ | ⟨-, waits⟩
    · exact runs
    · exact absurd head waits
  have away : c ∉ (j :: later).map Job.cell := fun hc => ok.queued_not_listed (p := p) queued (by
    unfold State.inList
    rw [jobs]
    exact hc)
  have once : ((j :: later).map Job.cell).Nodup := jobs ▸ ok.listOnce p
  have taken := exec_tick_cancels due ready kind target ne
  rw [State.cancel_running (t := s.judging rest) custody (ok.listPortOf listed) jobs] at taken
  have start := Moves.start (s.judging rest) p
  refine ⟨fun free leave => ?_, fun e m measures leave => ?_⟩
  · have aborted := (start.abortPort_free free (some flagCancelled)).as
      (y' := (s.port p).withdrawn.stopActivity) rfl
    obtain ⟨u, moved, cancelled⟩ := aborted.cancelsRunning (c := c) (z := z) jobs jobs job leave hm away once
      (can.imp_right fun ⟨_, _, short, allowed⟩ => ⟨free, short, allowed⟩)
    obtain ⟨w, seen⟩ := cancelled.seen (slab := none) (s.judging_enters rest) (fun _ => rfl) due.2.1 (fun _ _ => rfl)
      nofun moved taken
    exact ⟨_, seen, (((s.judging_arbiter rest).cells cancelled.cells.frame).setPort p w).kept⟩
  · obtain ⟨grants, meas, holder, -⟩ := measures
    subst holder
    have r := (s.judging_arbiter rest).released grants hm meas
    have enters := (s.judging_enters rest).released r
    have aborted := (start.abortPort_reported (grants.engineOf meas) meas rfl flagCancelled).as
      (y' := ((s.port m.holder).reported (m.reportWith (m.flags ||| 4) s.tick)).stopActivity) rfl
    have free := r.free grants meas
    have ready' := r.isReady (quadOf m.holder)
    have port := r.port m.holder
    generalize ((s.judging rest).freeSlab m.filling).release e = b at *
    obtain ⟨u, moved, cancelled⟩ := aborted.cancelsRunning (c := c) (z := z) jobs (port ▸ jobs) job
      (by rw [Port.reported_jobEnded, ready']; exact leave) r.canonical away once
      (can.imp_right fun ⟨_, _, short, allowed⟩ => ⟨free, short, allowed⟩)
    obtain ⟨w, seen⟩ := cancelled.seen (slab := m.filling) enters r.custodyOf due.2.1 r.kept r.freed moved taken
    have released : s.releasedIn (u.setPort m.holder w) e m.holder := by
      obtain ⟨mem, custodies, frame⟩ := cancelled.cells.frame
      rw [frame]
      exact r.released
    exact ⟨_, seen, released⟩

end Sys2Proof.Machine

namespace Sys2Proof.Machine

/-! ### The end of a measurement (R102 to R104, R115)

State b is the state in which engine e is released: of the arbiter's part it differs from s in the engine and in its
grant alone. -/

theorem State.applyGrantRule_own (a : State) : a.applyGrantRule = a.applyGrantRule.takesFrom a := by
  have frame := a.applyGrantRule_frame
  have engines := a.applyGrantRule_engines
  rw [State.takesFrom, engines]
  exact frame

/-- Engine e has port p in state b, and frees there what it frees in s. -/
structure State.Frees (s b : State) (e : EngineNo) (p : PortNo) : Prop where
  grant : ∃ g, b.grant e = some g ∧ g.request.port = p
  freed : b.freed e p = (s.freed e p).takesFrom b
  ready : b.ready = s.ready

section
variable {s b : State} {e : EngineNo} {p : PortNo} (h : s.Frees b e p)
include h

theorem State.Frees.release_eq : b.release e = (s.freed e p).applyGrantRule.takesFrom b := by
  obtain ⟨g, hg, port⟩ := h.grant
  rw [State.release_eq hg, port, h.freed, State.applyGrantRule_takesFrom (a := s.freed e p) h.ready]

theorem State.Frees.releasedIn : s.releasedIn (b.release e) e p := by
  rw [h.release_eq]
  exact ⟨rfl, rfl, rfl, rfl⟩

/-- What a release leaves as it is. -/
theorem State.Frees.release_frame : b.release e = { b with
    engines := (b.release e).engines, grants := (b.release e).grants, claims := (b.release e).claims
    requests := (b.release e).requests } := by
  rw [h.release_eq]
  rfl

theorem State.Frees.rest : (b.release e).tick = b.tick ∧ (∀ q, (b.release e).isReady q = b.isReady q) ∧
    (∀ q, (b.release e).port q = b.port q) ∧ (∀ a, (b.release e).readMem a = b.readMem a) ∧
    (∀ d, (b.release e).custodyOf d = b.custodyOf d) ∧ ((b.release e).memOk ↔ b.memOk) := by
  rw [h.release_eq]
  exact ⟨rfl, fun _ => rfl, fun _ => rfl, fun _ => rfl, fun _ => rfl, .rfl⟩

/-- Port p is held by no engine after the release, where no other engine held it. -/
theorem State.Frees.engineOf (ok : s.grantsOk) {m : Measurement} (meas : (s.engine e).meas = some m) (holder : m.holder = p) :
    (b.release e).engineOf p = none := by
  refine State.engineOf_eq_none_of fun f n hn held => ?_
  have engines : (b.release e).engines = (s.freed e p).engines := h.releasedIn.1.trans (State.applyGrantRule_engines _)
  have found : ((s.freed e p).engine f).meas = some n := (congrArg (fun v => v[f].meas) engines).symm.trans hn
  rw [State.freed_meas] at found
  split_ifs at found with same
  exact same (ok.holder_unique meas found (holder.trans held.symm))

/-- An end of a cell beside a release. -/
theorem State.Frees.release_endCell (c : CellNo) (st : CellState) (out : JobOutcome) (why : Reason) (start : Ticks) :
    (b.endCell c st out why start).release e = (b.release e).endCell c st out why start := by
  have same : s.Frees (b.endCell c st out why start) e p := by
    obtain ⟨mem, custody, frame⟩ := b.endCell_frame c st out why start
    rw [frame]
    obtain ⟨grant, freed, ready⟩ := h
    refine ⟨grant, ?_, ready⟩
    calc _ = ({ b.freed e p with mem := mem, custody := custody } : State) := rfl
      _ = _ := by
        rw [freed]
        rfl
  rw [same.release_eq, h.release_eq]
  rfl

end

theorem State.Frees.of_held {s : State} (ok : s.grantsOk) {e : EngineNo} {m : Measurement}
    (meas : (s.engine e).meas = some m) : s.Frees s e m.holder where
  grant := by
    obtain ⟨g, hg, -, port⟩ := ok.measuring e m meas
    exact ⟨g, hg, port⟩
  freed := rfl
  ready := rfl

section
variable {o : Bool} {b t : State} {p : PortNo} {y : Port} {j : Job} {later : List Job}

/-- Behind the end of its DIAGNOSE the port resumes, and the jobs behind it start (R17, R144). -/
theorem Moves.resumesBehind (h : Moves o (b.endCell j.cell .done .reported .none j.start) t p y.jobEnded)
    (hj : y.jobs = j :: later) (hm : b.memOk) (once : ((j :: later).map Job.cell).Nodup)
    (may : b.mayStart p (y.jobEnded.resumed (b.isReady (quadOf p))) later) :
    ∃ u, Moves o u ((t.resume p).startJobs p) p
        ((y.jobEnded.resumed (b.isReady (quadOf p))).jobsStarted b.tick (b.isReady (quadOf p)) later) ∧
      b.JobEnds u j 7 (y.jobEnded.resumed (b.isReady (quadOf p))) later := by
  have only := State.OnlyCells.endCell hm j.cell .done .reported .none j.start
  have cell := State.endCell_ended hm j.cell .done .reported .none j.start
  have once := List.nodup_cons.mp once
  have resumed := h.resume rfl
  rw [only.frame.isReady] at resumed
  obtain ⟨jobs, idle⟩ := y.jobEnded.resumed_parts (b.isReady (quadOf p))
  obtain ⟨u, reached, starts⟩ := resumed.startsBehind (jobs.trans (congrArg List.tail hj)) (idle rfl) only.canonical once.2
    (may.imp_right fun ⟨free, rest⟩ => ⟨(only.frame.engineOf p).trans free, rest⟩)
  rw [only.frame.tick, only.frame.isReady] at reached
  refine ⟨u, reached, only.trans starts.cells, starts.cells.ended (fun hc => once.1 (startedCell_mem hc)) cell, ?_⟩
  rw [← only.frame.tick]
  exact starts.each

end

end Sys2Proof.Machine

namespace Sys2Proof.Machine

/-! ### What a finished measurement does at its port (R102, R122, R130, R131) -/

theorem Pairs.exists_iff {α : Type} (x : Pairs α) (P : α → Prop) :
    (∃ q, P (x.get q)) ↔ P x.a ∨ P x.b ∨ P x.c ∨ P x.d := by
  constructor
  · rintro ⟨q, h⟩
    cases q with
    | a => exact .inl h
    | b => exact .inr (.inl h)
    | c => exact .inr (.inr (.inl h))
    | d => exact .inr (.inr (.inr h))
  · rintro (h | h | h | h)
    exacts [⟨.a, h⟩, ⟨.b, h⟩, ⟨.c, h⟩, ⟨.d, h⟩]

theorem anyNoisy_iff (x : Pairs PairResult) : anyNoisy x = true ↔ ∃ q, (x.get q).status = .noisy := by
  rw [Pairs.exists_iff x fun r => r.status = .noisy]
  simp only [anyNoisy, Bool.or_eq_true, decide_eq_true_eq, or_assoc]

theorem statusesDiffer_iff (x y : Pairs PairResult) :
    statusesDiffer x y = true ↔ ∃ q, (x.get q).status ≠ (y.get q).status := by
  unfold statusesDiffer
  simp only [Bool.or_eq_true, decide_eq_true_eq, or_assoc]
  constructor
  · rintro (h | h | h | h)
    exacts [⟨.a, h⟩, ⟨.b, h⟩, ⟨.c, h⟩, ⟨.d, h⟩]
  · rintro ⟨q, h⟩
    cases q with
    | a => exact .inl h
    | b => exact .inr (.inl h)
    | c => exact .inr (.inr (.inl h))
    | d => exact .inr (.inr (.inr h))

/-- The watch's comparison finds something to write (R130). -/
def Report.differsFrom (r latest : Report) : Prop :=
  latest.sequence = 0 ∨ ∃ q, (r.pairs.get q).status ≠ (latest.pairs.get q).status

theorem Report.differsFrom_iff (r latest : Report) :
    (decide (latest.sequence = 0) || statusesDiffer r.pairs latest.pairs) = true ↔ r.differsFrom latest := by
  rw [Bool.or_eq_true, decide_eq_true_eq, statusesDiffer_iff]
  rfl

/-- The port with another qualified set (R119). -/
def Port.qualified (x : Port) (qual : RateSet) : Port := { x with status := { x.status with qualSet := qual } }

/-- The port after a watch's comparison (R130). -/
def Port.compared (x : Port) (r : Report) : Port :=
  if decide (x.report.sequence = 0) || statusesDiffer r.pairs x.report.pairs then
    ((x.reported r).qualified (qualifiedFrom r.pairs)).raise .watchChange
  else (x.qualified (qualifiedFrom r.pairs)).counted 11

/-- The watch begins a sequence (R131). -/
def Port.triggers (x : Port) (pairs : Pairs PairResult) : Prop :=
  x.prof.autoRetrain = true ∧ (x.status.state = .idle ∧ (∃ q, (pairs.get q).status = .noisy) ∨
    x.status.state = .cableHold ∧ x.status.offerSet &&& x.status.qualSet ≠ 0)

section
variable {o : Bool} {s b t : State} {e : EngineNo} {p : PortNo} {y : Port} {m : Measurement}

theorem Moves.finishJob (h : Moves o b t p y) (frees : s.Frees b e p) (holder : m.holder = p)
    (probe : y.status.state = .probe) {j : Job} {later : List Job} (hj : y.jobs = j :: later) (hm : b.memOk)
    (once : ((j :: later).map Job.cell).Nodup) {v : Port}
    (hv : v = (y.reported (m.reportAt b.tick)).jobEnded.resumed (b.isReady (quadOf p)))
    (may : (b.release e).mayStart p v later) :
    ∃ u, Moves true u (t.finishJob e m) p (v.jobsStarted b.tick (b.isReady (quadOf p)) later) ∧
      (b.release e).JobEnds u j 7 v later := by
  subst holder
  obtain ⟨tick, ready, -, -, -, memOk⟩ := frees.rest
  have reported := h.writeReport (m.reportAt t.tick)
  rw [h.tick] at reported
  have ended := (reported.endJob (j := j) hj .reported).release e
  rw [frees.release_endCell] at ended
  rw [← ready] at hv
  obtain ⟨u, moved, ends⟩ := ended.resumesBehind hj (memOk.mpr hm) once (hv ▸ may)
  rw [← hv, tick, ready] at moved
  rw [← hv] at ends
  refine ⟨u, ?_, ends⟩
  have state : ((t.writeReport m.holder (m.reportAt b.tick)).port m.holder).status.state = .probe :=
    (congrArg Status.state reported.status).trans probe
  rw [State.finishJob, h.tick, if_pos state]
  exact moved

theorem Moves.finishPrecheck (h : Moves o b t p y) (holder : m.holder = p) (check : y.status.state = .check)
    (qual : RateSet) : ∃ w, t.finishPrecheck e m qual = (w.startAttempt p).startJobs p ∧
      Moves true (b.release e) w p ((y.reported (m.reportAt b.tick)).qualified qual) := by
  subst holder
  have reported := h.writeReport (m.reportAt t.tick)
  have state : ((t.writeReport m.holder (m.reportAt t.tick)).port m.holder).status.state = .check :=
    (congrArg Status.state reported.status).trans check
  have qualified := (reported.upd (f := fun x => x.qualified qual) fun _ _ => rfl).release e
  rw [h.tick] at reported state qualified
  refine ⟨_, ?_, qualified⟩
  rw [State.finishPrecheck, h.tick]
  dsimp only
  rw [if_pos state]
  rfl

theorem Moves.compareWatch (h : Moves o b t p y) (r : Report) : Moves true b (t.compareWatch p r) p (y.compared r) := by
  have report : (t.port p).report = y.report := by rw [h.port.eq]
  unfold State.compareWatch Port.compared
  dsimp only
  rw [report]
  split_ifs
  · exact ((h.writeReport r).upd (f := fun x => x.qualified (qualifiedFrom r.pairs)) fun _ _ => rfl).raise .watchChange
  · refine (h.updOpen (f := fun x => (x.qualified (qualifiedFrom r.pairs)).bump .watchPasses) fun _ _ => rfl).as ?_
    exact Port.bump_eq_counted _ .watchPasses

theorem Moves.watchTriggers (h : Moves o b t p y) (pairs : Pairs PairResult) (other : y.runsTrain = false) :
    (y.triggers pairs → Moves o b (t.watchTriggers p pairs) p (y.sequenceStarted (b.isReady (quadOf p)) true)) ∧
      (¬ y.triggers pairs → t.watchTriggers p pairs = t) := by
  have iff : ((t.port p).prof.autoRetrain && (decide ((t.port p).status.state = .idle) && anyNoisy pairs ||
      decide ((t.port p).status.state = .cableHold) &&
        decide ((t.port p).status.qualSet &&& (t.port p).status.offerSet ≠ 0))) = true ↔ y.triggers pairs := by
    rw [h.prof, h.status, BitVec.and_comm]
    simp only [Bool.and_eq_true, Bool.or_eq_true, decide_eq_true_eq, anyNoisy_iff]
    rfl
  refine ⟨fun triggers => ?_, fun stays => if_neg (mt iff.mp stays)⟩
  rw [State.watchTriggers, if_pos (iff.mpr triggers)]
  exact h.beginSequence true (.inr (.inl other))

theorem Moves.finishWatch (h : Moves o b t p y) (holder : m.holder = p) : ∃ w,
    t.finishWatch e m = (w.watchTriggers p (m.reportAt b.tick).pairs).startJobs p ∧
      Moves true (b.release e) w p (y.compared (m.reportAt b.tick)) := by
  subst holder
  have compared := (h.compareWatch (m.reportAt t.tick)).release e
  rw [h.tick] at compared
  refine ⟨_, ?_, compared⟩
  rw [State.finishWatch, h.tick]

end

end Sys2Proof.Machine

namespace Sys2Proof.Machine

/-! ### The ends of measurements, as the statements say them -/

/-- State v is s with the measurement of engine e done: these results and flags, and what its slab has come to. -/
structure State.Completes (s v : State) (e : EngineNo) (m : Measurement) (results : Pairs (Option PairResult))
    (flags : BitVec 5) : Prop where
  frame : v = { s with mem := v.mem, engines := v.engines, freeCount := v.freeCount }
  frees : s.Frees v e m.holder
  done : ∃ n, (v.engine e).meas = some n ∧ n.holder = m.holder ∧ n.source = m.source ∧
    ∀ tick, n.reportAt tick = ({ m with results := results } : Measurement).reportWith flags tick
  memOk : v.memOk

section
variable {s v u t : State} {e : EngineNo} {m : Measurement} {results : Pairs (Option PairResult)} {flags : BitVec 5}
  {p : PortNo} {c : Instr} {memory : State → List CellNo → Prop}

theorem State.Completes.parts (h : s.Completes v e m results flags) :
    v.tick = s.tick ∧ (∀ q, v.isReady q = s.isReady q) ∧ (∀ q, v.port q = s.port q) ∧
      (∀ d, v.custodyOf d = s.custodyOf d) := by
  rw [h.frame]
  exact ⟨rfl, fun _ => rfl, fun _ => rfl, fun _ => rfl⟩

/-- What the host sees where cells beside a release end and begin. -/
theorem State.Completes.seen (h : s.Completes v e m results flags) {cells : List CellNo}
    (only : (v.release e).OnlyCells u cells) (z : Port) (mem : ∀ t cells,
      (∀ a, (∀ d ∈ cells, ¬ inCellHead d a) → t.readMem a = v.readMem a) → memory t cells) :
    u.setPort p z = { s with
      mem := (u.setPort p z).mem, custody := (u.setPort p z).custody, engines := (u.setPort p z).engines
      grants := (u.setPort p z).grants, claims := (u.setPort p z).claims, requests := (u.setPort p z).requests
      freeCount := (u.setPort p z).freeCount, ports := s.ports.set p ((u.setPort p z).port p) } ∧
    s.releasedIn (u.setPort p z) e m.holder ∧ memory (u.setPort p z) cells ∧
    ∀ d, d ∉ cells → (u.setPort p z).custodyOf d = s.custodyOf d := by
  obtain ⟨-, -, -, reads, custody, -⟩ := h.frees.rest
  refine ⟨?_, ?_, mem _ _ fun a far => (only.kept a far).trans (reads a),
    fun d hd => (only.custody d hd).trans ((custody d).trans (h.parts.2.2.2 d))⟩
  · obtain ⟨mem, custodies, frame⟩ := only.frame
    have released := h.frees.release_frame
    have frameV := h.frame
    rw [State.port_setPort_self]
    generalize v.release e = b at *
    subst frame
    rw [released, frameV]
    rfl
  · obtain ⟨mem, custodies, frame⟩ := only.frame
    rw [frame]
    exact h.frees.releasedIn

theorem State.Completes.closed (h : s.Completes v e m results flags) (closed : s.editsClosed) :
    (v.release e).editsClosed := fun q => by
  rw [h.frees.rest.2.2.1, h.parts.2.2.1]
  exact closed q

/-- The measurement ends and no job with it. -/
theorem State.Completes.goes (h : s.Completes v e m results flags) (closed : s.editsClosed) {z z' : Port}
    (moved : Moves true (v.release e) t m.holder z) (alike : z.Alike z')
    (count : z'.editCount = (s.port m.holder).editCount + 2) (taken : exec c s = .next t.closeEdits)
    (hm : v.memOk) (mem : ∀ t cells, (∀ a, (∀ d ∈ cells, ¬ inCellHead d a) → t.readMem a = v.readMem a) → memory t cells) :
    ∃ t, exec c s = .next t ∧ (t = { s with
      mem := t.mem, custody := t.custody, engines := t.engines, grants := t.grants, claims := t.claims
      requests := t.requests, freeCount := t.freeCount, ports := s.ports.set m.holder (t.port m.holder) } ∧
      s.releasedIn t e m.holder ∧ memory t [] ∧ ∀ d, d ∉ ([] : List CellNo) → t.custodyOf d = s.custodyOf d) ∧
      t.port m.holder = z' := by
  have port := (h.frees.rest.2.2.1 m.holder).trans (h.parts.2.2.1 m.holder)
  rw [moved.close_counted (h.closed closed) alike (count.trans (by rw [port]))] at taken
  have start : (v.release e).OnlyCells (v.release e) [] := .start (h.frees.rest.2.2.2.2.2.mpr hm)
  exact ⟨_, taken, h.seen start z' mem, State.port_setPort_self ..⟩

/-- The measurement ends with a job, and the jobs behind it start. -/
theorem State.Completes.runs (h : s.Completes v e m results flags) (closed : s.editsClosed) {z : Port} {j : Job}
    {later : List Job} {out : Nat}
    (moved : Moves true u t m.holder (z.jobsStarted s.tick (s.isReady (quadOf m.holder)) later))
    (ends : (v.release e).JobEnds u j out z later) (taken : exec c s = .next t.closeEdits)
    (mem : ∀ t cells, (∀ a, (∀ d ∈ cells, ¬ inCellHead d a) → t.readMem a = v.readMem a) → memory t cells) :
    ∃ t, exec c s = .next t ∧ (t = { s with
      mem := t.mem, custody := t.custody, engines := t.engines, grants := t.grants, claims := t.claims
      requests := t.requests, freeCount := t.freeCount, ports := s.ports.set m.holder (t.port m.holder) } ∧
      s.releasedIn t e m.holder ∧ memory t (j.cell :: startedCells z later) ∧
      ∀ d, d ∉ j.cell :: startedCells z later → t.custodyOf d = s.custodyOf d) ∧
      t.cellEnded j.cell 4 out 0 j.start s.tick ∧ s.runsOn t m.holder later z := by
  obtain ⟨cells, ended, starts⟩ := ends
  have port := (h.frees.rest.2.2.1 m.holder).trans (h.parts.2.2.1 m.holder)
  rw [h.frees.rest.1, h.parts.1] at ended starts
  rw [moved.close_jobEnds cells.frame (h.closed closed), port] at taken
  exact ⟨_, taken, h.seen cells _ mem, ended, starts, State.port_setPort_self ..⟩

theorem State.canRunOn.once {s : State} {z : Port} {j : Job} {later : List Job} (can : s.canRunOn z later)
    {p : PortNo} (jobs : (s.port p).jobs = j :: later) : ((j :: later).map Job.cell).Nodup := by
  rcases can with rfl | ⟨ok, -⟩
  · exact List.nodup_singleton _
  · exact jobs ▸ ok.listOnce p

theorem State.Completes.mayStart (h : s.Completes v e m results flags) (meas : (s.engine e).meas = some m) {z y : Port}
    {later : List Job} (can : s.canRunOn z later) (history : y.history = z.history) :
    (v.release e).mayStart m.holder y later :=
  can.imp_right fun ⟨_, ok, short, allowed⟩ => ⟨h.frees.engineOf ok meas rfl, history ▸ short, allowed⟩

theorem State.finishMeasurement_eq {n : Measurement} (hn : (v.engine e).meas = some n) :
    (n.source = .job → v.finishMeasurement e = v.finishJob e n) ∧
      (n.source = .precheck → v.finishMeasurement e =
        v.finishPrecheck e n (qualifiedFrom (n.reportAt v.tick).pairs)) ∧
      (n.source = .watch → v.finishMeasurement e = v.finishWatch e n) := by
  unfold State.finishMeasurement
  rw [hn]
  refine ⟨fun h => ?_, fun h => ?_, fun h => ?_⟩ <;> simp only [h]

end
end Sys2Proof.Machine

namespace Sys2Proof.Machine

theorem Port.compared_parts (x : Port) (r : Report) : (x.compared r).prof = x.prof ∧
    (x.compared r).status.state = x.status.state ∧ (x.compared r).status.offerSet = x.status.offerSet ∧
      (x.compared r).status.qualSet = qualifiedFrom r.pairs ∧ (x.compared r).jobs = x.jobs ∧
      (x.compared r).status.running = x.status.running ∧ (x.compared r).editCount = x.editCount := by
  unfold Port.compared
  split_ifs
  · exact ⟨rfl, rfl, rfl, rfl, rfl, rfl, rfl⟩
  · exact ⟨rfl, rfl, rfl, rfl, rfl, rfl, rfl⟩

/-- A result that differs raises REPORT_NEW and WATCH_CHANGE (R130). -/
theorem Port.compared_differs {x : Port} {r : Report} (differs : r.differsFrom x.report) :
    x.compared r = { x.reported r with
      news := x.news ||| 0x60, status := { x.status with qualSet := qualifiedFrom r.pairs } } := by
  have news : setBit (x.news ||| 0x20) 6 = x.news ||| 0x60 := by
    rw [setBit, BitVec.or_assoc]
    rfl
  rw [Port.compared, if_pos ((Report.differsFrom_iff _ _).mpr differs), ← news]
  rfl

theorem Port.compared_same {x : Port} {r : Report} (same : ¬ r.differsFrom x.report) :
    x.compared r =
      { x.counted 11 with status := { (x.counted 11).status with qualSet := qualifiedFrom r.pairs } } := by
  rw [Port.compared, if_neg (mt (Report.differsFrom_iff _ _).mp same)]
  rfl

section
variable {s v : State} {e : EngineNo} {m : Measurement} {results : Pairs (Option PairResult)} {flags : BitVec 5}
  {c : Instr} {memory : State → List CellNo → Prop}

/-- After the last pair a measurement ends as its source says (R102, R122, R130). -/
theorem State.Completes.ends (h : s.Completes v e m results flags) (closed : s.editsClosed)
    (meas : (s.engine e).meas = some m) (taken : exec c s = .next (v.finishMeasurement e).closeEdits)
    (mem : ∀ t cells, (∀ a, (∀ d ∈ cells, ¬ inCellHead d a) → t.readMem a = v.readMem a) → memory t cells) :
    s.measurementEnds c e m results flags memory := by
  unfold State.measurementEnds
  intro p x ready report qual released goes ends
  obtain ⟨n, hn, holder, source, reportAt⟩ := h.done
  obtain ⟨job, precheck, watch⟩ := State.finishMeasurement_eq hn
  obtain ⟨tick, isReady, port, -⟩ := h.parts
  obtain ⟨-, releasedReady, -, -, -, -⟩ := h.frees.rest
  have start := (Moves.start v p).as (port p)
  have written : n.reportAt v.tick = report := by rw [tick, reportAt]
  refine ⟨fun j later isJob probe jobs can => ?_, fun isPrecheck check => ?_, fun isWatch jobless => ?_⟩
  · rw [job (source.trans isJob)] at taken
    obtain ⟨u, moved, ended⟩ := start.finishJob h.frees holder probe jobs h.memOk (can.once jobs)
      (v := (x.reported report).jobEnded.resumed ready) (by rw [written, isReady]) (h.mayStart meas can rfl)
    rw [tick, isReady] at moved
    exact h.runs closed moved ended taken mem
  · rw [precheck (source.trans isPrecheck), written] at taken
    obtain ⟨w, finish, moved⟩ := start.finishPrecheck (e := e) holder check qual
    rw [finish] at taken
    rw [written] at moved
    intro y
    refine ⟨fun stays => ?_, fun j f later jobs running train apart can => ?_⟩
    · have settled : y.settled := stays.elim (fun jobless => .inl jobless.1) fun ⟨settled, _⟩ => settled
      have attempt := (moved.startAttempt (stays.imp (Port.runsTrain_jobless (x := y)) fun ⟨_, meet⟩ => meet)).startJobs_settled
        (Port.settled_attemptStarted settled _)
      rw [releasedReady, isReady] at attempt
      exact h.goes closed attempt (.refl _) (y.attemptStarted_parts ready).1 taken h.memOk mem
    · obtain ⟨u, failed, left⟩ := moved.startAttempt_apart (y := y) fun meet => meet apart
      have trains : (u.port p).runsTrain = true := left.runsTrain.trans (Port.runsTrain_running (x := x) jobs running train)
      rw [failed, State.endTrain, if_pos trains] at taken
      obtain ⟨w', moved', ended⟩ := left.jobEnds (j := j) jobs (h.frees.rest.2.2.2.2.2.mpr h.memOk) (can.once jobs)
        (h.mayStart meas can rfl) .cableFault
      rw [h.frees.rest.1, tick, releasedReady, isReady] at moved'
      exact h.runs closed moved' ended taken mem
  · rw [watch (source.trans isWatch)] at taken
    obtain ⟨w, finish, moved⟩ := start.finishWatch (e := e) holder
    rw [finish, written] at taken
    rw [written] at moved
    intro differs triggered y whenDiffers whenSame
    have compared : y = x.compared report := by
      by_cases found : report.differsFrom x.report
      · exact (whenDiffers found).trans (Port.compared_differs found).symm
      · exact (whenSame found).trans (Port.compared_same found).symm
    obtain ⟨prof, state, offer, qualSet, jobs, running, count⟩ := x.compared_parts report
    rw [← compared] at moved prof state offer qualSet jobs running count
    have triggers : triggered ↔ y.triggers report.pairs := by
      unfold Port.triggers
      rw [prof, state, offer, qualSet]
    have jobless' : y.jobless := ⟨jobs.trans jobless.1, running.trans jobless.2⟩
    obtain ⟨begins, stands⟩ := moved.watchTriggers report.pairs (Port.runsTrain_jobless jobless')
    refine ⟨fun fires => ?_, fun quiet => ?_⟩
    · have begun := (begins (triggers.mp fires)).startJobs_settled (Port.settled_sequenceStarted (.inl jobless'.1) _ _)
      rw [releasedReady, isReady] at begun
      exact h.goes closed begun (.refl _) ((y.sequenceStarted_parts ready true).1.trans (congrArg (· + 2) count)) taken
        h.memOk mem
    · rw [stands (mt triggers.mpr quiet)] at taken
      exact h.goes closed (moved.startJobs_settled (.inl jobless'.1)) (Port.alike_edited y).symm
        (congrArg (· + 2) count) taken h.memOk mem

end

end Sys2Proof.Machine

namespace Sys2Proof.Machine

/-! ### A pair's completion (R95, R99, R100) -/

theorem State.setEngine_setEngine (s : State) (e : EngineNo) (x y : Engine) :
    (s.setEngine e x).setEngine e y = s.setEngine e y := by
  unfold State.setEngine
  rw [Vector.set_set]

/-- What an engine measures does not matter to its release. -/
theorem State.Frees.remeasured {s w : State} {e : EngineNo} {p : PortNo} {g : Grant} (grant : s.grant e = some g)
    (port : g.request.port = p)
    (frame : ∃ mem news count, w = { s with mem := mem, globalNews := news, freeCount := count })
    (x : Option Measurement) : s.Frees (w.setEngine e { s.engine e with meas := x }) e p := by
  obtain ⟨mem, news, count, rfl⟩ := frame
  refine ⟨⟨g, grant, port⟩, ?_, rfl⟩
  rw [State.freed, State.engine_setEngine_self, State.setEngine_setEngine]
  rfl

theorem shifted_eq (r : Recipe) (a : BitVec 32) : shifted r a = a.toInt / 2 ^ r.shift := by
  rw [shifted, Int.shiftRight_eq_div_pow]
  norm_cast

/-- R95 in the words of the statements. -/
theorem scaled_eq (r : Recipe) :
    scaled r = fun l => l.map fun v => max (-32768) (min (v.toInt / 2 ^ r.shift) 32767) := by
  funext l
  exact List.map_congr_left fun a _ => by rw [saturate, shifted_eq]

theorem anySaturated_iff (r : Recipe) (l : Accumulators) : anySaturated r l = true ↔
    ∃ v ∈ l, v.toInt / 2 ^ r.shift < -32768 ∨ 32767 < v.toInt / 2 ^ r.shift := by
  simp only [anySaturated, List.any_eq_true, Bool.not_eq_true', fitsWord, shifted_eq, Bool.and_eq_false_iff,
    decide_eq_false_iff_not, not_le]

/-- The trace of a pair written, where a slab is filling (R99). -/
def State.traceWritten (s : State) (m : Measurement) (self : Pair) (vs : List Int) : State :=
  match m.filling with
  | some k => s.writeTrace k m self vs
  | none => s

section
variable {s : State} {m : Measurement} {self : Pair} {vs : List Int}

theorem State.writeWords_frame (s : State) (a : Nat) (ws : List Word) :
    s.writeWords a ws = { s with mem := (s.writeWords a ws).mem } := by
  induction ws generalizing s a with
  | nil => rfl
  | cons w rest ih => exact ih (s.writeMem a w) (a + 1)

theorem State.traceWritten_frame (s : State) (m : Measurement) (self : Pair) (vs : List Int) :
    s.traceWritten m self vs = { s with mem := (s.traceWritten m self vs).mem } := by
  unfold State.traceWritten
  cases m.filling with
  | none => rfl
  | some k =>
    dsimp only
    unfold State.writeTrace
    have first := State.writeWords_frame s (slabBase k) ((vs.take 512).map fun v => BitVec.ofInt 16 v)
    generalize s.writeWords (slabBase k) ((vs.take 512).map fun v => BitVec.ofInt 16 v) = u at *
    have next := State.writeWords_frame u (slabEntryBase k)
      [BitVec.ofNat 16 m.holder.val, BitVec.ofNat 16 self.code, m.sequence, BitVec.ofNat 16 m.recipe.window]
    generalize u.writeWords (slabEntryBase k) _ = w at *
    rw [next, first]
    rfl

variable (hm : s.memOk)
include hm

theorem State.traceWritten_memOk : (s.traceWritten m self vs).memOk := by
  unfold State.traceWritten
  cases m.filling with
  | none => exact hm
  | some k => exact State.memOk_writeTrace hm k m self vs

/-- What a word reads after the trace (R99). -/
theorem State.writeTrace_readMem (k : SlabNo) (m : Measurement) (self : Pair) (vs : List Int) (a : Nat) :
    (s.writeTrace k m self vs).readMem a =
      if ownerAddr k = a then 2
      else if slabEntryBase k ≤ a ∧ a < slabEntryBase k + 4 then
        [BitVec.ofNat 16 m.holder.val, BitVec.ofNat 16 self.code, m.sequence,
          BitVec.ofNat 16 m.recipe.window].getD (a - slabEntryBase k) 0
      else if slabBase k ≤ a ∧ a < slabBase k + (vs.take 512).length then
        ((vs.take 512).map fun v => BitVec.ofInt 16 v).getD (a - slabBase k) 0
      else s.readMem a := by
  have hk := k.isLt
  have base : slabBase k = 0x2C00 + 512 * k.val := rfl
  have entry : slabEntryBase k = 0x0100 + 4 * k.val := rfl
  have len : (vs.take 512).length ≤ 512 := by
    rw [List.length_take]
    omega
  have fits : slabBase k + ((vs.take 512).map fun v => (BitVec.ofInt 16 v : Word)).length ≤ 32768 := by
    rw [List.length_map]
    omega
  have ok := State.memOk_writeWords hm _ fits
  have room : slabEntryBase k + ([BitVec.ofNat 16 m.holder.val, BitVec.ofNat 16 self.code, m.sequence,
      BitVec.ofNat 16 m.recipe.window] : List Word).length ≤ 32768 := by
    simp only [List.length_cons, List.length_nil]
    omega
  rw [State.writeTrace, State.readMem_writeMem _ _ _ _ (State.memOk_writeWords ok _ room),
    State.readMem_writeWords ok _ room, State.readMem_writeWords hm _ fits, List.length_map]
  rfl

theorem State.writeTrace_kept {k : SlabNo} {a : Nat} (far : ¬ inSlab k a) :
    (s.writeTrace k m self vs).readMem a = s.readMem a := by
  have len : (vs.take 512).length ≤ 512 := by
    rw [List.length_take]
    omega
  unfold inSlab at far
  rw [State.writeTrace_readMem hm, if_neg (by omega), if_neg (by omega), if_neg (by omega)]

theorem State.traceWritten_kept {a : Nat} (far : ∀ k, m.filling = some k → ¬ inSlab k a) :
    (s.traceWritten m self vs).readMem a = s.readMem a := by
  unfold State.traceWritten
  cases filling : m.filling with
  | none => rfl
  | some k => exact State.writeTrace_kept hm (far k filling)

/-- The trace of R99. -/
theorem State.writeTrace_traced (k : SlabNo) (short : vs.length ≤ 512) :
    s.traced (s.writeTrace k m self vs) k m self vs := by
  have hk := k.isLt
  have owner : ownerAddr k = 0x0080 + k.val := rfl
  have base : slabBase k = 0x2C00 + 512 * k.val := rfl
  have entry : slabEntryBase k = 0x0100 + 4 * k.val := rfl
  have reads := State.writeTrace_readMem hm k m self vs
  rw [List.take_of_length_le short] at reads
  have word : ∀ i, i < 4 → (s.writeTrace k m self vs).readMem (slabEntryBase k + i) =
      [BitVec.ofNat 16 m.holder.val, BitVec.ofNat 16 self.code, m.sequence,
        BitVec.ofNat 16 m.recipe.window].getD i 0 := fun i hi => by
    rw [reads, if_neg (by omega), if_pos (by omega), Nat.add_sub_cancel_left]
  refine ⟨fun j v hv => ?_, fun j low high => ?_, word 0 (by decide), word 1 (by decide), word 2 (by decide),
    word 3 (by decide), (reads _).trans (if_pos rfl)⟩
  · obtain ⟨hj, -⟩ := List.getElem?_eq_some_iff.mp hv
    rw [reads, if_neg (by omega), if_neg (by omega), if_pos (by omega), Nat.add_sub_cancel_left,
      List.getD_eq_getElem?_getD, List.getElem?_map, hv]
    rfl
  · rw [reads, if_neg (by omega), if_neg (by omega), if_neg (by omega)]

end

end Sys2Proof.Machine

namespace Sys2Proof.Machine

/-- The pair recorded, its slab no longer filling, at whatever comes next. -/
def Measurement.recorded (m : Measurement) (self : Pair) (r : PairResult) (flags : BitVec 5) : Measurement :=
  { m with results := m.results.set self (some r), filling := none, flags := flags }

section
variable {s : State} {e : EngineNo} {m : Measurement} {n : Nat} {acc : Pairs Accumulators} {self : Pair}
  (meas : (s.engine e).meas = some m) (phase : m.phase = .finishing n acc) (pair : m.pair = some self)
  {flags : BitVec 5}
  (whenSaturated : (∃ v ∈ acc.get self, v.toInt / 2 ^ m.recipe.shift < -32768 ∨
    32767 < v.toInt / 2 ^ m.recipe.shift) → flags = m.flags ||| 2)
  (otherwise : ¬ (∃ v ∈ acc.get self, v.toInt / 2 ^ m.recipe.shift < -32768 ∨
    32767 < v.toInt / 2 ^ m.recipe.shift) → flags = m.flags)
include meas phase pair whenSaturated otherwise

/-- A pair's completion (R95 to R100), with the scaled values as the statements write them. -/
theorem State.completePair_eq {vs : Pairs (List Int)}
    (scaling : vs = acc.map fun l => l.map fun v => max (-32768) (min (v.toInt / 2 ^ m.recipe.shift) 32767)) :
    s.completePair e = ((s.traceWritten m self (vs.get self)).setEngine e { s.engine e with
      meas := some (m.recorded self (pairResult m.recipe m.velocity self n m.filling vs) flags) }).goOn e
        (nextPair m.recipe self) := by
  have flagged : (if anySaturated m.recipe (acc.get self) then m.flags ||| flagSaturated else m.flags) = flags := by
    split_ifs with found
    · exact (whenSaturated ((anySaturated_iff _ _).mp found)).symm
    · exact (otherwise (mt (anySaturated_iff _ _).mpr found)).symm
  have engine : (s.traceWritten m self (vs.get self)).engine e = s.engine e := by
    rw [s.traceWritten_frame]
    rfl
  rw [State.completePair, meas]
  dsimp only
  rw [phase, pair]
  dsimp only
  rw [scaled_eq, ← scaling, flagged]
  show ((s.traceWritten m self (vs.get self)).updMeas e _).goOn e _ = _
  rw [State.updMeas_some (m := m) (by rw [engine, meas]), engine]
  rfl

end

/-- After the last pair (R87). -/
theorem State.goOn_last {v : State} {e : EngineNo} {x : Engine} {m : Measurement} :
    (v.setEngine e { x with meas := some m }).goOn e none =
      (v.setEngine e { x with meas := some { m with pair := none } }).finishMeasurement e := by
  rw [State.goOn, State.updMeas_some (m := m) (by rw [State.engine_setEngine_self]), State.engine_setEngine_self,
    State.setEngine_setEngine]

theorem exec_pairCompletion {s : State} (working : s.working) (e : EngineNo) :
    exec (.pairCompletion e) s = .next (s.completePair e).closeEdits :=
  State.take_working working fun s => s.completePair e

/-- A measurement done, in a state whose memory alone has changed. -/
theorem State.Completes.of_memory {s w : State} {e : EngineNo} {m n : Measurement} {g : Grant}
    {results : Pairs (Option PairResult)} {flags : BitVec 5} (grant : s.grant e = some g)
    (port : g.request.port = m.holder) (frame : ∃ mem count, w = { s with mem := mem, freeCount := count })
    (memOk : w.memOk) (holder : n.holder = m.holder) (source : n.source = m.source)
    (report : ∀ tick, n.reportAt tick = ({ m with results := results } : Measurement).reportWith flags tick) :
    s.Completes (w.setEngine e { s.engine e with meas := some n }) e m results flags := by
  obtain ⟨mem, count, rfl⟩ := frame
  exact ⟨rfl, State.Frees.remeasured grant port ⟨_, _, _, rfl⟩ _,
    ⟨n, by rw [State.engine_setEngine_self], holder, source, report⟩, memOk⟩

theorem not_inCellHead_of_inSlab {k : SlabNo} {a : Nat} (h : inSlab k a) (c : CellNo) : ¬ inCellHead c a := by
  have hk := k.isLt
  have hc := c.isLt
  unfold inSlab slabBase slabEntryBase ownerAddr at h
  unfold inCellHead cellBase
  omega

/-- Where the words of slab k read the same, the same trace stands in it. -/
theorem State.traced.of_same {s t u : State} {k : SlabNo} {m : Measurement} {self : Pair} {vs : List Int}
    (h : s.traced t k m self vs) (short : vs.length ≤ 512) (same : ∀ a, inSlab k a → u.readMem a = t.readMem a) :
    s.traced u k m self vs := by
  obtain ⟨values, beyond, port, pair, sequence, window, held⟩ := h
  have entry : ∀ i, i < 4 → u.readMem (slabEntryBase k + i) = t.readMem (slabEntryBase k + i) := fun i hi =>
    same _ (.inr (.inl ⟨by omega, by omega⟩))
  refine ⟨fun j v hv => ?_, fun j low high => ?_, (entry 0 (by decide)).trans port, (entry 1 (by decide)).trans pair,
    (entry 2 (by decide)).trans sequence, (entry 3 (by decide)).trans window, (same _ (.inr (.inr rfl))).trans held⟩
  · obtain ⟨hj, -⟩ := List.getElem?_eq_some_iff.mp hv
    exact (same _ (.inl ⟨by omega, by omega⟩)).trans (values j v hv)
  · exact (same _ (.inl ⟨by omega, by omega⟩)).trans (beyond j low high)

/-- Settles O52: the last pair is recorded, and the measurement ends as its source says. -/
theorem lastPairEndsDiagnose : Obligations.LastPairEndsDiagnose := by
  unfold Obligations.LastPairEndsDiagnose
  intro s e m g n acc self flags working closed hm meas grant port phase pair last vs saturated result whenSaturated
    otherwise
  have taken := exec_pairCompletion working e
  rw [State.completePair_eq meas phase pair whenSaturated otherwise rfl, last, State.goOn_last] at taken
  have memOk := State.traceWritten_memOk (m := m) (self := self) (vs := vs.get self) hm
  refine (State.Completes.of_memory (n := { m.recorded self result flags with pair := none }) grant port
    ⟨_, _, s.traceWritten_frame m self (vs.get self)⟩ memOk rfl rfl fun _ => rfl).ends closed meas taken fun t cells kept => ⟨fun a far free => ?_, fun k hk short => ?_⟩
  · exact (kept a far).trans (State.traceWritten_kept hm free)
  · have traced := State.writeTrace_traced (m := m) (self := self) hm k short
    refine traced.of_same short fun a ha => (kept a fun c _ => not_inCellHead_of_inSlab ha c).trans ?_
    show (s.traceWritten m self (vs.get self)).readMem a = _
    rw [State.traceWritten, hk]

end Sys2Proof.Machine

namespace Sys2Proof.Machine

/-! ### The next pair, and its slab (R87, R88) -/

/-- Slab k may be taken: FREE and filling nowhere (R88). -/
def State.slabOpen (s : State) (k : SlabNo) : Prop := s.readMem (ownerAddr k) = 0 ∧ s.slabFilling k = false

theorem State.lowestFreeSlab_some {s : State} {k : SlabNo} :
    s.lowestFreeSlab = some k ↔ s.slabOpen k ∧ ∀ k', k' < k → ¬ s.slabOpen k' := by
  rw [State.lowestFreeSlab, find_finRange_iff]
  simp only [Bool.and_eq_true, decide_eq_true_eq, Bool.not_eq_true', State.slabOpen, ← Bool.not_eq_true]
  rfl

theorem State.lowestFreeSlab_none {s : State} : s.lowestFreeSlab = none ↔ ∀ k, ¬ s.slabOpen k := by
  rw [State.lowestFreeSlab, List.find?_eq_none]
  simp only [List.mem_finRange, true_implies, Bool.and_eq_true, decide_eq_true_eq, Bool.not_eq_true', State.slabOpen]
  rfl

/-- The measurement at its next pair (R87, R90). -/
def Measurement.atPair (m : Measurement) (p : Pair) : Measurement :=
  { m with pair := some p, phase := .quietCheck 0 .capturing }

section
variable {v w : State} {e : EngineNo} {x : Engine} {m : Measurement}

/-- A pair starts (R87, R90, R88). -/
theorem State.goOn_next (after : Pair) : (v.setEngine e { x with meas := some m }).goOn e (some after) =
    if m.recipe.trace then (v.setEngine e { x with meas := some (m.atPair after) }).allocateSlab e
    else v.setEngine e { x with meas := some (m.atPair after) } := by
  have started : (v.setEngine e { x with meas := some m }).updMeas e (fun m => m.atPair after) =
      v.setEngine e { x with meas := some (m.atPair after) } := by
    rw [State.updMeas_some (m := m) (by rw [State.engine_setEngine_self]), State.engine_setEngine_self,
      State.setEngine_setEngine]
  rw [State.goOn, State.startPair]
  show (match (((v.setEngine e { x with meas := some m }).updMeas e fun m => m.atPair after).engine e).meas with
    | some m' => if m'.recipe.trace then
        ((v.setEngine e { x with meas := some m }).updMeas e fun m => m.atPair after).allocateSlab e
      else (v.setEngine e { x with meas := some m }).updMeas e fun m => m.atPair after
    | none => (v.setEngine e { x with meas := some m }).updMeas e fun m => m.atPair after) = _
  rw [started, State.engine_setEngine_self]
  rfl

theorem State.allocateSlab_some {k : SlabNo}
    (lowest : (w.setEngine e { x with meas := some m }).lowestFreeSlab = some k) :
    (w.setEngine e { x with meas := some m }).allocateSlab e =
      (w.writeMem (ownerAddr k) 1).setEngine e { x with meas := some { m with filling := some k } } := by
  have owner : (w.setEngine e { x with meas := some m }).writeMem (ownerAddr k) ownerFilling =
      (w.writeMem (ownerAddr k) 1).setEngine e { x with meas := some m } := rfl
  rw [State.allocateSlab, lowest]
  dsimp only
  rw [owner, State.updMeas_some (m := m) (by rw [State.engine_setEngine_self]), State.engine_setEngine_self,
    State.setEngine_setEngine]

theorem State.allocateSlab_none (none : (w.setEngine e { x with meas := some m }).lowestFreeSlab = none) :
    (w.setEngine e { x with meas := some m }).allocateSlab e =
      { w with globalNews := w.globalNews ||| 2 }.setEngine e
        { x with meas := some { m with flags := m.flags ||| 1 } } := by
  have news : setBit w.globalNews 1 = w.globalNews ||| 2 := rfl
  rw [State.allocateSlab, none, ← news]
  dsimp only
  rw [State.updMeas_some (m := m) (by rw [State.engine_setEngine_self]), State.engine_setEngine_self,
    State.setEngine_setEngine]
  rfl

/-- The start of a pair changes no port. -/
theorem State.pairStarted_ports (w : State) (e : EngineNo) (x : Engine) (m : Measurement) (trace : Bool) :
    (if trace then (w.setEngine e { x with meas := some m }).allocateSlab e
      else w.setEngine e { x with meas := some m }).ports = w.ports := by
  split_ifs
  · cases lowest : (w.setEngine e { x with meas := some m }).lowestFreeSlab with
    | none =>
      rw [State.allocateSlab_none lowest]
      rfl
    | some k =>
      rw [State.allocateSlab_some lowest]
      rfl
  · rfl

/-- What another engine fills is not touched by what engine e measures. -/
theorem State.slabFilling_remeasured {s : State} (engines : w.engines = s.engines) (meas : (s.engine e).meas = some m)
    {n : Measurement} (none : n.filling = none) {k : SlabNo} (other : m.filling ≠ some k) :
    (w.setEngine e { x with meas := some n }).slabFilling k = s.slabFilling k := by
  have engine : ∀ f, w.engine f = s.engine f := fun f => congrArg (·[f]) engines
  rw [Bool.eq_iff_iff, State.slabFilling_iff, State.slabFilling_iff]
  constructor
  · rintro ⟨f, n', hn, filling⟩
    rw [State.engine_setEngine] at hn
    split_ifs at hn with same
    · rw [← Option.some.inj hn, none] at filling
      cases filling
    · exact ⟨f, n', engine f ▸ hn, filling⟩
  · rintro ⟨f, n', hn, filling⟩
    refine ⟨f, n', ?_, filling⟩
    rw [State.engine_setEngine, if_neg fun same => ?_, engine, hn]
    rw [← same, meas] at hn
    exact other ((Option.some.inj hn) ▸ filling)

end

theorem ownerAddr_not_inSlab {k l : SlabNo} (ne : k ≠ l) : ¬ inSlab l (ownerAddr k) := by
  have hk := k.isLt
  have hl := l.isLt
  have apart : k.val ≠ l.val := fun e => ne (Fin.ext e)
  unfold inSlab slabBase slabEntryBase ownerAddr
  omega

section
variable {s : State} {e : EngineNo} {m : Measurement} (hm : s.memOk) (meas : (s.engine e).meas = some m)
include hm meas

/-- A pair's own slab is HELD when the next is looked for, so that what is open was so before (R88, R99). -/
theorem State.traceWritten_slabOpen {self : Pair} {vs : List Int} {n : Measurement} (none : n.filling = none) (k : SlabNo) :
    ((s.traceWritten m self vs).setEngine e { s.engine e with meas := some n }).slabOpen k ↔ s.slabOpen k := by
  have engines : (s.traceWritten m self vs).engines = s.engines := by
    rw [s.traceWritten_frame]
  unfold State.slabOpen
  by_cases own : m.filling = some k
  · have held : (s.traceWritten m self vs).readMem (ownerAddr k) = 2 := by
      rw [State.traceWritten, own]
      exact (State.writeTrace_readMem hm k m self vs _).trans (if_pos rfl)
    have filling : s.slabFilling k = true := (s.slabFilling_iff k).mpr ⟨e, m, meas, own⟩
    rw [State.setEngine_readMem, held, filling]
    simp
  · rw [State.slabFilling_remeasured engines meas none own, State.setEngine_readMem,
      State.traceWritten_kept hm fun l hl => ownerAddr_not_inSlab fun same => own (hl.trans (congrArg some same.symm))]

end

end Sys2Proof.Machine

namespace Sys2Proof.Machine

/-! ### On to the next pair (O51) -/

section
variable {s : State} {e : EngineNo} {m : Measurement} {n : Nat} {acc : Pairs Accumulators} {self after : Pair}
  (working : s.working) (closed : s.editsClosed) (hm : s.memOk) (meas : (s.engine e).meas = some m)
  (phase : m.phase = .finishing n acc) (pair : m.pair = some self) (next : nextPair m.recipe self = some after)
  {flags : BitVec 5}
  (whenSaturated : (∃ v ∈ acc.get self, v.toInt / 2 ^ m.recipe.shift < -32768 ∨
    32767 < v.toInt / 2 ^ m.recipe.shift) → flags = m.flags ||| 2)
  (otherwise : ¬ (∃ v ∈ acc.get self, v.toInt / 2 ^ m.recipe.shift < -32768 ∨
    32767 < v.toInt / 2 ^ m.recipe.shift) → flags = m.flags)
  {vs : Pairs (List Int)}
  (scaling : vs = acc.map fun l => l.map fun v => max (-32768) (min (v.toInt / 2 ^ m.recipe.shift) 32767))
include working closed meas phase pair next whenSaturated otherwise scaling

theorem exec_pairCompletion_next : exec (.pairCompletion e) s = .next (if m.recipe.trace then
    ((s.traceWritten m self (vs.get self)).setEngine e { s.engine e with
      meas := some ((m.recorded self (pairResult m.recipe m.velocity self n m.filling vs) flags).atPair
        after) }).allocateSlab e
    else (s.traceWritten m self (vs.get self)).setEngine e { s.engine e with
      meas := some ((m.recorded self (pairResult m.recipe m.velocity self n m.filling vs) flags).atPair
        after) }) := by
  have completed := State.completePair_eq meas phase pair whenSaturated otherwise scaling
  rw [next, State.goOn_next] at completed
  have ports : (s.completePair e).ports = s.ports := by
    rw [completed]
    have ports := congrArg State.ports (s.traceWritten_frame m self (vs.get self))
    exact (State.pairStarted_ports ..).trans ports
  rw [exec_pairCompletion working, State.closeEdits_of_ports closed ports, completed]
  rfl

include hm

/-- With a trace wanted the next pair takes the lowest slab that is open, or sets TRACE_SHORT (R88). -/
theorem exec_pairCompletion_traced (trace : m.recipe.trace = true) :
    let goesOn : Option SlabNo → BitVec 5 → State := fun next flags =>
      s.setEngine e { s.engine e with meas := some { m with
        results := m.results.set self (some (pairResult m.recipe m.velocity self n m.filling vs))
        filling := next, flags := flags, pair := some after, phase := .quietCheck 0 .capturing } }
    (∀ k, s.slabOpen k → (∀ k', k' < k → ¬ s.slabOpen k') → ∃ t, exec (.pairCompletion e) s = .next t ∧
      t = { goesOn (some k) flags with mem := t.mem } ∧ t.readMem (ownerAddr k) = 1 ∧
      ∀ a, a ≠ ownerAddr k → (∀ own, m.filling = some own → ¬ inSlab own a) → t.readMem a = s.readMem a) ∧
    ((∀ k, ¬ s.slabOpen k) → ∃ t, exec (.pairCompletion e) s = .next t ∧
      t = { goesOn none (flags ||| 1) with mem := t.mem, globalNews := s.globalNews ||| 2 } ∧
      ∀ a, (∀ own, m.filling = some own → ¬ inSlab own a) → t.readMem a = s.readMem a) := by
  intro goesOn
  have taken := exec_pairCompletion_next working closed meas phase pair next whenSaturated otherwise scaling
  have opens := fun k => State.traceWritten_slabOpen (self := self) (vs := vs.get self) hm meas
    (n := (m.recorded self (pairResult m.recipe m.velocity self n m.filling vs) flags).atPair after) rfl k
  have memOk := State.traceWritten_memOk (m := m) (self := self) (vs := vs.get self) hm
  have kept := fun a far => State.traceWritten_kept (m := m) (self := self) (vs := vs.get self) (a := a) hm far
  obtain ⟨mem, frame⟩ : ∃ mem, s.traceWritten m self (vs.get self) = { s with mem := mem } :=
    ⟨_, s.traceWritten_frame m self (vs.get self)⟩
  rw [frame] at taken opens memOk kept
  rw [if_pos trace] at taken
  refine ⟨fun k isOpen lowest => ?_, fun none => ?_⟩
  · rw [State.allocateSlab_some (State.lowestFreeSlab_some.mpr
      ⟨(opens k).mpr isOpen, fun k' lower => mt (opens k').mp (lowest k' lower)⟩)] at taken
    refine ⟨_, taken, rfl, ?_, fun a ne far => ?_⟩
    · exact (State.readMem_writeMem _ _ _ _ memOk).trans (if_pos rfl)
    · exact (State.readMem_writeMem _ _ _ _ memOk).trans ((if_neg (Ne.symm ne)).trans (kept a far))
  · rw [State.allocateSlab_none (State.lowestFreeSlab_none.mpr fun k => mt (opens k).mp (none k))] at taken
    exact ⟨_, taken, rfl, kept⟩

end

end Sys2Proof.Machine

namespace Sys2Proof.Machine

/-! ### The jobs of a port beside memory and arbiter

Starts and ends of jobs on a port that no engine holds write ports and cells alone. -/

/-- Between b and t ports and cells have changed. -/
structure State.Beside (b t : State) : Prop where
  memOk : t.memOk
  engines : t.engines = b.engines
  grants : t.grants = b.grants
  claims : t.claims = b.claims
  reads : ∀ a, (∀ c, ¬ inCellHead c a) → t.readMem a = b.readMem a

namespace State.Beside
variable {b t : State} {p : PortNo} (h : b.Beside t)

theorem start (hm : b.memOk) : b.Beside b := ⟨hm, rfl, rfl, rfl, fun _ _ => rfl⟩

include h

theorem setPort (p : PortNo) (y : Port) : b.Beside (t.setPort p y) := ⟨h.memOk, h.engines, h.grants, h.claims, h.reads⟩

theorem updPort (p : PortNo) (f : Port → Port) : b.Beside (t.updPort p f) :=
  ⟨h.memOk, h.engines, h.grants, h.claims, h.reads⟩

theorem only {u : State} {cells : List CellNo} (cells : t.OnlyCells u cells) : b.Beside u := by
  obtain ⟨⟨mem, custody, rfl⟩, canonical, kept, -⟩ := cells
  exact ⟨canonical, h.engines, h.grants, h.claims, fun a far => (kept a fun c _ => far c).trans (h.reads a far)⟩

theorem engineOf (free : b.engineOf p = none) : t.engineOf p = none := by
  have same : t.engineOf p = b.engineOf p := by
    unfold State.engineOf State.engine
    rw [h.engines]
  rw [same, free]

theorem grantsOk (ok : b.grantsOk) : t.grantsOk := ok.of_parts h.engines h.grants h.claims

theorem endJob (p : PortNo) (out : JobOutcome) : b.Beside (t.endJob p out) := by
  cases jobs : (t.port p).jobs with
  | nil =>
    rw [State.endJob_nil jobs]
    exact h
  | cons j later =>
    rw [State.endJob_cons jobs]
    exact ((h.only (.endCell h.memOk ..)).updPort p _).setPort p _

theorem endTrain (p : PortNo) (out : JobOutcome) : b.Beside (t.endTrain p out) := by
  unfold State.endTrain
  split_ifs
  · exact h.endJob p out
  · exact h

theorem startAttempt (p : PortNo) : b.Beside (t.startAttempt p) := by
  unfold State.startAttempt
  dsimp only
  split_ifs
  · exact (h.updPort p _).endTrain p _
  · exact h.updPort p _
  · exact h.updPort p _

theorem beginSequence (p : PortNo) (byWatch : Bool) : b.Beside (t.beginSequence p byWatch) := by
  have begun : b.Beside ((t.withdraw p).updPort p fun x =>
    { x with status := { x.status with attempts := 0, lastResult := .none } }) := (h.updPort p _).updPort p _
  unfold State.beginSequence
  dsimp only
  split_ifs
  · exact (begun.updPort p _).updPort p _
  · exact begun.startAttempt p

theorem resume (p : PortNo) : b.Beside (t.resume p) := by
  unfold State.resume State.retrainOrIdle
  split_ifs
  · exact h.beginSequence p false
  · exact h.updPort p _
  · exact h.updPort p _

theorem dropLink (p : PortNo) (why : DownReason) : b.Beside (t.dropLink p why) := (h.updPort p _).setPort p _

theorem writeReport (p : PortNo) (r : Report) : b.Beside (t.writeReport p r) := (h.updPort p _).setPort p _

section
variable (free : b.engineOf p = none)
include free

theorem abortPort : b.Beside (t.abortPort p none) := by
  have stopped := h.updPort p Port.stopActivity
  rw [State.abortPort, stopped.engineOf free]
  exact stopped.updPort p _

theorem unlinked (why : DownReason) :
    b.Beside ((if (t.port p).status.state = .linked then t.dropLink p why else t).abortPort p none) := by
  split_ifs
  · exact (h.dropLink p why).abortPort free
  · exact h.abortPort free

theorem startTrain (f : Profile) : b.Beside (t.startTrain p f) :=
  (((h.unlinked free .retrainRequested).updPort p _).beginSequence p false)

theorem startHold : b.Beside (t.startHold p) :=
  (((h.unlinked free .hold).updPort p _).updPort p _).endJob p .held

theorem startDiagnose (r : Recipe) (tag : Word) (intrusive : Bool) : b.Beside (t.startDiagnose p r tag intrusive) := by
  unfold State.startDiagnose
  split_ifs
  · exact h.endJob p .linkUp
  · exact ((h.dropLink p .diagnose).updPort p _).updPort p _
  · exact ((h.abortPort free).updPort p _).updPort p _

theorem startHead : b.Beside (t.startHead p) := by
  cases jobs : (t.port p).jobs with
  | nil =>
    rw [State.startHead, jobs]
    exact h
  | cons j later =>
    have begun : b.Beside (t.headBegun p j later) := (h.only (.cellBegun h.memOk j.cell)).updPort p _
    cases work : j.work with
    | train f =>
      rw [State.startHead_train jobs work]
      exact begun.startTrain free f
    | diagnose r i =>
      rw [State.startHead_diagnose jobs work]
      exact begun.startDiagnose free r j.tag i
    | hold =>
      rw [State.startHead_hold jobs work]
      exact begun.startHold free

theorem startJobs : b.Beside (t.startJobs p) := by
  have upTo : ∀ n {t : State}, b.Beside t → b.Beside (State.startJobsUpTo n t p) := by
    intro n
    induction n with
    | zero => exact fun h => h
    | succ n ih =>
      intro t h
      unfold State.startJobsUpTo
      split_ifs
      · exact ih (h.startHead free)
      · exact h
  exact upTo _ h

end

end State.Beside

/-! ### Memory after the end of a measurement -/

section
variable {b t : State} {e : EngineNo} {m : Measurement}

/-- A release beside: no engine holds the port then, and memory is as it was. -/
theorem State.Beside.released (h : b.Beside t) (ok : b.grantsOk) (meas : (b.engine e).meas = some m) :
    (t.release e).engineOf m.holder = none ∧ (t.release e).memOk ∧
      ∀ a, (∀ c, ¬ inCellHead c a) → (t.release e).readMem a = b.readMem a := by
  have ok' := h.grantsOk ok
  have meas' : (t.engine e).meas = some m := (congrArg (fun v => v[e].meas) h.engines).trans meas
  have frees := State.Frees.of_held ok' meas'
  obtain ⟨-, -, -, reads, -, memOk⟩ := frees.rest
  exact ⟨frees.engineOf ok' meas' rfl, memOk.mpr h.memOk, fun a far => (reads a).trans (h.reads a far)⟩

/-- The end of a measurement writes no word of memory but in cells (R102, R144). -/
theorem State.finishMeasurement_reads (ok : b.grantsOk) (hm : b.memOk) (meas : (b.engine e).meas = some m) {a : Nat}
    (far : ∀ c, ¬ inCellHead c a) : (b.finishMeasurement e).readMem a = b.readMem a := by
  have start := State.Beside.start hm
  obtain ⟨job, precheck, watch⟩ := State.finishMeasurement_eq meas
  cases source : m.source with
  | job =>
    rw [job source]
    have written := start.writeReport m.holder (m.reportAt b.tick)
    unfold State.finishJob
    dsimp only
    split_ifs
    · obtain ⟨free, memOk, reads⟩ := (written.endJob m.holder .reported).released ok meas
      exact ((((State.Beside.start memOk).resume m.holder).startJobs free).reads a far).trans (reads a far)
    · exact (written.released ok meas).2.2 a far
  | precheck =>
    rw [precheck source]
    have written := start.writeReport m.holder (m.reportAt b.tick)
    unfold State.finishPrecheck
    dsimp only
    split_ifs
    · obtain ⟨free, memOk, reads⟩ := (written.updPort m.holder _).released ok meas
      exact ((((State.Beside.start memOk).startAttempt m.holder).startJobs free).reads a far).trans (reads a far)
    · exact (written.released ok meas).2.2 a far
  | watch =>
    rw [watch source]
    have compared : b.Beside (b.compareWatch m.holder (m.reportAt b.tick)) := by
      unfold State.compareWatch
      dsimp only
      split_ifs
      · exact ((start.writeReport m.holder _).updPort m.holder _).setPort m.holder _
      · exact start.updPort m.holder _
    obtain ⟨free, memOk, reads⟩ := compared.released ok meas
    have triggered : ∀ {u : State} pairs, u.memOk → u.Beside (u.watchTriggers m.holder pairs) := fun {u} pairs hu => by
      unfold State.watchTriggers
      dsimp only
      split_ifs
      · exact (State.Beside.start hu).beginSequence m.holder true
      · exact State.Beside.start hu
    exact (((triggered _ memOk).startJobs free).reads a far).trans (reads a far)

end

end Sys2Proof.Machine

namespace Sys2Proof.Machine

theorem State.closeEdits_readMem (s : State) (a : Nat) : s.closeEdits.readMem a = s.readMem a := by
  obtain ⟨ports, frame⟩ := s.closeEdits_frame
  rw [frame]
  rfl

/-- What an engine measures is not the arbiter's, while its port is the same and it fills no slab. -/
theorem State.grantsOk.remeasured {s w : State} (ok : s.grantsOk) (running : s.runState = .running) {e : EngineNo}
    {m n : Measurement} (meas : (s.engine e).meas = some m) (frame : w = { s with mem := w.mem })
    (holder : n.holder = m.holder) (filling : n.filling = none) :
    (w.setEngine e { s.engine e with meas := some n }).grantsOk := by
  have kept : s.arbiterKept False False := ⟨ok, fun stopped => absurd running stopped, nofun, nofun⟩
  have measured := (kept.measure meas holder (.inr filling)).agree
  rw [frame]
  exact measured.of_parts rfl rfl rfl

section
variable {s : State} {e : EngineNo} {m : Measurement} {n : Nat} {acc : Pairs Accumulators} {self : Pair}

/-- The flags a completion leaves (R95). -/
theorem Measurement.completedFlags (m : Measurement) (saturated : Prop) :
    ∃ flags : BitVec 5, (saturated → flags = m.flags ||| 2) ∧ (¬ saturated → flags = m.flags) := by
  by_cases h : saturated
  · exact ⟨_, fun _ => rfl, fun no => absurd h no⟩
  · exact ⟨_, fun yes => absurd yes h, fun _ => rfl⟩

variable (working : s.working) (closed : s.editsClosed) (hm : s.memOk) (meas : (s.engine e).meas = some m)
  (phase : m.phase = .finishing n acc) (pair : m.pair = some self) {vs : Pairs (List Int)}
  (scaling : vs = acc.map fun l => l.map fun v => max (-32768) (min (v.toInt / 2 ^ m.recipe.shift) 32767))
include working closed hm meas phase pair scaling

/-- A completion writes memory in the trace of its pair, in cells, and in the owner word of the slab it takes next. -/
theorem exec_pairCompletion_reads (ok : s.grantsOk) {k : SlabNo} (own : m.filling = some k) :
    ∃ t, exec (.pairCompletion e) s = .next t ∧
      ∀ a, inSlab k a → t.readMem a = (s.traceWritten m self (vs.get self)).readMem a := by
  obtain ⟨flags, whenSaturated, otherwise⟩ := m.completedFlags (∃ v ∈ acc.get self,
    v.toInt / 2 ^ m.recipe.shift < -32768 ∨ 32767 < v.toInt / 2 ^ m.recipe.shift)
  have memOk := State.traceWritten_memOk (m := m) (self := self) (vs := vs.get self) hm
  cases next : nextPair m.recipe self with
  | none =>
    have completed := State.completePair_eq meas phase pair whenSaturated otherwise scaling
    rw [next, State.goOn_last] at completed
    have ok' := ok.remeasured (n := { m.recorded self (pairResult m.recipe m.velocity self n m.filling vs) flags with
      pair := none }) working.2 meas (s.traceWritten_frame m self (vs.get self)) rfl rfl
    have meas' := congrArg Engine.meas (State.engine_setEngine_self (s.traceWritten m self (vs.get self)) e
      { s.engine e with meas := some { m.recorded self (pairResult m.recipe m.velocity self n m.filling vs) flags with
        pair := none } })
    refine ⟨_, exec_pairCompletion working e, fun a ha => ?_⟩
    rw [State.closeEdits_readMem, completed]
    generalize s.traceWritten m self (vs.get self) = w at *
    exact (State.finishMeasurement_reads ok' memOk meas' fun c => not_inCellHead_of_inSlab ha c).trans
      (State.setEngine_readMem ..)
  | some after =>
    have taken := exec_pairCompletion_next working closed meas phase pair next whenSaturated otherwise scaling
    have held : ¬ s.slabOpen k := fun isOpen =>
      Bool.false_ne_true (isOpen.2.symm.trans ((s.slabFilling_iff k).mpr ⟨e, m, meas, own⟩))
    have opens := fun l => State.traceWritten_slabOpen (self := self) (vs := vs.get self) hm meas
      (n := (m.recorded self (pairResult m.recipe m.velocity self n m.filling vs) flags).atPair after) rfl l
    generalize (m.recorded self (pairResult m.recipe m.velocity self n m.filling vs) flags).atPair after = m' at *
    generalize s.traceWritten m self (vs.get self) = w at *
    refine ⟨_, taken, fun a ha => ?_⟩
    split_ifs
    · cases lowest : (w.setEngine e { s.engine e with meas := some m' }).lowestFreeSlab with
      | none =>
        rw [State.allocateSlab_none lowest]
        rfl
      | some l =>
        have isOpen := (opens l).mp (State.lowestFreeSlab_some.mp lowest).1
        have other : ownerAddr l ≠ a := fun same =>
          ownerAddr_not_inSlab (fun e : l = k => held (e ▸ isOpen)) (same ▸ ha)
        rw [State.allocateSlab_some lowest, State.setEngine_readMem, State.readMem_writeMem _ _ _ _ memOk, if_neg other]
    · exact State.setEngine_readMem ..

end

/-- Settles O51: the pair is recorded and traced, and the next pair starts, or the measurement ends. -/
theorem completedPairIsRecordedAndTraced : Obligations.CompletedPairIsRecordedAndTraced := by
  unfold Obligations.CompletedPairIsRecordedAndTraced
  intro s e m n acc self working closed hm meas phase pair vs saturated
  refine ⟨fun after flags next whenSaturated otherwise => ?_, fun k ok own short => ?_⟩
  · intro goesOn isOpen
    refine ⟨fun none plain => ?_, fun trace _ =>
      exec_pairCompletion_traced working closed hm meas phase pair next whenSaturated otherwise rfl trace⟩
    have taken := exec_pairCompletion_next working closed meas phase pair next whenSaturated otherwise rfl
    have untraced : s.traceWritten m self (vs.get self) = s := by
      rw [State.traceWritten, none]
    rw [plain, if_neg Bool.false_ne_true, untraced] at taken
    exact taken
  · obtain ⟨t, taken, reads⟩ := exec_pairCompletion_reads working closed hm meas phase pair rfl ok own
    refine ⟨t, taken, (State.writeTrace_traced (m := m) (self := self) hm k short).of_same short fun a ha => ?_⟩
    rw [reads a ha, State.traceWritten, own]

end Sys2Proof.Machine

namespace Sys2Proof.Machine

/-! ### The quiet check's peak (R90, R91) -/

theorem range_split {j n : Nat} (h : j < n) : ∃ before after, List.range n = before ++ j :: after ∧
    (∀ i ∈ before, i < j) ∧ ∀ i ∈ after, j < i ∧ i < n := by
  obtain ⟨before, after, split⟩ := List.append_of_mem (List.mem_range.mpr h)
  have sorted := List.pairwise_lt_range (n := n)
  rw [split, List.pairwise_append] at sorted
  obtain ⟨-, tail, across⟩ := sorted
  refine ⟨before, after, split, fun i hi => across i hi j List.mem_cons_self, fun i hi =>
    ⟨(List.pairwise_cons.mp tail).1 i hi, List.mem_range.mp ?_⟩⟩
  rw [split]
  exact List.mem_append_right _ (List.mem_cons_of_mem _ hi)

/-- R91's order: position by position, and in one the channels from A to D. -/
theorem byPosition_eq (n : Nat) (cap : Pairs (List Int)) :
    byPosition n cap = (List.range n).flatMap fun j => Pair.list.map fun q => (cap.get q).getD j 0 := rfl

/-- The peak is the largest output, the earliest and the lowest channel on a tie (R91). -/
theorem noisyPeak_eq {cap : Pairs (List Int)} {out : Pair → Nat → Int}
    (outputs : ∀ q j, j < 32 → (cap.get q).getD j 0 = out q j) {q : Pair} {j : Nat} (hj : j < 32)
    (first : ∀ q' j', j' < 32 → (out q' j').natAbs < (out q j).natAbs ∨
      (out q' j').natAbs = (out q j).natAbs ∧ (j < j' ∨ j = j' ∧ q.code ≤ q'.code)) : noisyPeak cap = out q j := by
  obtain ⟨earlier, later, positions, early, late⟩ := range_split hj
  obtain ⟨lower, higher, channels, low⟩ := q.list_split
  have parts : byPosition 32 cap = (earlier.flatMap (fun j => Pair.list.map fun q => (cap.get q).getD j 0) ++
      lower.map fun q => (cap.get q).getD j 0) ++ (cap.get q).getD j 0 :: ((higher.map fun q => (cap.get q).getD j 0) ++
        later.flatMap fun j => Pair.list.map fun q => (cap.get q).getD j 0) := by
    rw [byPosition_eq, positions, List.flatMap_append, List.flatMap_cons]
    conv_lhs => rw [channels, List.map_append, List.map_cons]
    simp only [List.append_assoc, List.cons_append, ← channels]
  have bounded : ∀ q' j', j' < 32 → (out q' j').natAbs ≤ (out q j).natAbs := fun q' j' h =>
    (first q' j' h).elim Nat.le_of_lt fun ⟨e, _⟩ => e.le
  show largest (byPosition 32 cap) = _
  rw [parts, outputs q j hj]
  refine largest_append_cons_eq (fun x hx => ?_) fun x hx => ?_
  · rcases List.mem_append.mp hx with hx | hx
    · obtain ⟨j', hj', hx⟩ := List.mem_flatMap.mp hx
      obtain ⟨q', -, rfl⟩ := List.mem_map.mp hx
      have before := early j' hj'
      rw [outputs q' j' (by omega)]
      exact (first q' j' (by omega)).resolve_right fun ⟨_, place⟩ => by omega
    · obtain ⟨q', hq', rfl⟩ := List.mem_map.mp hx
      have before := low q' hq'
      rw [outputs q' j hj]
      exact (first q' j hj).resolve_right fun ⟨_, place⟩ => by omega
  · rcases List.mem_append.mp hx with hx | hx
    · obtain ⟨q', -, rfl⟩ := List.mem_map.mp hx
      rw [outputs q' j hj]
      exact bounded q' j hj
    · obtain ⟨j', hj', hx⟩ := List.mem_flatMap.mp hx
      obtain ⟨q', -, rfl⟩ := List.mem_map.mp hx
      obtain ⟨-, inside⟩ := late j' hj'
      rw [outputs q' j' inside]
      exact bounded q' j' inside

theorem isBusy_iff {r : Recipe} {cap : Pairs (List Int)} :
    isBusy r cap = true ↔ ∃ q, ∃ v ∈ cap.get q, r.decimation ^ r.order ≤ 2 * v.natAbs := by
  rw [Pairs.exists_iff cap fun l => ∃ v ∈ l, r.decimation ^ r.order ≤ 2 * v.natAbs]
  have half : ∀ v, reachesHalf r v = true ↔ r.decimation ^ r.order ≤ 2 * v.natAbs := fun v => decide_eq_true_iff
  simp only [isBusy, Bool.or_eq_true, List.any_eq_true, half, or_assoc]

/-- The capture of a quiet try is busy (R90). -/
theorem isBusy_captureOf {r : Recipe} {bits : EchoBits} : isBusy r (captureOf bits r 32) = true ↔
    ∃ q j, j < 32 ∧ r.decimation ^ r.order ≤
      2 * (sinc (EchoBits.get bits q) r.decimation r.order ((j + 1) * r.decimation - 1)).natAbs := by
  rw [isBusy_iff]
  simp only [captureOf_get, outputs, List.mem_map, List.mem_range]
  constructor
  · rintro ⟨q, v, ⟨j, hj, rfl⟩, high⟩
    exact ⟨q, j, hj, high⟩
  · rintro ⟨q, j, hj, high⟩
    exact ⟨q, _, ⟨j, hj, rfl⟩, high⟩

theorem captureOf_getD {r : Recipe} {bits : EchoBits} (q : Pair) (j : Nat) (hj : j < 32) :
    ((captureOf bits r 32).get q).getD j 0 =
      sinc (EchoBits.get bits q) r.decimation r.order ((j + 1) * r.decimation - 1) := by
  rw [captureOf_get, List.getD_eq_getElem?_getD, outputs_getElem hj]
  rfl

end Sys2Proof.Machine

namespace Sys2Proof.Machine

/-! ### The quiet check (R90, R91) -/

/-- The pair recorded NOISY (R91). -/
def Measurement.noisy (m : Measurement) (self : Pair) (peak : Word) : Measurement :=
  { m with results := m.results.set self (some ⟨.noisy, none, peak, none, 3, none⟩), filling := none }

section
variable {s : State} {e : EngineNo} {m : Measurement} {n : Nat} {self : Pair} {bits : EchoBits}
  (meas : (s.engine e).meas = some m) (phase : m.phase = .quietCheck n .capturing) (pair : m.pair = some self)
include meas phase pair

theorem State.endTry_eq : s.endTry e bits =
    if isBusy m.recipe (captureOf bits m.recipe 32) = true then
      if n + 1 < 3 then s.updMeas e fun m => { m with phase := .quietCheck (n + 1) .waiting }
      else s.endNoisy e m self (captureOf bits m.recipe 32)
    else s.updMeas e fun m' => { m' with phase := .shooting (n + 1) 0 (zeroAcc m'.recipe) } := by
  rw [State.endTry, meas]
  dsimp only
  rw [phase, pair]
  show (if (!isBusy m.recipe (captureOf bits m.recipe 32)) = true then _ else if n + 1 < 3 then _ else _) = _
  cases isBusy m.recipe (captureOf bits m.recipe 32) with
  | true => rfl
  | false => rfl

/-- Output j of a channel in a quiet try (R90, R93). -/
abbrev tryOutput (bits : EchoBits) (r : Recipe) (q : Pair) (j : Nat) : Int :=
  sinc (EchoBits.get bits q) r.decimation r.order ((j + 1) * r.decimation - 1)

/-- The peak of a noisy pair, where it fits the report's word (R91). -/
def isTryPeak (bits : EchoBits) (r : Recipe) (peak : Word) : Prop :=
  ∀ q j, j < 32 → (∀ q' j', j' < 32 → (tryOutput bits r q' j').natAbs < (tryOutput bits r q j).natAbs ∨
      (tryOutput bits r q' j').natAbs = (tryOutput bits r q j).natAbs ∧ (j < j' ∨ j = j' ∧ q.code ≤ q'.code)) →
    -32768 ≤ tryOutput bits r q j → tryOutput bits r q j ≤ 32767 → peak = BitVec.ofInt 16 (tryOutput bits r q j)

omit phase pair in
/-- A noisy pair is recorded, its slab goes back to FREE, and the measurement goes on (R91, R89, R87). -/
theorem State.endNoisy_eq : ∃ peak count, isTryPeak bits m.recipe peak ∧
    s.endNoisy e m self (captureOf bits m.recipe 32) =
      ((({ s with freeCount := count } : State).freeSlab m.filling).setEngine e
        { s.engine e with meas := some (m.noisy self peak) }).goOn e (nextPair m.recipe self) := by
  have fits : ∀ q j, j < 32 → _ → _ → _ → fitsWord (noisyPeak (captureOf bits m.recipe 32)) = true ∧
      noisyPeak (captureOf bits m.recipe 32) = tryOutput bits m.recipe q j :=
    fun q j hj first low high => by
      rw [noisyPeak_eq (out := tryOutput bits m.recipe) captureOf_getD hj first]
      exact ⟨by rw [fitsWord, decide_eq_true low, decide_eq_true high]; rfl, rfl⟩
  have recorded : ∀ (w : State) peak, w.engine e = s.engine e →
      (w.freeSlab m.filling).updMeas e (fun m => { m with
        results := m.results.set self (some (noisyResult peak)), filling := none }) =
      (w.freeSlab m.filling).setEngine e { s.engine e with meas := some (m.noisy self peak) } := fun w peak same => by
    rw [State.updMeas_some (m := m) (by rw [State.freeSlab_engine, same, meas]), State.freeSlab_engine, same]
    rfl
  unfold State.endNoisy
  by_cases inWord : fitsWord (noisyPeak (captureOf bits m.recipe 32)) = true
  · refine ⟨BitVec.ofInt 16 (noisyPeak (captureOf bits m.recipe 32)), s.freeCount, fun q j hj first low high => ?_, ?_⟩
    · rw [(fits q j hj first low high).2]
    · dsimp only
      rw [if_pos inWord, if_pos inWord, recorded s _ rfl]
  · refine ⟨Config.freePeak s.freeCount, s.freeCount + 1, fun q j hj first low high =>
      absurd (fits q j hj first low high).1 inWord, ?_⟩
    dsimp only
    rw [if_neg inWord, if_neg inWord, recorded { s with freeCount := s.freeCount + 1 } _ rfl]

end

end Sys2Proof.Machine

namespace Sys2Proof.Machine

theorem exec_quietTry {s : State} (working : s.working) (e : EngineNo) (bits : EchoBits) :
    exec (.quietTry e bits) s = .next (s.endTry e bits).closeEdits :=
  State.take_working working fun s => s.endTry e bits

section
variable {s : State} {e : EngineNo} {m : Measurement} {self : Pair} {bits : EchoBits}
  (working : s.working) (meas : (s.engine e).meas = some m) (phase : m.phase = .quietCheck 2 .capturing)
  (pair : m.pair = some self)
  (busy : ∃ q j, j < 32 ∧ m.recipe.decimation ^ m.recipe.order ≤ 2 * (tryOutput bits m.recipe q j).natAbs)
include working meas phase pair busy

/-- The third busy try (R91). -/
theorem exec_quietTry_noisy : ∃ peak count, isTryPeak bits m.recipe peak ∧
    exec (.quietTry e bits) s = .next (((({ s with freeCount := count } : State).freeSlab m.filling).setEngine e
        { s.engine e with meas := some (m.noisy self peak) }).goOn e (nextPair m.recipe self)).closeEdits := by
  obtain ⟨peak, count, isPeak, ended⟩ := State.endNoisy_eq (self := self) (bits := bits) meas
  refine ⟨peak, count, isPeak, ?_⟩
  rw [exec_quietTry working, State.endTry_eq meas phase pair, if_pos (isBusy_captureOf.mpr busy),
    if_neg (by decide), ended]

/-- The last pair NOISY (R87, R91). -/
theorem quietTry_lastEnds (closed : s.editsClosed) (last : nextPair m.recipe self = none) (hm : s.memOk) {g : Grant}
    (grant : s.grant e = some g) (port : g.request.port = m.holder) : ∃ peak, isTryPeak bits m.recipe peak ∧
      s.measurementEnds (.quietTry e bits) e m (m.results.set self (some ⟨.noisy, none, peak, none, 3, none⟩)) m.flags
        fun t cells => s.memKeptFreeing t cells m.filling := by
  obtain ⟨peak, count, isPeak, taken⟩ := exec_quietTry_noisy working meas phase pair busy
  rw [last, State.goOn_last] at taken
  have hm' : ({ s with freeCount := count } : State).memOk := hm
  refine ⟨peak, isPeak, (State.Completes.of_memory (w := ({ s with freeCount := count } : State).freeSlab m.filling) 
    (n := { m.noisy self peak with pair := none }) grant port
    ⟨_, _, State.freeSlab_parts _ m.filling⟩ (State.memOk_freeSlab hm' _) rfl rfl fun _ => rfl).ends closed meas taken
    fun t cells kept => ?_⟩
  have reads := State.readMem_freeSlab hm' m.filling
  refine ⟨fun a far free => ((kept a far).trans (reads a)).trans (if_neg fun ⟨l, hl, same⟩ => free l hl same.symm),
    fun k hk => ((kept _ fun c _ => ownerAddr_not_inCellHead k c).trans (reads _)).trans (if_pos ⟨k, hk, rfl⟩)⟩

/-- The next pair after a NOISY one (R87). -/
theorem exec_quietTry_next (closed : s.editsClosed) {after : Pair} (next : nextPair m.recipe self = some after) :
    ∃ peak count, isTryPeak bits m.recipe peak ∧ exec (.quietTry e bits) s = .next (if m.recipe.trace then
      ((({ s with freeCount := count } : State).freeSlab m.filling).setEngine e { s.engine e with
        meas := some ((m.noisy self peak).atPair after) }).allocateSlab e
    else (({ s with freeCount := count } : State).freeSlab m.filling).setEngine e { s.engine e with
        meas := some ((m.noisy self peak).atPair after) }) := by
  obtain ⟨peak, count, isPeak, taken⟩ := exec_quietTry_noisy working meas phase pair busy
  refine ⟨peak, count, isPeak, taken.trans (congrArg _ ?_)⟩
  rw [next, State.goOn_next]
  have ports := congrArg State.ports (State.freeSlab_parts ({ s with freeCount := count } : State) m.filling)
  exact State.closeEdits_of_ports closed ((State.pairStarted_ports ..).trans ports)

end

end Sys2Proof.Machine

namespace Sys2Proof.Machine

section
variable {s w : State} {e : EngineNo} {m n : Measurement} {k : SlabNo} (ok : s.grantsOk)
  (meas : (s.engine e).meas = some m) (own : m.filling = some k) (none : n.filling = none)
  (engines : w.engines = s.engines)
include ok meas own none engines

/-- The slab of the pair before may be taken again (R83, R88, R89). -/
theorem State.slabFreed_open (freed : w.readMem (ownerAddr k) = 0) :
    (w.setEngine e { s.engine e with meas := some n }).slabOpen k := by
  refine ⟨freed, ?_⟩
  rw [← Bool.not_eq_true, State.slabFilling_iff]
  rintro ⟨f, m', hm', fills⟩
  rw [State.engine_setEngine] at hm'
  split_ifs at hm' with same
  · rw [← Option.some.inj hm', none] at fills
    cases fills
  · have engine : w.engine f = s.engine f := congrArg (·[f]) engines
    exact same (ok.oneFilling e f m m' k meas (engine ▸ hm') own fills)

end

section
variable {s : State} {e : EngineNo} {m : Measurement} {self after : Pair} {bits : EchoBits} {k : SlabNo}
  (working : s.working) (closed : s.editsClosed) (meas : (s.engine e).meas = some m)
  (phase : m.phase = .quietCheck 2 .capturing) (pair : m.pair = some self)
  (busy : ∃ q j, j < 32 ∧ m.recipe.decimation ^ m.recipe.order ≤ 2 * (tryOutput bits m.recipe q j).natAbs)
  (next : nextPair m.recipe self = some after)
include working closed meas phase pair busy next

/-- A traced pair after a NOISY one takes the lowest slab that is open, at the latest the one that has come free (R88). -/
theorem exec_quietTry_traced (own : m.filling = some k) (trace : m.recipe.trace = true) (hm : s.memOk) (ok : s.grantsOk) :
    ∃ t peak next, exec (.quietTry e bits) s = .next t ∧ isTryPeak bits m.recipe peak ∧
      t = { s.setEngine e { s.engine e with meas := some { m with
        results := m.results.set self (some ⟨.noisy, none, peak, none, 3, none⟩), filling := some next
        pair := some after, phase := .quietCheck 0 .capturing } } with freeCount := t.freeCount, mem := t.mem } ∧
      next ≤ k ∧ t.readMem (ownerAddr next) = 1 ∧ (next ≠ k → t.readMem (ownerAddr k) = 0) ∧
      (next ≠ k → s.readMem (ownerAddr next) = 0) ∧
      (∀ a, a ≠ ownerAddr next → a ≠ ownerAddr k → t.readMem a = s.readMem a) ∧
      ∀ lower, lower < next → s.readMem (ownerAddr lower) ≠ 0 ∨ s.slabFilling lower = true := by
  obtain ⟨peak, count, isPeak, taken⟩ := exec_quietTry_next working meas phase pair busy closed next
  have hm' : ({ s with freeCount := count } : State).memOk := hm
  have memOk := State.memOk_freeSlab hm' m.filling
  have reads : ∀ a, (({ s with freeCount := count } : State).freeSlab m.filling).readMem a =
      if ∃ l, m.filling = some l ∧ ownerAddr l = a then 0 else s.readMem a := State.readMem_freeSlab hm' m.filling
  obtain ⟨mem, frame⟩ : ∃ mem, ({ s with freeCount := count } : State).freeSlab m.filling =
      { s with freeCount := count, mem := mem } := ⟨_, State.freeSlab_parts _ _⟩
  rw [if_pos trace] at taken
  generalize ({ s with freeCount := count } : State).freeSlab m.filling = w at *
  have engines : w.engines = s.engines := by rw [frame]
  have freed : w.readMem (ownerAddr k) = 0 := (reads _).trans (if_pos ⟨k, own, rfl⟩)
  have kept : ∀ a, a ≠ ownerAddr k → w.readMem a = s.readMem a := fun a far =>
    (reads a).trans (if_neg fun ⟨l, hl, same⟩ => far (by rw [← same, Option.some.inj (hl.symm.trans own)]))
  have other : ∀ l, l ≠ k → ((w.setEngine e { s.engine e with meas := some ((m.noisy self peak).atPair after) }).slabOpen l ↔
      s.slabOpen l) := fun l ne => by
    rw [State.slabOpen, State.slabOpen, State.slabFilling_remeasured engines meas rfl fun same =>
      ne (Option.some.inj (same.symm.trans own)), State.setEngine_readMem, kept _ fun same => ne (ownerAddr_inj same)]
  have mine := State.slabFreed_open (n := (m.noisy self peak).atPair after) ok meas own rfl engines freed
  cases lowest : (w.setEngine e { s.engine e with meas := some ((m.noisy self peak).atPair after) }).lowestFreeSlab with
  | none => exact absurd mine (State.lowestFreeSlab_none.mp lowest k)
  | some l =>
    obtain ⟨isOpen, below⟩ := State.lowestFreeSlab_some.mp lowest
    have atMost : l ≤ k := not_lt.mp fun above => below k above mine
    rw [State.allocateSlab_some lowest] at taken
    have written : ∀ a, (w.writeMem (ownerAddr l) 1).readMem a = if ownerAddr l = a then 1 else w.readMem a := fun a =>
      State.readMem_writeMem w _ a 1 memOk
    refine ⟨_, peak, l, taken, isPeak, ?_, atMost, (written _).trans (if_pos rfl), fun ne => ?_, fun ne => ?_,
      fun a notL notK => ?_, fun lower isLower => ?_⟩
    · rw [frame]
      rfl
    · exact (written _).trans ((if_neg fun same => ne (ownerAddr_inj same)).trans freed)
    · exact ((other l ne).mp isOpen).1
    · exact (written a).trans ((if_neg (Ne.symm notL)).trans (kept a notK))
    · have shut := mt (other lower (ne_of_lt (lt_of_lt_of_le isLower atMost))).mpr (below lower isLower)
      rw [State.slabOpen, not_and_or, Bool.not_eq_false] at shut
      exact shut

end

/-- Settles O49: the try due begins; a quiet try ends the check, a busy one waits, the third ends the pair NOISY. -/
theorem quietCheckPassesOrEndsNoisy : Obligations.QuietCheckPassesOrEndsNoisy := by
  unfold Obligations.QuietCheckPassesOrEndsNoisy
  intro s e m n self bits working closed meas held out busy isPeak noisy
  refine ⟨fun due => ?_, fun phase pair => ⟨fun quiet => ?_, fun isBusy early => ?_, ?_, ?_, ?_⟩⟩
  · have taken : exec (.quietTryStart e) s = s.take fun s => s.ifRunning fun s => s.startTry e := rfl
    rw [taken]
    refine State.take_updMeas working closed (f := fun m => { m with phase := .quietCheck n .capturing }) ?_ meas rfl
    rw [State.startTry, meas]
    dsimp only
    rw [due]
  · have ends := State.endTry_eq (bits := bits) meas phase pair
    rw [if_neg (mt isBusy_captureOf.mp quiet)] at ends
    exact State.take_updMeas (F := fun s => s.endTry e bits) working closed ends meas rfl
  · have ends := State.endTry_eq (bits := bits) meas phase pair
    rw [if_pos (isBusy_captureOf.mpr isBusy), if_pos (by omega)] at ends
    exact State.take_updMeas (F := fun s => s.endTry e bits) working closed ends meas rfl
  · intro after isBusy third none plain next
    subst third
    obtain ⟨peak, count, found, taken⟩ := exec_quietTry_next working meas phase pair isBusy closed next
    rw [plain, if_neg Bool.false_ne_true, none] at taken
    have unfilled : (m.noisy self peak).atPair after = { m with
        results := m.results.set self (noisy peak), pair := some after, phase := .quietCheck 0 .capturing } :=
      congrArg (fun f => { (m.noisy self peak).atPair after with filling := f }) none.symm
    rw [unfilled] at taken
    exact ⟨_, peak, taken, found, rfl⟩
  · intro after k isBusy third own trace next hm ok
    subst third
    exact exec_quietTry_traced working closed meas phase pair isBusy next own trace hm ok
  · intro g isBusy third last hm grant port
    subst third
    exact quietTry_lastEnds working meas phase pair isBusy closed last hm grant port

end Sys2Proof.Machine

namespace Sys2Proof.Machine

/-! ### A grant taken (R112, R84 to R88) -/

theorem exec_grantTaken {s : State} (working : s.working) (e : EngineNo) :
    exec (.grantTaken e) s = .next (s.takeGrant e).closeEdits := State.take_working working fun s => s.takeGrant e

/-- The request's old place (R112). -/
theorem insertByPlace_split (r : Request) : ∀ l : List Request, ∃ before after, l = before ++ after ∧
    (∀ r' ∈ before, r'.place ≤ r.place) ∧ (∀ r', after.head? = some r' → r.place < r'.place) ∧
      insertByPlace r l = before ++ r :: after
  | [] => ⟨[], [], rfl, nofun, nofun, rfl⟩
  | q :: rest => by
    by_cases first : r.place < q.place
    · refine ⟨[], q :: rest, rfl, nofun, fun r' hr' => ?_, if_pos first⟩
      rw [← Option.some.inj hr']
      exact first
    · obtain ⟨before, after, split, low, high, inserted⟩ := insertByPlace_split r rest
      refine ⟨q :: before, after, by rw [split, List.cons_append], fun r' hr' => ?_, high, ?_⟩
      · rcases List.mem_cons.mp hr' with rfl | hr'
        · exact Nat.le_of_not_lt first
        · exact low r' hr'
      · rw [insertByPlace, if_neg first, inserted, List.cons_append]

section
variable {s : State} {e : EngineNo} {r : Request}

theorem State.grantStands_of (grant : s.grant e = some ⟨r, false⟩) (waits : (s.port r.port).request ≠ none)
    (kept : PortMsg.withdraw ∉ (s.port r.port).outbox) : s.grantStands e ⟨r, false⟩ :=
  ⟨grant, rfl, waits, Bool.eq_false_iff.mpr (mt (Port.hasWithdrawn_iff _).mp kept)⟩

theorem exec_grantTaken_gone (working : s.working) (closed : s.editsClosed) (grant : s.grant e = some ⟨r, false⟩)
    (gone : (s.port r.port).request = none ∨ PortMsg.withdraw ∈ (s.port r.port).outbox) :
    exec (.grantTaken e) s = .next s := by
  have idle : s.takeGrant e = s := State.takeGrant_idle fun g stands => by
    obtain rfl : g = ⟨r, false⟩ := Option.some.inj (stands.grant.symm.trans grant)
    rcases gone with gone | gone
    · exact stands.waits gone
    · exact Bool.false_ne_true (stands.kept.symm.trans ((Port.hasWithdrawn_iff _).mpr gone))
  rw [exec_grantTaken working, idle, State.closeEdits_eq closed]

/-- A grant whose quad is not ready goes back (R112). -/
theorem exec_grantTaken_back (working : s.working) (closed : s.editsClosed) (stands : s.grantStands e ⟨r, false⟩)
    (ready : s.isReady (quadOf r.port) = false) : ∃ before after, s.requests = before ++ after ∧
      (∀ r' ∈ before, r'.place ≤ r.place) ∧ (∀ r', after.head? = some r' → r.place < r'.place) ∧
      exec (.grantTaken e) s =
        .next ({ s with requests := before ++ r :: after }.turnedBack e r.port).applyGrantRule := by
  obtain ⟨before, after, split, low, high, inserted⟩ := insertByPlace_split r s.requests
  have back : s.returning e ⟨r, false⟩ = ({ s with requests := before ++ r :: after } : State).turnedBack e r.port := by
    rw [State.returning, State.turnBack_eq stands.grant, ← inserted]
    rfl
  refine ⟨before, after, split, low, high, ?_⟩
  rw [exec_grantTaken working, State.takeGrant_notReady stands ready, back]
  exact congrArg _ (State.closeEdits_of_ports closed (State.applyGrantRule_ports _))

/-- The port whose request is answered (R84, R37). -/
def Port.granted (x : Port) (seq : Word) : Port :=
  { x with request := none, reportCount := seq, decoder := { x.decoder with burst := none } }

theorem State.updPort_granted (w : State) (p : PortNo) (seq : Word) :
    (w.updPort p fun x => x.granted seq) = w.setPort p ((w.port p).granted seq) := by
  have same : Port.samePage (w.port p) ((w.port p).granted seq) = true := Port.samePage_of_eq rfl rfl rfl rfl rfl
  rw [State.updPort_eq, if_pos same]

theorem State.loading_eq (s : State) (e : EngineNo) (r : Request) : s.loading e ⟨r, false⟩ =
    ((s.setGrant e (some ⟨r, true⟩)).setPort r.port ((s.port r.port).granted (nextSequence
      (s.port r.port).reportCount))).setEngine e { s.engine e with meas := some (s.loaded r.port r.kind) } := by
  show (State.updPort _ r.port fun x => x.granted _) = _
  rw [State.updPort_granted]
  rfl

/-- The load check passes (R85). -/
theorem State.loadCheck_iff (s : State) (k : ReqKind) : s.loadCheck k = true ↔
    50 ≤ (s.readMem 0x0031).toNat ∧ (s.readMem 0x0031).toNat ≤ 90 ∧
      1 ≤ (s.readMem (0x7C00 + 128 * (s.recipeFor k).pattern.val)).toNat ∧
      (s.readMem (0x7C00 + 128 * (s.recipeFor k).pattern.val)).toNat ≤ 2032 ∧
      (k.source = .job ∨ (s.recipeFor k).valid = true) := by
  have parts : s.loadCheck k = true ↔
      ((1 ≤ (s.readMem (0x7C00 + 128 * (s.recipeFor k).pattern.val)).toNat ∧
        (s.readMem (0x7C00 + 128 * (s.recipeFor k).pattern.val)).toNat ≤ 2032) ∧
        50 ≤ (s.readMem 0x0031).toNat ∧ (s.readMem 0x0031).toNat ≤ 90) ∧
      (k.source = .job ∨ (s.recipeFor k).valid = true) := by
    simp only [State.loadCheck, inRange, Bool.and_eq_true, Bool.or_eq_true, decide_eq_true_eq]
    rfl
  rw [parts]
  tauto

theorem nextSequence_eq (n : Word) : nextSequence n = if n = 0xFFFF then 1 else n + 1 := rfl

end

end Sys2Proof.Machine

namespace Sys2Proof.Machine

/-- A pattern read bit by bit (R86). -/
theorem chipsOf_eq {w : Nat → Word} {chips : List Bool}
    (bits : ∀ i, i < chips.length → chips[i]? = some ((w (1 + i / 16)).getLsbD (15 - i % 16))) :
    chipsOf w chips.length = chips := by
  refine List.ext_getElem? fun i => ?_
  by_cases h : i < chips.length
  · rw [bits i h, chipsOf, List.getElem?_map, List.getElem?_range h]
    rfl
  · rw [List.getElem?_eq_none (by simpa [chipsOf] using h), List.getElem?_eq_none (by omega)]

/-- What a request asks for (R84). -/
theorem State.asked_eq {s : State} {k : ReqKind} {recipe : Recipe} {source : Source} {tag : Option Word}
    (job : ∀ i t, k = .job i t → recipe = i ∧ source = .job ∧ tag = some t)
    (quick : k = .precheck ∨ k = .watch → tag = none ∧ recipe =
      { Recipe.ofWords (fun i => s.readMem (0x0040 + i)) with pairSet := 15, trace := false })
    (precheck : k = .precheck → source = .precheck) (watch : k = .watch → source = .watch) :
    recipe = s.recipeFor k ∧ source = k.source ∧ tag = k.tag := by
  cases k with
  | job i t => exact job i t rfl
  | precheck =>
    obtain ⟨noTag, isQuick⟩ := quick (.inl rfl)
    exact ⟨isQuick, precheck rfl, noTag⟩
  | watch =>
    obtain ⟨noTag, isQuick⟩ := quick (.inr rfl)
    exact ⟨isQuick, watch rfl, noTag⟩

section
variable {s : State} {e : EngineNo} {r : Request} (working : s.working) (closed : s.editsClosed)
  (stands : s.grantStands e ⟨r, false⟩) (ready : s.isReady (quadOf r.port) = true)
include working closed stands ready

/-- A load that passes its check starts its first pair (R84, R87). -/
theorem exec_grantTaken_loads (check : s.loadCheck r.kind = true) {self : Pair}
    (first : firstPair (s.recipeFor r.kind) = some self) :
    exec (.grantTaken e) s = .next (if (s.recipeFor r.kind).trace then
        (((s.setGrant e (some ⟨r, true⟩)).setPort r.port ((s.port r.port).granted
          (nextSequence (s.port r.port).reportCount))).setEngine e
            { s.engine e with meas := some ((s.loaded r.port r.kind).atPair self) }).allocateSlab e
      else ((s.setGrant e (some ⟨r, true⟩)).setPort r.port ((s.port r.port).granted
        (nextSequence (s.port r.port).reportCount))).setEngine e
          { s.engine e with meas := some ((s.loaded r.port r.kind).atPair self) }) := by
  have loads : s.takeGrant e = _ := (State.takeGrant_ready stands ready).trans (if_pos check)
  have start : firstPair (s.loaded r.port r.kind).recipe = some self := first
  rw [State.loading_eq, start, State.goOn_next] at loads
  have portClosed := State.editsClosed_setPort (p := r.port)
    (x := (s.port r.port).granted (nextSequence (s.port r.port).reportCount)) closed rfl
  rw [exec_grantTaken working, loads]
  exact congrArg _ (State.closeEdits_of_ports portClosed (State.pairStarted_ports ..))

omit closed in
/-- One that does not is followed by the load fault (R85). -/
theorem exec_grantTaken_faults (check : s.loadCheck r.kind ≠ true) :
    exec (.grantTaken e) s = .next (State.loadFault (((s.setGrant e (some ⟨r, true⟩)).setPort r.port
      ((s.port r.port).granted (nextSequence (s.port r.port).reportCount))).setEngine e
        { s.engine e with meas := some (s.loaded r.port r.kind) }) e).closeEdits := by
  have faults : s.takeGrant e = _ := (State.takeGrant_ready stands ready).trans (if_neg check)
  rw [exec_grantTaken working, faults, State.loading_eq]

/-- The load of a grant whose recipe asks for no trace, or for one (R84, R88). -/
theorem exec_grantTaken_measures (check : s.loadCheck r.kind = true) {self : Pair}
    (first : firstPair (s.recipeFor r.kind) = some self) {chips : List Bool}
    (pattern : chipsOf (fun i => s.readMem (patternBase (s.recipeFor r.kind).pattern + i))
      (s.patternLength (s.recipeFor r.kind).pattern) = chips) {seq : Word}
    (sequence : nextSequence (s.port r.port).reportCount = seq) :
    let loaded : State → Option SlabNo → BitVec 5 → State := fun s slab flags =>
      ((s.setGrant e (some ⟨r, true⟩)).setEngine e
        { s.engine e with meas := some (⟨r.port, r.kind.source, r.kind.tag, s.recipeFor r.kind, s.readMem 0x0031, seq,
          s.tick, chips, some self, .quietCheck 0 .capturing, slab, ⟨none, none, none, none⟩, flags⟩ :
            Measurement) }).setPort r.port ((s.port r.port).granted seq)
    let open_ : SlabNo → Prop := fun k => s.readMem (ownerAddr k) = 0 ∧
      ∀ f n, f ≠ e → (s.engine f).meas = some n → n.filling ≠ some k
    ((s.recipeFor r.kind).trace = false → exec (.grantTaken e) s = .next (loaded s none 0)) ∧
    (∀ k, (s.recipeFor r.kind).trace = true → s.memOk → open_ k → (∀ k', k' < k → ¬ open_ k') →
      exec (.grantTaken e) s = .next { loaded s (some k) 0 with mem := s.mem.write (ownerAddr k) 1 }) ∧
    ((s.recipeFor r.kind).trace = true → (∀ k, ¬ open_ k) →
      exec (.grantTaken e) s = .next { loaded s none 1 with globalNews := s.globalNews ||| 2 }) := by
  intro loaded open_
  have taken := exec_grantTaken_loads working closed stands ready check first
  have copied : (s.loaded r.port r.kind).atPair self = ⟨r.port, r.kind.source, r.kind.tag, s.recipeFor r.kind,
      s.readMem 0x0031, seq, s.tick, chips, some self, .quietCheck 0 .capturing, none, ⟨none, none, none, none⟩, 0⟩ := by
    rw [← pattern, ← sequence, Measurement.atPair, State.loaded, if_pos check]
    rfl
  rw [copied, sequence] at taken
  have opens : ∀ k, (((s.setGrant e (some ⟨r, true⟩)).setPort r.port ((s.port r.port).granted seq)).setEngine e
      { s.engine e with meas := some ⟨r.port, r.kind.source, r.kind.tag, s.recipeFor r.kind, s.readMem 0x0031, seq, s.tick,
        chips, some self, .quietCheck 0 .capturing, none, ⟨none, none, none, none⟩, 0⟩ }).slabOpen k ↔ open_ k := fun k => by
    refine and_congr_right fun _ => ?_
    rw [← Bool.not_eq_true, State.slabFilling_iff]
    constructor
    · intro none f n other hn fills
      exact none ⟨f, n, (by rw [State.engine_setEngine, if_neg (Ne.symm other)]; exact hn), fills⟩
    · rintro others ⟨f, n, hn, fills⟩
      rw [State.engine_setEngine] at hn
      split_ifs at hn with same
      · rw [← Option.some.inj hn] at fills
        cases fills
      · exact others f n (Ne.symm same) hn fills
  refine ⟨fun plain => ?_, fun k trace hm isOpen lowest => ?_, fun trace none => ?_⟩
  · rw [plain, if_neg Bool.false_ne_true] at taken
    exact taken
  · rw [if_pos trace, State.allocateSlab_some (State.lowestFreeSlab_some.mpr
      ⟨(opens k).mpr isOpen, fun k' lower => mt (opens k').mp (lowest k' lower)⟩)] at taken
    exact taken
  · rw [if_pos trace, State.allocateSlab_none (State.lowestFreeSlab_none.mpr fun k => mt (opens k).mp (none k))] at taken
    have flag : (0 : BitVec 5) ||| 1 = 1 := by decide
    dsimp only at taken
    rw [flag] at taken
    exact taken

end

end Sys2Proof.Machine

namespace Sys2Proof.Machine

/-! ### The load fault (R85) -/

/-- The part with a grant accepted and RECIPE_FAULT raised, engine e measuring m, but for the port. -/
def State.faulted (s : State) (e : EngineNo) (r : Request) (m : Measurement) : State :=
  (({ s with globalNews := s.globalNews ||| 8 } : State).setGrant e (some ⟨r, true⟩)).setEngine e
    { s.engine e with meas := some m }

section
variable {s u t : State} {e : EngineNo} {r : Request} {m : Measurement}

theorem State.setGrant_setGrant (s : State) (e : EngineNo) (g h : Option Grant) :
    (s.setGrant e g).setGrant e h = s.setGrant e h := by
  unfold State.setGrant
  rw [Vector.set_set]

theorem State.faulted_frees (s : State) (e : EngineNo) (r : Request) (m : Measurement) :
    s.Frees (s.faulted e r m) e r.port where
  grant := ⟨⟨r, true⟩, (State.grant_setGrant ..).trans (if_pos rfl), rfl⟩
  freed := by
    have engine : (s.faulted e r m).engine e = { s.engine e with meas := some m } := State.engine_setEngine_self ..
    have emptied : (s.faulted e r m).setEngine e { s.engine e with meas := none } =
        (({ s with globalNews := s.globalNews ||| 8 } : State).setGrant e (some ⟨r, true⟩)).setEngine e
          { s.engine e with meas := none } := State.setEngine_setEngine ..
    rw [State.freed, engine]
    show ((((s.faulted e r m).setEngine e { s.engine e with meas := none }).setGrant e none).setClaim _ _) = _
    rw [emptied]
    show ((((({ s with globalNews := s.globalNews ||| 8 } : State).setGrant e (some ⟨r, true⟩)).setGrant e none).setEngine e
      { s.engine e with meas := none }).setClaim _ _) = _
    rw [State.setGrant_setGrant]
    rfl
  ready := rfl

/-- A choice by the source, case by case. -/
theorem Source.of_cases {v a b c : State} (src : Source) (h : v = match src with
    | .job => a | .precheck => b | .watch => c) :
    (src = .job → v = a) ∧ (src = .precheck → v = b) ∧ (src = .watch → v = c) := by
  cases src with
  | job => exact ⟨fun _ => h, nofun, nofun⟩
  | precheck => exact ⟨nofun, fun _ => h, nofun⟩
  | watch => exact ⟨nofun, nofun, fun _ => h⟩

/-- The load fault, by the source of the measurement (R85). -/
theorem State.loadFault_parts (y : Port) (n : Measurement) :
    let v := ((s.setGrant e (some ⟨r, true⟩)).setPort r.port y).setEngine e { s.engine e with meas := some n }
    let m : Measurement := { n with flags := 8 }
    let b := (s.faulted e r m).setPort r.port y
    (n.source = .job → v.loadFault e = b.finishJob e m) ∧
      (n.source = .precheck → v.loadFault e = b.finishPrecheck e m 15) ∧
      (n.source = .watch → v.loadFault e = b.release e) := by
  intro v m b
  have engine : (v.raiseGlobal .recipeFault).engine e = { s.engine e with meas := some n } :=
    State.engine_setEngine_self ..
  have flagged : (v.raiseGlobal .recipeFault).updMeas e (fun m => { m with flags := flagLoadFault }) = b := by
    rw [State.updMeas_some (m := n) (by rw [engine]), engine]
    exact State.setEngine_setEngine ((({ s with globalNews := s.globalNews ||| 8 } : State).setGrant e
      (some ⟨r, true⟩)).setPort r.port y) e _ _
  have fault := State.loadFault_eq (s := v) (e := e) (m := n) (by rw [State.engine_setEngine_self])
  dsimp only at fault
  rw [flagged] at fault
  exact Source.of_cases n.source fault

end

end Sys2Proof.Machine

namespace Sys2Proof.Machine

section
variable {s u t : State} {e : EngineNo} {r : Request} {m : Measurement} {y : Port}

theorem State.faulted_rest (s : State) (e : EngineNo) (r : Request) (m : Measurement) :
    ((s.faulted e r m).release e).tick = s.tick ∧
      (∀ q, ((s.faulted e r m).release e).isReady q = s.isReady q) ∧
      (∀ q, ((s.faulted e r m).release e).port q = s.port q) ∧
      (∀ a, ((s.faulted e r m).release e).readMem a = s.readMem a) ∧
      (∀ d, ((s.faulted e r m).release e).custodyOf d = s.custodyOf d) ∧
      (((s.faulted e r m).release e).memOk ↔ s.memOk) := by
  obtain ⟨tick, ready, port, reads, custody, memOk⟩ := (s.faulted_frees e r m).rest
  exact ⟨tick, fun q => ready q, fun q => port q, fun a => reads a, fun d => custody d, memOk⟩

/-- What the host sees of a load fault. -/
theorem State.faulted_seen {cells : List CellNo} (only : ((s.faulted e r m).release e).OnlyCells u cells) (z : Port) :
    u.setPort r.port z = { s with
      mem := (u.setPort r.port z).mem, custody := (u.setPort r.port z).custody
      engines := (u.setPort r.port z).engines, grants := (u.setPort r.port z).grants
      claims := (u.setPort r.port z).claims, requests := (u.setPort r.port z).requests
      globalNews := s.globalNews ||| 8, ports := s.ports.set r.port ((u.setPort r.port z).port r.port) } ∧
    s.releasedIn (u.setPort r.port z) e r.port ∧ s.memKeptFreeing (u.setPort r.port z) cells none ∧
    ∀ d, d ∉ cells → (u.setPort r.port z).custodyOf d = s.custodyOf d := by
  obtain ⟨-, -, -, reads, custody, -⟩ := s.faulted_rest e r m
  have frees := s.faulted_frees e r m
  refine ⟨?_, ?_, ⟨fun a far _ => (only.kept a far).trans (reads a), nofun⟩,
    fun d hd => (only.custody d hd).trans (custody d)⟩
  · obtain ⟨mem, custodies, frame⟩ := only.frame
    have released := frees.release_frame
    rw [State.port_setPort_self]
    generalize (s.faulted e r m).release e = b at *
    subst frame
    rw [released]
    rfl
  · obtain ⟨mem, custodies, frame⟩ := only.frame
    rw [frame]
    exact frees.releasedIn

/-- The port that no engine held is held by none after a release (R104). -/
theorem State.Frees.engineOf_free {b : State} {p : PortNo} (h : s.Frees b e p) (free : s.engineOf p = none) :
    (b.release e).engineOf p = none := by
  refine State.engineOf_eq_none_of fun f n hn held => ?_
  have engines : (b.release e).engines = (s.freed e p).engines := h.releasedIn.1.trans (State.applyGrantRule_engines _)
  have found : ((s.freed e p).engine f).meas = some n := (congrArg (fun v => v[f].meas) engines).symm.trans hn
  rw [State.freed_meas] at found
  split_ifs at found
  exact State.engineOf_eq_none free found held

theorem State.faulted_moves (same : Port.samePage (s.port r.port) y = true)
    (count : y.editCount = (s.port r.port).editCount) :
    Moves false (s.faulted e r m) ((s.faulted e r m).setPort r.port y) r.port y :=
  ⟨y, rfl, .refl _, .inr ⟨count, same⟩, nofun⟩

end

end Sys2Proof.Machine

namespace Sys2Proof.Machine

section
variable {s : State} {e : EngineNo} {r : Request} (working : s.working) (closed : s.editsClosed)
  (stands : s.grantStands e ⟨r, false⟩) (ready : s.isReady (quadOf r.port) = true) (check : s.loadCheck r.kind ≠ true)
  (hm : s.memOk)
include working closed stands ready check hm

/-- A load that fails its check, by the source of its request (R85). -/
theorem exec_grantTaken_fault :
    let x := s.port r.port
    let seq := nextSequence x.reportCount
    let y := x.granted seq
    let z := y.reported ⟨seq, some r.kind.source, r.kind.tag, s.tick, s.tick, s.readMem 0x0031, 8,
      Pairs.all ⟨.notTested, none, 0, none, 0, none⟩⟩
    let fails : State → List CellNo → Prop := fun t cells =>
      exec (.grantTaken e) s = .next t ∧ t = { s with
        mem := t.mem, custody := t.custody, engines := t.engines, grants := t.grants, claims := t.claims
        requests := t.requests, globalNews := s.globalNews ||| 8, ports := s.ports.set r.port (t.port r.port) } ∧
      s.releasedIn t e r.port ∧ s.memKeptFreeing t cells none ∧ ∀ c, c ∉ cells → t.custodyOf c = s.custodyOf c
    (∀ j later, r.kind.source = .job → x.status.state = .probe → x.jobs = j :: later →
      let v := z.jobEnded.resumed true
      s.canRunOn v later → (later = [] ∨ s.engineOf r.port = none) →
      ∃ t, fails t (j.cell :: startedCells v later) ∧ t.cellEnded j.cell 4 7 0 j.start s.tick ∧
        s.runsOn t r.port later v) ∧
    (r.kind.source = .precheck → x.status.state = .check → x.jobless ∨ x.settled ∧ x.status.offerSet ≠ 0 →
      ∃ t, fails t [] ∧
        t.port r.port = ({ z with status := { z.status with qualSet := 15 } } : Port).attemptStarted true) ∧
    (r.kind.source = .watch → ∃ t, fails t [] ∧ t.port r.port = y) := by
  intro x seq y z fails
  have taken := exec_grantTaken_faults working stands ready check
  obtain ⟨job, precheck, watch⟩ := State.loadFault_parts (s := s) (e := e) (r := r) y (s.loaded r.port r.kind)
  have holder : ({ s.loaded r.port r.kind with flags := 8 } : Measurement).holder = r.port := rfl
  have report : ({ s.loaded r.port r.kind with flags := 8 } : Measurement).reportAt s.tick = ⟨seq, some r.kind.source,
      r.kind.tag, s.tick, s.tick, s.readMem 0x0031, 8, Pairs.all ⟨.notTested, none, 0, none, 0, none⟩⟩ := rfl
  generalize ({ s.loaded r.port r.kind with flags := 8 } : Measurement) = m at *
  have written : y.reported (m.reportAt (s.faulted e r m).tick) = z := congrArg y.reported report
  have isReady' : (s.faulted e r m).isReady (quadOf r.port) = true := ready
  obtain ⟨tick, isReady, port, -, -, memOk⟩ := s.faulted_rest e r m
  have frees := s.faulted_frees e r m
  have moves := State.faulted_moves (s := s) (e := e) (r := r) (m := m) (y := y)
    (Port.samePage_of_eq rfl rfl rfl rfl rfl) rfl
  have closedRelease : ((s.faulted e r m).release e).editsClosed := fun q => by
    rw [port]
    exact closed q
  have start : ((s.faulted e r m).release e).OnlyCells _ [] := .start (memOk.mpr hm)
  refine ⟨fun j later isJob probe jobs => ?_, fun isPrecheck inCheck stays => ?_, fun isWatch => ?_⟩
  · intro v can free
    rw [job isJob] at taken
    obtain ⟨u, moved, cells, ended, starts⟩ := moves.finishJob frees holder probe (j := j) (later := later) jobs hm
      (can.once jobs) (v := v) (by rw [written, isReady']) (by
        rcases can with none | ⟨-, -, short, allowed⟩
        · exact .inl none
        · exact free.imp id fun free => ⟨frees.engineOf_free free, short, allowed⟩)
    rw [isReady'] at moved
    rw [tick] at ended starts
    rw [moved.close_jobEnds cells.frame closedRelease, port] at taken
    refine ⟨_, ⟨taken, State.faulted_seen cells _⟩, ended, starts, ?_⟩
    rw [State.port_setPort_self, ready]
    rfl
  · rw [precheck isPrecheck] at taken
    obtain ⟨w, finish, moved⟩ := moves.finishPrecheck (e := e) (m := m) holder inCheck 15
    rw [finish] at taken
    rw [written] at moved
    have settled : y.settled := stays.elim (fun jobless => .inl jobless.1) fun ⟨settled, _⟩ => settled
    have attempt := (moved.startAttempt (stays.imp (Port.runsTrain_jobless (x := z.qualified 15)) fun ⟨_, some_⟩ => by
      show x.status.offerSet &&& 15 ≠ 0
      rw [show (15 : BitVec 4) = BitVec.allOnes 4 from rfl, BitVec.and_allOnes]
      exact some_)).startJobs_settled (Port.settled_attemptStarted (x := z.qualified 15) settled _)
    rw [isReady, ready] at attempt
    rw [attempt.close_counted closedRelease (.refl _) (by rw [port]; exact (Port.attemptStarted_parts (z.qualified 15) true).1)] at taken
    exact ⟨_, ⟨taken, State.faulted_seen start _⟩, State.port_setPort_self ..⟩
  · rw [watch isWatch, State.release_setPort] at taken
    rw [State.closeEdits_setPort_plain closedRelease (by rw [port]; rfl)] at taken
    exact ⟨_, ⟨taken, State.faulted_seen start _⟩, State.port_setPort_self ..⟩

end

/-- Settles O48: a grant is ignored, turned back, or loads, and the load passes its check or ends in a load fault. -/
theorem grantLoadsEngine : Obligations.GrantLoadsEngine := by
  unfold Obligations.GrantLoadsEngine
  intro s e r working closed grant p x
  refine ⟨exec_grantTaken_gone working closed grant, fun waits kept unready =>
    exec_grantTaken_back working closed (State.grantStands_of grant waits kept) unready, ?_⟩
  intro recipe source tag waits kept ready job quick precheck watch base seq passes y
  have stands := State.grantStands_of grant waits kept
  obtain ⟨rfl, rfl, rfl⟩ := State.asked_eq job quick precheck watch
  have check : s.loadCheck r.kind = true ↔ passes := s.loadCheck_iff r.kind
  refine ⟨fun self chips pass first length bits => ?_, fun fault hm => ?_⟩
  · have pattern : chipsOf (fun i => s.readMem (patternBase (s.recipeFor r.kind).pattern + i))
        (s.patternLength (s.recipeFor r.kind).pattern) = chips := by
      have same : s.patternLength (s.recipeFor r.kind).pattern = chips.length := length.symm
      rw [same]
      refine chipsOf_eq fun i hi => (bits i hi).trans ?_
      rw [← Nat.add_assoc]
      rfl
    exact exec_grantTaken_measures working closed stands ready (check.mpr pass) first pattern rfl
  · exact exec_grantTaken_fault working closed stands ready (mt check.mp fault) hm

end Sys2Proof.Machine


/-! ## Frames of the management port (R155) -/

namespace Sys2Proof.Machine

theorem ofBits_concat (bits : List Bool) (b : Bool) : ofBits (bits ++ [b]) = 2 * ofBits bits + flagBit b := by
  rw [ofBits, ofBits, List.foldl_append]
  rfl

/-- The last n bits of a number, most significant first, are that number. -/
theorem ofBits_testBits (n x : Nat) : ofBits ((List.range n).map fun i => x.testBit (n - 1 - i)) = x % 2 ^ n := by
  induction n generalizing x with
  | zero => rw [Nat.pow_zero, Nat.mod_one]; rfl
  | succ n ih =>
    have upper : ((List.range n).map fun i => x.testBit (n + 1 - 1 - i)) =
        (List.range n).map fun i => (x / 2).testBit (n - 1 - i) := by
      refine List.map_congr_left fun i hi => ?_
      have low := List.mem_range.mp hi
      rw [Nat.testBit_div_two]
      congr 1
      omega
    have last : flagBit (x.testBit (n + 1 - 1 - n)) = x % 2 := by
      rw [Nat.add_sub_cancel, Nat.sub_self, Nat.testBit_zero, flagBit]
      rcases Nat.mod_two_eq_zero_or_one x with h | h <;> simp [h]
    rw [List.range_succ, List.map_append, List.map_singleton, ofBits_concat, upper, ih, last, Nat.pow_succ',
      Nat.mod_mul]
    omega

@[simp] theorem wordBits_length (w : Word) : (wordBits w).length = 16 := rfl

theorem wordBits_getElem? (w : Word) {j : Nat} (h : j < 16) : (wordBits w)[j]? = some (w.getLsbD (15 - j)) := by
  rw [wordBits, List.getElem?_map, List.getElem?_range h]
  rfl

theorem ofBits_wordBits (w : Word) : ofBits (wordBits w) = w.toNat :=
  (ofBits_testBits 16 w.toNat).trans (Nat.mod_eq_of_lt w.isLt)

/-- The header's 15 address bits. -/
theorem ofBits_addressBits (a : Addr) : ofBits (wordBits (a.setWidth 16)).tail = a.toNat := by
  have tail : (wordBits (a.setWidth 16)).tail = (List.range 15).map fun i => (a.setWidth 16).toNat.testBit (15 - 1 - i) :=
    rfl
  have wide : (a.setWidth 16 : Word).toNat = a.toNat := by
    rw [BitVec.toNat_setWidth]
    exact Nat.mod_eq_of_lt (by have := a.isLt; omega)
  rw [tail, ofBits_testBits, wide]
  exact Nat.mod_eq_of_lt a.isLt

section Blocks
variable {α β : Type} {f : α → List β} {k : Nat}

theorem flatMap_length_of_blocks (len : ∀ x, (f x).length = k) (xs : List α) :
    (xs.flatMap f).length = k * xs.length := by
  induction xs with
  | nil => rfl
  | cons x xs ih => rw [List.flatMap_cons, List.length_append, len, ih, List.length_cons, Nat.mul_succ, Nat.add_comm]

theorem flatMap_drop_of_blocks (len : ∀ x, (f x).length = k) (xs : List α) (i : Nat) :
    (xs.flatMap f).drop (k * i) = (xs.drop i).flatMap f := by
  induction xs generalizing i with
  | nil => simp
  | cons x xs ih =>
    cases i with
    | zero => rfl
    | succ i =>
      have step : k * (i + 1) = (f x).length + k * i := by rw [len, Nat.mul_succ, Nat.add_comm]
      rw [List.flatMap_cons, step, List.drop_length_add_append, ih, List.drop_succ_cons]

/-- Block i of a row of blocks of one length. -/
theorem flatMap_take_of_blocks (len : ∀ x, (f x).length = k) {xs : List α} {i : Nat} {x : α} (at_ : xs[i]? = some x)
    (rest : List β) : ((xs.flatMap f ++ rest).drop (k * i)).take k = f x := by
  obtain ⟨low, rfl⟩ := List.getElem?_eq_some_iff.mp at_
  have within : k * i ≤ (xs.flatMap f).length := by
    rw [flatMap_length_of_blocks len]
    exact Nat.mul_le_mul_left k low.le
  rw [List.drop_append_of_le_length within, flatMap_drop_of_blocks len, List.drop_eq_getElem_cons low,
    List.flatMap_cons, List.append_assoc, ← len xs[i], List.take_left]

theorem flatMap_getElem?_of_blocks (len : ∀ x, (f x).length = k) {xs : List α} {i j : Nat} {x : α}
    (at_ : xs[i]? = some x) (h : j < k) : (xs.flatMap f)[k * i + j]? = (f x)[j]? := by
  rw [← flatMap_take_of_blocks len at_ [], List.append_nil, List.getElem?_take_of_lt h, List.getElem?_drop]

end Blocks

/-- A frame's first 16 bits: the direction and the address. -/
def frameHeader (read : Bool) (a : Addr) : List Bool := read :: (wordBits (a.setWidth 16)).tail

@[simp] theorem frameHeader_length (read : Bool) (a : Addr) : (frameHeader read a).length = 16 := rfl

theorem frameIsRead_header (read : Bool) (a : Addr) (bits : List Bool) :
    frameIsRead (frameHeader read a ++ bits) = some read := by
  rw [frameIsRead, if_pos (by rw [List.length_append, frameHeader_length]; omega)]
  rfl

theorem frameIsRead_short {bits : List Bool} (h : bits.length < 16) : frameIsRead bits = none :=
  if_neg (by omega)

theorem frameAddr_header (read : Bool) (a : Addr) (bits : List Bool) (i : Nat) :
    frameAddr (frameHeader read a ++ bits) i = a + BitVec.ofNat 15 i := by
  have address : ((frameHeader read a ++ bits).drop 1).take 15 = (wordBits (a.setWidth 16)).tail :=
    List.take_left' rfl
  rw [frameAddr, address, ofBits_addressBits, BitVec.ofNat_add, BitVec.ofNat_toNat, BitVec.setWidth_eq]

theorem frameWords_header (read : Bool) (a : Addr) (ws : List Word) {part : List Bool} (h : part.length < 16) :
    frameWords (frameHeader read a ++ ws.flatMap wordBits ++ part) = ws := by
  have count : (frameHeader read a ++ ws.flatMap wordBits ++ part).length / 16 - 1 = ws.length := by
    rw [List.length_append, List.length_append, frameHeader_length, flatMap_length_of_blocks wordBits_length]
    omega
  rw [frameWords, count]
  refine List.ext_getElem (by rw [List.length_map, List.length_range]) fun i low at_ => ?_
  have skip : 16 * (i + 1) = (frameHeader read a).length + 16 * i := by rw [frameHeader_length]; omega
  rw [List.getElem_map, List.getElem_range, List.append_assoc, skip, List.drop_length_add_append,
    flatMap_take_of_blocks wordBits_length (List.getElem?_eq_getElem at_), ofBits_wordBits, BitVec.ofNat_toNat,
    BitVec.setWidth_eq]

theorem frameCommands_write (a : Addr) (ws : List Word) {part : List Bool} (h : part.length < 16) :
    frameCommands (frameHeader false a ++ ws.flatMap wordBits ++ part) =
      (List.range ws.length).map fun i => writeCommand (a + BitVec.ofNat 15 i) (ws.getD i 0) := by
  rw [frameCommands, frameWords_header false a ws h, List.append_assoc, frameIsRead_header]
  simp only [frameAddr_header]

theorem frameCommands_read (a : Addr) (bits : List Bool) : frameCommands (frameHeader true a ++ bits) = [] := by
  rw [frameCommands, frameIsRead_header]

theorem frameCommands_short {bits : List Bool} (h : bits.length < 16) : frameCommands bits = [] := by
  rw [frameCommands, frameIsRead_short h]

theorem frameAnswer_write (a : Addr) (bits : List Bool) (states : List State) :
    frameAnswer (frameHeader false a ++ bits) states = List.replicate (16 + bits.length) false := by
  rw [frameAnswer, frameIsRead_header, List.length_append, frameHeader_length]

theorem frameAnswer_short {bits : List Bool} (h : bits.length < 16) (states : List State) :
    frameAnswer bits states = List.replicate bits.length false := by
  rw [frameAnswer, frameIsRead_short h]

/-- A read frame's answer: 16 zeros, then each word as fetched. -/
theorem frameAnswer_read (a : Addr) (clocks : List Bool) (fetched : Nat → State) (n : Nat) :
    frameAnswer (frameHeader true a ++ clocks) ((List.range n).map fetched) =
      (List.replicate 16 false ++
        (List.range n).flatMap fun i => wordBits ((fetched i).hostRead (a + BitVec.ofNat 15 i))).take
          (16 + clocks.length) := by
  have numbered : (List.range n).zip ((List.range n).map fetched) = (List.range n).map fun i => (i, fetched i) := by
    have both := List.zip_map' (f := id) (g := fetched) (l := List.range n)
    rwa [List.map_id] at both
  rw [frameAnswer, frameIsRead_header, List.length_append, frameHeader_length, List.length_map, List.length_range,
    numbered, List.flatMap_map]
  simp only [frameAddr_header]

/-- The row of the table that a frame's write is does what a HOST_WRITE does there. -/
theorem exec_writeCommand (a : Addr) (v : Word) (s : State) : exec (writeCommand a v) s = exec (.hostWrite a v) s := by
  have row : ∀ {i : Instr} {f : State → State}, exec i s = s.take f →
      (∀ t : State, f t = t.hostWriteTo a.toNat v) → exec i s = exec (.hostWrite a v) s := fun own same => by
    rw [own, exec_hostWrite, funext same]
  have differs : ∀ {n : Nat}, n < 2 ^ 15 → a ≠ BitVec.ofNat 15 n → a.toNat ≠ n := fun small h e =>
    h (BitVec.eq_of_toNat_eq (by rw [e, BitVec.toNat_ofNat, Nat.mod_eq_of_lt small]))
  unfold writeCommand
  split
  case isTrue h => subst h; rfl
  case isFalse h1 =>
  split
  case isTrue h =>
    obtain ⟨rfl, one⟩ : a = 2 ∧ runCommand v = 1 := by simpa using h
    exact row (f := fun t => t.run) rfl fun t => (if_pos one).symm
  case isFalse run =>
  split
  case isTrue h =>
    obtain ⟨rfl, two⟩ : a = 2 ∧ runCommand v = 2 := by simpa using h
    exact row (f := fun t => t.ifRunning State.stop) rfl fun t =>
      have notOne : runCommand v ≠ 1 := by rw [two]; decide
      (((if_neg notOne).trans (if_pos two)).symm :)
  case isFalse stop =>
  split
  case isTrue h => subst h; rfl
  case isFalse h3 =>
  split
  case isTrue h => subst h; rfl
  case isFalse h4 =>
  split
  case isTrue h => subst h; rfl
  case isFalse h5 =>
  split
  case isTrue h => subst h; rfl
  case isFalse h20 =>
  split
  next p page =>
    refine row (f := fun t => t.clearNews (some p) v) rfl fun t => ?_
    have notRun : a.toNat ≠ 2 := fun e => by
      have none : newsPortAt 2 = none := by decide
      rw [e, none] at page
      exact absurd page nofun
    unfold State.hostWriteTo
    rw [if_neg (differs (by decide) h1), if_neg notRun, if_neg (differs (by decide) h3),
      if_neg (differs (by decide) h4), if_neg (differs (by decide) h5), if_neg (differs (by decide) h20), page]
  next => rfl

/-- A HOST_WRITE to RUN CONTROL runs, stops, or has no effect. -/
theorem exec_hostWrite_runControl {s : State} (closed : s.editsClosed) (v : Word) :
    exec (.hostWrite 2 v) s =
      if fieldOf v 0 2 = 1 then exec .run s else if fieldOf v 0 2 = 2 then exec .stop s else .next s := by
  have field : fieldOf v 0 2 = runCommand v := rfl
  have run : exec .run s = s.take fun t => t.run := rfl
  have stop : exec .stop s = s.take fun t => t.ifRunning State.stop := rfl
  rw [exec_hostWrite, field, run, stop]
  by_cases one : runCommand v = 1
  · rw [if_pos one]
    exact congrArg s.take (funext fun t => (if_pos one :))
  · rw [if_neg one]
    by_cases two : runCommand v = 2
    · rw [if_pos two]
      exact congrArg s.take (funext fun t => ((if_neg one).trans (if_pos two) :))
    · rw [if_neg two]
      exact State.take_unchanged closed (((if_neg one).trans (if_neg two) :))

/-- Settles O16. -/
theorem writeFrameMakesHostWrites : Obligations.WriteFrameMakesHostWrites := by
  unfold Obligations.WriteFrameMakesHostWrites
  refine ⟨fun s a v => exec_writeCommand a v s, fun s v closed => exec_hostWrite_runControl closed v,
    fun a ws part short => ⟨frameCommands_write a ws short, ?_, frameCommands_short short,
      fun states => ⟨?_, frameAnswer_short short states⟩, fun clocks fetched n enough => ?_⟩⟩
  · rw [List.append_assoc]
    exact frameCommands_read a _
  · rw [List.append_assoc]
    refine (frameAnswer_write a _ states).trans ?_
    rw [List.length_append, flatMap_length_of_blocks wordBits_length, Nat.add_assoc]
  · intro answer
    have answered : answer = _ := frameAnswer_read a clocks fetched n
    have bits := flatMap_length_of_blocks (f := fun i => wordBits ((fetched i).hostRead (a + BitVec.ofNat 15 i)))
      (fun _ => wordBits_length _)
    rw [answered]
    refine ⟨?_, fun j low => ?_, fun i j low within => ?_⟩
    · rw [List.length_take, List.length_append, bits, List.length_replicate, List.length_range]
      omega
    · rw [List.getElem?_take_of_lt (by omega), List.getElem?_append_left (by rw [List.length_replicate]; exact low),
        List.getElem?_replicate_of_lt low]
    · have word : (List.range n)[i]? = some i := List.getElem?_range (by omega)
      rw [List.getElem?_take_of_lt (by omega), List.getElem?_append_right (by rw [List.length_replicate]; omega),
        List.length_replicate, show 16 + 16 * i + j - 16 = 16 * i + j by omega,
        flatMap_getElem?_of_blocks (fun _ => wordBits_length _) word low, wordBits_getElem? _ low]

end Sys2Proof.Machine


/-! ## Words of several fields (chapter 11) -/

namespace Sys2Proof.Machine

/-- The fields of a word, each at its lowest bit, added up. -/
def fieldSum (fields : List (Nat × Nat)) : Nat := fields.foldr (fun f acc => f.2 * 2 ^ f.1 + acc) 0

@[simp] theorem fieldSum_nil : fieldSum [] = 0 := rfl

@[simp] theorem fieldSum_cons (low value : Nat) (rest : List (Nat × Nat)) :
    fieldSum ((low, value) :: rest) = value * 2 ^ low + fieldSum rest := rfl

@[simp] theorem fieldSum_append (xs ys : List (Nat × Nat)) : fieldSum (xs ++ ys) = fieldSum xs + fieldSum ys := by
  induction xs with
  | nil => rw [List.nil_append, fieldSum_nil, Nat.zero_add]
  | cons x xs ih =>
    obtain ⟨low, value⟩ := x
    rw [List.cons_append, fieldSum_cons, fieldSum_cons, ih, Nat.add_assoc]

theorem packWord_eq (fields : List (Nat × Nat)) : packWord fields = BitVec.ofNat 16 (fieldSum fields) := rfl

theorem fieldOf_eq (w : Word) (low n : Nat) : fieldOf w low n = w.toNat / 2 ^ low % 2 ^ n := by
  rw [fieldOf, BitVec.extractLsb'_toNat, Nat.shiftRight_eq_div_pow]

theorem getLsbD_eq_fieldOf (w : Word) (i : Nat) : w.getLsbD i = decide (fieldOf w i 1 = 1) := by
  rw [fieldOf_eq, BitVec.getLsbD, Nat.testBit_eq_decide_div_mod_eq, Nat.pow_one]

theorem packWord_toNat {fields : List (Nat × Nat)} (fits : fieldSum fields < 65536) :
    (packWord fields).toNat = fieldSum fields := by
  rw [packWord_eq, BitVec.toNat_ofNat, Nat.mod_eq_of_lt fits]

theorem packWord_zero : packWord [] = 0 := rfl

theorem packWord_low (n : Nat) : packWord [(0, n)] = BitVec.ofNat 16 n := by
  rw [packWord_eq, fieldSum_cons, fieldSum_nil, Nat.pow_zero, Nat.mul_one, Nat.add_zero]

/-- A low field of k bits and one above it. -/
theorem packWord_two {low k : Nat} (h : low < 2 ^ k) (high : Nat) :
    packWord [(0, low), (k, high)] = BitVec.ofNat 16 low ||| (BitVec.ofNat 16 high <<< k) := by
  have sum : fieldSum [(0, low), (k, high)] = high <<< k ||| low := by
    rw [fieldSum_cons, fieldSum_cons, fieldSum_nil, Nat.pow_zero, Nat.mul_one, Nat.add_zero, Nat.add_comm,
      ← Nat.shiftLeft_add_eq_or_of_lt h, Nat.shiftLeft_eq]
  rw [packWord_eq, sum, BitVec.ofNat_or, BitVec.or_comm]
  congr 1
  refine BitVec.eq_of_toNat_eq ?_
  rw [BitVec.toNat_shiftLeft, BitVec.toNat_ofNat, BitVec.toNat_ofNat, Nat.shiftLeft_eq, Nat.shiftLeft_eq,
    Nat.mod_mul_mod]

theorem packWord_bytes (low high : BitVec 8) :
    packWord [(0, low.toNat), (8, high.toNat)] = low.setWidth 16 ||| (high.setWidth 16 <<< 8) := by
  rw [packWord_two low.isLt, BitVec.ofNat_toNat, BitVec.ofNat_toNat]

@[simp] theorem flagBit_true : flagBit true = 1 := rfl

@[simp] theorem flagBit_false : flagBit false = 0 := rfl

theorem flagBit_le (b : Bool) : flagBit b ≤ 1 := by cases b <;> decide

/-! A word's fields, read from its value. -/

theorem fieldOf_of_toNat {w : Word} {n low k v : Nat} (value : w.toNat = n) (h : n / 2 ^ low % 2 ^ k = v) :
    fieldOf w low k = v := by
  rw [fieldOf_eq, value, h]

/-- A remainder, with the quotient given. -/
theorem mod_of_split {q v m : Nat} (high : Nat) (h : q = v + m * high) (lt : v < m) : q % m = v := by
  rw [h, Nat.add_mul_mod_self_left, Nat.mod_eq_of_lt lt]

theorem getLsbD_of_flagBit {w : Word} {n i : Nat} {b : Bool} (value : w.toNat = n) (h : n / 2 ^ i % 2 = flagBit b) :
    w.getLsbD i = b := by
  rw [getLsbD_eq_fieldOf, fieldOf_of_toNat value h]
  cases b <;> decide

theorem getLsbD_of_one {w : Word} {n i : Nat} (value : w.toNat = n) (h : n / 2 ^ i % 2 = 1) : w.getLsbD i = true :=
  getLsbD_of_flagBit value h

theorem getLsbD_of_zero {w : Word} {n i : Nat} (value : w.toNat = n) (h : n / 2 ^ i % 2 = 0) : w.getLsbD i = false :=
  getLsbD_of_flagBit value h

/-- A word of flags, flag i at bit i. -/
theorem packWord_flags (f : Nat → Bool) {i : Nat} (h : i < 16) :
    (packWord ((List.range 16).map fun b => (b, flagBit (f b)))).getLsbD i = f i := by
  have flags : ∀ n, fieldSum ((List.range n).map fun b => (b, flagBit (f b))) < 2 ^ n ∧ ∀ j, j < n →
      (fieldSum ((List.range n).map fun b => (b, flagBit (f b)))).testBit j = f j := by
    intro n
    induction n with
    | zero => exact ⟨Nat.one_pos, fun _ low => absurd low (Nat.not_lt_zero _)⟩
    | succ n ih =>
      obtain ⟨small, bits⟩ := ih
      have sum : fieldSum ((List.range (n + 1)).map fun b => (b, flagBit (f b))) =
          2 ^ n * flagBit (f n) + fieldSum ((List.range n).map fun b => (b, flagBit (f b))) := by
        rw [List.range_succ, List.map_append, List.map_singleton, fieldSum_append, fieldSum_cons, fieldSum_nil,
          Nat.add_zero, Nat.add_comm, Nat.mul_comm]
      constructor
      · have top : 2 ^ n * flagBit (f n) ≤ 2 ^ n * 1 := Nat.mul_le_mul_left _ (flagBit_le _)
        rw [sum, Nat.pow_succ]
        omega
      · intro j low
        rw [sum, Nat.testBit_two_pow_mul_add _ small]
        split
        case isTrue below => exact bits j below
        case isFalse above =>
          obtain rfl : j = n := by omega
          rw [Nat.sub_self]
          cases f j <;> rfl
  obtain ⟨small, bits⟩ := flags 16
  rw [packWord_eq, BitVec.getLsbD, BitVec.toNat_ofNat, Nat.mod_eq_of_lt small]
  exact bits i h

/-! ### Codes -/

/-- The code of an optional value, 0 where there is none. -/
def optCode {α : Type} (code : α → Nat) (v : Option α) : Nat := (v.map code).getD 0

@[simp] theorem optCode_none {α : Type} (code : α → Nat) : optCode code none = 0 := rfl

@[simp] theorem optCode_some {α : Type} (code : α → Nat) (x : α) : optCode code (some x) = code x := rfl

theorem optCode_lt {α : Type} {code : α → Nat} {n : Nat} (pos : 0 < n) (bound : ∀ x, code x < n) (v : Option α) :
    optCode code v < n := by
  cases v with
  | none => exact pos
  | some x => exact bound x

theorem Rate.ofCode (r : Rate) : [Rate.r100M, .r1G, .r2G5, .r5G][r.code.val]? = some r := by cases r <;> rfl

theorem Role.ofCode (r : Role) : [Role.lead, .follow][r.code]? = some r := by cases r <;> rfl

theorem Role.code_lt (r : Role) : r.code < 2 := by cases r <;> decide

theorem Pair.ofCode (p : Pair) : [Pair.a, .b, .c, .d][p.code]? = some p := by cases p <;> rfl

theorem Pair.code_lt (p : Pair) : p.code < 4 := by cases p <;> decide

/-- A presence bit and a code that is 0 where it is absent. -/
theorem fieldSum_optField {α : Type} (code : α → Nat) (v : Option α) (at_ low : Nat) :
    fieldSum (optField (v.map code) at_ low) = flagBit v.isSome * 2 ^ at_ + optCode code v * 2 ^ low := by
  cases v with
  | none => rw [Option.map_none, optField, fieldSum_nil, Option.isSome_none, optCode_none, Nat.zero_mul, flagBit,
      if_neg Bool.false_ne_true, Nat.zero_mul]
  | some x => rw [Option.map_some, optField, fieldSum_cons, fieldSum_cons, fieldSum_nil, Option.isSome_some,
      optCode_some, flagBit, if_pos rfl, Nat.add_zero]

theorem PortState.ofCode (x : PortState) :
    [PortState.disabled, .check, .offer, .exchange, .verify, .linked, .backoff, .roleHold, .cableHold, .idle,
      .probe][x.code]? = some x := by cases x <;> rfl

theorem PortState.code_lt (x : PortState) : x.code < 16 := by cases x <;> decide

theorem SubPhase.ofCode (x : SubPhase) : [SubPhase.none, .lockWait, .window][x.code]? = some x := by cases x <;> rfl

theorem SubPhase.code_lt (x : SubPhase) : x.code < 4 := by cases x <;> decide

theorem AttemptResult.ofCode (x : AttemptResult) :
    [AttemptResult.none, .linked, .aborted, .roleFault, .noPartner, .exchangeUnstable, .noCommonRate, .lockTimeout,
      .lockLostInVerify, .verifyErrors, .frontEnd][x.code]? = some x := by cases x <;> rfl

theorem AttemptResult.code_lt (x : AttemptResult) : x.code < 16 := by cases x <;> decide

theorem DownReason.ofCode (x : DownReason) :
    [DownReason.lockLost, .errors, .retrainRequested, .diagnose, .hold, .stopped, .frontEnd][x.code - 1]? = some x := by
  cases x <;> rfl

theorem DownReason.code_lt (x : DownReason) : 1 ≤ x.code ∧ x.code < 16 := by cases x <;> decide

theorem PairStatus.ofCode (x : PairStatus) :
    [PairStatus.notTested, .normal, .openEnd, .short, .impedanceHigh, .impedanceLow, .crossShort,
      .noisy][x.code]? = some x := by cases x <;> rfl

theorem PairStatus.code_lt (x : PairStatus) : x.code < 16 := by cases x <;> decide

theorem Source.ofCode (x : Source) : [Source.job, .precheck, .watch][x.code - 1]? = some x := by cases x <;> rfl

theorem Source.code_lt (x : Source) : 1 ≤ x.code ∧ x.code < 256 := by cases x <;> decide

end Sys2Proof.Machine


/-! ## Records the host reads: an engine's status, a history record, a cable report -/

namespace Sys2Proof.Machine

theorem Engine.stateCode_lt (x : Engine) : x.stateCode < 4 := by
  unfold Engine.stateCode
  split
  · decide
  · split <;> decide

theorem Engine.statusWord_toNat {x : Engine} {m : Measurement} (held : x.meas = some m) :
    x.statusWord.toNat = x.stateCode + 16 * optCode Pair.code m.pair + 128 * flagBit m.pair.isSome + 256 * m.holder.val + 32768 := by
  have state := x.stateCode_lt
  have pair := optCode_lt (by decide) Pair.code_lt m.pair
  have present := flagBit_le m.pair.isSome
  have holder := m.holder.isLt
  have sum : fieldSum ([(0, x.stateCode)] ++ optField ((x.meas.bind Measurement.pair).map Pair.code) 7 4 ++
      optField (x.meas.map fun m => m.holder.val) 15 8) =
        x.stateCode + 16 * optCode Pair.code m.pair + 128 * flagBit m.pair.isSome + 256 * m.holder.val + 32768 := by
    simp only [held, Option.bind_some, fieldSum_append, fieldSum_optField, fieldSum_cons, fieldSum_nil,
      Option.isSome_some, optCode_some, flagBit_true, Nat.reducePow]
    omega
  rw [Engine.statusWord, packWord_toNat (by rw [sum]; omega), sum]

theorem Engine.shownBy_statusWord (x : Engine) : x.shownBy x.statusWord := by
  refine ⟨fun free => ?_, fun m held => ?_⟩
  · simp only [Engine.statusWord, Engine.stateCode, free]
    rfl
  · have state := x.stateCode_lt
    have pair := optCode_lt (by decide) Pair.code_lt m.pair
    have present := flagBit_le m.pair.isSome
    have holder := m.holder.isLt
    have value := Engine.statusWord_toNat held
    have phase : x.stateCode = _ := congrArg (fun meas => Engine.stateCode ⟨meas, x.unused⟩) held
    have pairField : fieldOf x.statusWord 4 2 = optCode Pair.code m.pair := fieldOf_of_toNat value (by omega)
    refine ⟨(fieldOf_of_toNat value (by omega)).trans (phase.trans rfl), fieldOf_of_toNat value (by omega),
      getLsbD_of_zero value (by omega), getLsbD_of_zero value (by omega), getLsbD_of_one value (by omega),
      fieldOf_of_toNat value (by omega), getLsbD_of_flagBit value (by omega), fun none => ?_, fun q some => ?_⟩
    · rw [pairField, none, optCode_none]
    · rw [pairField, some, optCode_some]
      exact q.ofCode

theorem HistoryRecord.shownBy_words {x : HistoryRecord} {word : Nat → Word}
    (shown : ∀ n, n < 5 → word n = x.words.getD n 0) : x.shownBy word := by
  have rate := x.rate.code.isLt
  have role := x.role.code_lt
  have present := flagBit_le x.down.isSome
  have why := optCode_lt (by decide) (fun d => (DownReason.code_lt d).2) x.down
  have value : (word 3).toNat = flagBit x.down.isSome + 2 * x.rate.code.val + 8 * x.role.code + 16 * optCode DownReason.code x.down +
      256 * flagBit x.down.isSome := by
    have sum : fieldSum ([(0, flagBit x.down.isSome), (1, x.rate.code.val), (3, x.role.code)] ++
        optField (x.down.map DownReason.code) 8 4) = flagBit x.down.isSome + 2 * x.rate.code.val + 8 * x.role.code +
          16 * optCode DownReason.code x.down + 256 * flagBit x.down.isSome := by
      rw [fieldSum_append, fieldSum_optField, fieldSum_cons, fieldSum_cons, fieldSum_cons, fieldSum_nil]
      omega
    have packed : word 3 = packWord _ := shown 3 (by decide)
    rw [packed, packWord_toNat (by rw [sum]; omega), sum]
  have whyField : fieldOf (word 3) 4 4 = optCode DownReason.code x.down :=
    fieldOf_of_toNat value (mod_of_split (flagBit x.down.isSome) (by omega) why)
  have rateField : fieldOf (word 3) 1 2 = x.rate.code.val := fieldOf_of_toNat value (mod_of_split
    (x.role.code + 2 * optCode DownReason.code x.down + 32 * flagBit x.down.isSome) (by omega) rate)
  have roleField : fieldOf (word 3) 3 1 = x.role.code := fieldOf_of_toNat value (mod_of_split
    (optCode DownReason.code x.down + 16 * flagBit x.down.isSome) (by omega) role)
  have lowBit : (word 3).getLsbD 0 = x.down.isSome := getLsbD_of_flagBit value (mod_of_split
    (x.rate.code.val + 4 * x.role.code + 8 * optCode DownReason.code x.down + 128 * flagBit x.down.isSome) (by omega)
      (by omega))
  have highBit : (word 3).getLsbD 8 = x.down.isSome :=
    getLsbD_of_flagBit value (mod_of_split 0 (by omega) (by omega))
  refine ⟨shown 0 (by decide), shown 1 (by decide), shown 2 (by decide), lowBit, highBit, ?_, ?_,
    fieldOf_of_toNat value (mod_of_split 0 (by omega) (by omega)), fun up => ?_, fun d down => ?_, ?_⟩
  · rw [rateField]
    exact x.rate.ofCode
  · rw [roleField]
    exact x.role.ofCode
  · rw [whyField, up, optCode_none]
  · rw [whyField, down, optCode_some]
    exact ⟨d.code_lt.1, d.ofCode⟩
  · have packed : word 4 = packWord [(0, x.attempts % 16), (4, x.downshifts % 16)] := shown 4 (by decide)
    rw [packed, packWord_eq, fieldSum_cons, fieldSum_cons, fieldSum_nil]
    congr 1
    omega

theorem PairResult.shownBy_words {x : PairResult} {word : Nat → Word}
    (shown : ∀ n, n < 4 → word n = x.words.getD n 0) : x.shownBy word := by
  have status := x.status.code_lt
  have cross := optCode_lt (by decide) Pair.code_lt x.crossPair
  have crossed := flagBit_le x.crossPair.isSome
  have distance := flagBit_le x.distance.isSome
  have traced := flagBit_le x.slab.isSome
  have value : (word 0).toNat = x.status.code + 16 * optCode Pair.code x.crossPair + 64 * flagBit x.crossPair.isSome +
      256 * (x.tries % 4) + 1024 * flagBit x.distance.isSome + 2048 * flagBit x.slab.isSome := by
    have sum : fieldSum ([(0, x.status.code), (8, x.tries % 4), (10, flagBit x.distance.isSome),
        (11, flagBit x.slab.isSome)] ++ optField (x.crossPair.map Pair.code) 6 4) =
          x.status.code + 16 * optCode Pair.code x.crossPair + 64 * flagBit x.crossPair.isSome + 256 * (x.tries % 4) +
            1024 * flagBit x.distance.isSome + 2048 * flagBit x.slab.isSome := by
      rw [fieldSum_append, fieldSum_optField, fieldSum_cons, fieldSum_cons, fieldSum_cons, fieldSum_cons, fieldSum_nil]
      omega
    have packed : word 0 = packWord _ := shown 0 (by decide)
    rw [packed, packWord_toNat (by rw [sum]; omega), sum]
  have statusField : fieldOf (word 0) 0 4 = x.status.code := fieldOf_of_toNat value (by omega)
  have crossField : fieldOf (word 0) 4 2 = optCode Pair.code x.crossPair := fieldOf_of_toNat value (by omega)
  have slab : word 3 = BitVec.ofNat 16 ((x.slab.map Fin.val).getD 0) := (shown 3 (by decide)).trans (packWord_low _)
  refine ⟨?_, getLsbD_of_flagBit value (by omega), fun none => ?_, fun q some => ?_, getLsbD_of_zero value (by omega),
    fieldOf_of_toNat value (by omega), getLsbD_of_flagBit value (by omega), getLsbD_of_flagBit value (by omega),
    fieldOf_of_toNat value (by omega), shown 1 (by decide), shown 2 (by decide), fun none => ?_, fun k some => ?_⟩
  · rw [statusField]
    exact x.status.ofCode
  · rw [crossField, none, optCode_none]
  · rw [crossField, some, optCode_some]
    exact q.ofCode
  · rw [slab, none]
    rfl
  · rw [slab, some]
    rfl

theorem Report.shownBy_words {x : Report} {word : Nat → Word}
    (shown : ∀ n, n < 25 → word n = x.words.getD n 0) : x.shownBy word := by
  have source := optCode_lt (by decide) (fun src => (Source.code_lt src).2) x.source
  have tagged := flagBit_le x.tag.isSome
  have value : (word 1).toNat = optCode Source.code x.source + 256 * flagBit x.tag.isSome := by
    have sum : fieldSum [(0, optCode Source.code x.source), (8, flagBit x.tag.isSome)] = optCode Source.code x.source + 256 * flagBit x.tag.isSome := by
      rw [fieldSum_cons, fieldSum_cons, fieldSum_nil]
      omega
    have packed : word 1 = packWord [(0, optCode Source.code x.source), (8, flagBit x.tag.isSome)] := shown 1 (by decide)
    rw [packed, packWord_toNat (by rw [sum]; omega), sum]
  have sourceField : fieldOf (word 1) 0 8 = optCode Source.code x.source := fieldOf_of_toNat value (by omega)
  refine ⟨shown 0 (by decide), fun none => ?_, fun src some => ?_, ?_, shown 2 (by decide), shown 3 (by decide),
    shown 4 (by decide), shown 5 (by decide), shown 6 (by decide), shown 7 (by decide), ?_, fun q => ?_⟩
  · rw [sourceField, none, optCode_none]
  · rw [sourceField, some, optCode_some]
    exact ⟨src.code_lt.1, src.ofCode⟩
  · have tagField : fieldOf (word 1) 8 8 = flagBit x.tag.isSome := fieldOf_of_toNat value (by omega)
    exact tagField
  · exact (shown 8 (by decide)).trans ((packWord_low _).trans (BitVec.ofNat_toNat _ _))
  · refine PairResult.shownBy_words fun n low => ?_
    cases q
    case a => exact (shown (9 + 4 * 0 + n) (by omega)).trans (by interval_cases n <;> rfl)
    case b => exact (shown (9 + 4 * 1 + n) (by omega)).trans (by interval_cases n <;> rfl)
    case c => exact (shown (9 + 4 * 2 + n) (by omega)).trans (by interval_cases n <;> rfl)
    case d => exact (shown (9 + 4 * 3 + n) (by omega)).trans (by interval_cases n <;> rfl)

@[simp] theorem HistoryRecord.words_length (x : HistoryRecord) : x.words.length = 5 := rfl

@[simp] theorem PairResult.words_length (x : PairResult) : x.words.length = 4 := rfl

@[simp] theorem Report.words_length (x : Report) : x.words.length = 25 := rfl

end Sys2Proof.Machine


/-! ## Port pages (11.4) -/

namespace Sys2Proof.Machine

theorem getD_append_at {α : Type} {xs ys : List α} {n : Nat} (len : xs.length = n) (i : Nat) (d : α) :
    (xs ++ ys).getD (n + i) d = ys.getD i d := by
  rw [List.getD_append_right _ _ _ _ (by omega), len, Nat.add_sub_cancel_left]

@[simp] theorem slots_length (n : Nat) (ws : List Word) : (slots n ws).length = n := by
  rw [slots, List.length_map, List.length_range]

theorem slots_getD {n i : Nat} (h : i < n) (ws : List Word) : (slots n ws).getD i 0 = ws.getD i 0 := by
  rw [slots, List.getD_eq_getElem?_getD, List.getElem?_map, List.getElem?_range h]
  rfl

theorem slots_nil_getD (n i : Nat) : (slots n []).getD i 0 = 0 := by
  by_cases h : i < n
  · rw [slots_getD h]
    rfl
  · rw [List.getD_eq_default _ _ (by rw [slots_length]; omega)]

theorem vector_toList_getD {α : Type} {n : Nat} (v : Vector α n) (i : Fin n) (d : α) :
    v.toList.getD i.val d = v[i] := by
  simp

theorem vector_toList_map_getD {α β : Type} {n : Nat} (v : Vector α n) (f : α → β) (i : Fin n) (d : β) :
    (v.toList.map f).getD i.val d = f v[i] := by
  simp

/-! ### The status area -/

section Status
variable (x : Port)

/-- Words 2 to 14: the state, the sets, the job list, the counts and the result. -/
def Port.statusHead : List Word :=
  let st := x.status
  [packWord [(0, st.state.code), (4, st.sub.code), (7, flagBit x.profile.isSome)],
    packWord ([(0, st.offerSet.toNat), (4, st.qualSet.toNat)] ++
      match st.resolved with
      | some l => [(8, 1), (9, l.rate.code.val), (11, l.role.code)]
      | none => []),
    packWord (optField (st.running.map Fin.val) 15 0),
    packWord [(0, x.jobs.length % 8)]] ++
    slots 4 (x.jobs.map fun j => BitVec.ofNat 16 j.cell.val) ++
    [packWord [(0, st.failCounts[0].toNat), (8, st.failCounts[1].toNat)],
      packWord [(0, st.failCounts[2].toNat), (8, st.failCounts[3].toNat)],
      packWord [(0, st.attempts % 16), (4, st.downshifts % 16), (8, st.seed.toNat)],
      packWord [(0, st.page.val), (4, st.presence)],
      packWord [(0, st.lastResult.code)]]

/-- Words 23 and 24. -/
def Port.statusFlags : List Word :=
  [x.status.pubMap,
    packWord [(0, x.status.split % 32), (8, flagBit x.status.lastFailed), (9, flagBit x.status.failedSince)]]

/-- Words 38 to 41. -/
def Port.statusTotals : List Word :=
  [highWord x.status.errPub, lowWord x.status.errPub, highWord x.status.unlockPub, lowWord x.status.unlockPub]

@[simp] theorem Port.statusHead_length : x.statusHead.length = 13 := by simp [Port.statusHead]

@[simp] theorem Port.statusFlags_length : x.statusFlags.length = 2 := rfl

theorem Port.statusWords_eq : x.statusWords = x.statusHead ++ ((x.status.ours.toList.map fun w => w.getD 0) ++
    ((x.status.partner.toList.map fun w => w.getD 0) ++ (x.statusFlags ++ (x.status.counters.toList ++
      x.statusTotals)))) := by
  simp only [Port.statusWords, Port.statusHead, Port.statusFlags, Port.statusTotals, List.append_assoc] <;>
    rfl

@[simp] theorem Port.statusWords_length : x.statusWords.length = 40 := by
  simp [Port.statusWords_eq, Port.statusFlags, Port.statusTotals]

theorem Port.statusWord_head {i : Nat} (h : i < 13) : x.statusWords.getD i 0 = x.statusHead.getD i 0 := by
  rw [Port.statusWords_eq, List.getD_append _ _ _ _ (by rw [Port.statusHead_length]; exact h)]

theorem Port.statusWord_ours (k : PageNo) : x.statusWords.getD (13 + k.val) 0 = x.status.ours[k].getD 0 := by
  rw [Port.statusWords_eq, getD_append_at x.statusHead_length, List.getD_append _ _ _ _ (by simp),
    vector_toList_map_getD]

theorem Port.statusWord_partner (k : PageNo) : x.statusWords.getD (17 + k.val) 0 = x.status.partner[k].getD 0 := by
  rw [Port.statusWords_eq, show 17 + k.val = 13 + (4 + k.val) by omega, getD_append_at x.statusHead_length,
    getD_append_at (by simp), List.getD_append _ _ _ _ (by simp), vector_toList_map_getD]

theorem Port.statusWord_flags {i : Nat} (h : i < 2) :
    x.statusWords.getD (21 + i) 0 = x.statusFlags.getD i 0 := by
  rw [Port.statusWords_eq, show 21 + i = 13 + (4 + (4 + i)) by omega, getD_append_at x.statusHead_length,
    getD_append_at (by simp), getD_append_at (by simp), List.getD_append _ _ _ _ h]

theorem Port.statusWord_counters (i : Fin 13) : x.statusWords.getD (23 + i.val) 0 = x.status.counters[i] := by
  rw [Port.statusWords_eq, show 23 + i.val = 13 + (4 + (4 + (2 + i.val))) by omega, getD_append_at x.statusHead_length,
    getD_append_at (by simp), getD_append_at (by simp), getD_append_at x.statusFlags_length, List.getD_append _ _ _ _ (by simp),
    vector_toList_getD]

theorem Port.statusWord_totals (i : Nat) : x.statusWords.getD (36 + i) 0 = x.statusTotals.getD i 0 := by
  rw [Port.statusWords_eq, show 36 + i = 13 + (4 + (4 + (2 + (13 + i)))) by omega,
    getD_append_at x.statusHead_length, getD_append_at (by simp), getD_append_at (by simp), getD_append_at x.statusFlags_length,
    getD_append_at (by simp)]

end Status

/-! ### The page -/

section Page
variable (x : Port)

theorem Port.pageWords_eq : x.pageWords = [x.editCount, x.news.setWidth 16] ++ (x.statusWords ++
    ([0, 0, packWord [(0, x.history.length % 8)]] ++ (slots 20 (x.history.flatMap HistoryRecord.words) ++
      (slots 7 [] ++ (x.report.words ++ slots 31 []))))) := by
  simp only [Port.pageWords, List.append_assoc]

theorem Port.pageWord_status {i : Nat} (h : i < 40) : x.pageWords.getD (2 + i) 0 = x.statusWords.getD i 0 := by
  rw [Port.pageWords_eq, getD_append_at (n := 2) rfl, List.getD_append _ _ _ _ (by rw [Port.statusWords_length]; exact h)]

theorem Port.pageWord_middle {i : Nat} (h : i < 3) :
    x.pageWords.getD (42 + i) 0 = [0, 0, packWord [(0, x.history.length % 8)]].getD i 0 := by
  rw [Port.pageWords_eq, show 42 + i = 2 + (40 + i) by omega, getD_append_at (n := 2) rfl, getD_append_at x.statusWords_length,
    List.getD_append _ _ _ _ h]

theorem Port.pageWord_history {i : Nat} (h : i < 20) :
    x.pageWords.getD (45 + i) 0 = (x.history.flatMap HistoryRecord.words).getD i 0 := by
  rw [Port.pageWords_eq, show 45 + i = 2 + (40 + (3 + i)) by omega, getD_append_at (n := 2) rfl,
    getD_append_at x.statusWords_length, getD_append_at (n := 3) rfl,
    List.getD_append _ _ _ _ (by rw [slots_length]; exact h), slots_getD h]

theorem Port.pageWord_gap {i : Nat} (h : i < 7) : x.pageWords.getD (65 + i) 0 = 0 := by
  rw [Port.pageWords_eq, show 65 + i = 2 + (40 + (3 + (20 + i))) by omega, getD_append_at (n := 2) rfl,
    getD_append_at x.statusWords_length, getD_append_at (n := 3) rfl, getD_append_at (slots_length _ _),
    List.getD_append _ _ _ _ (by rw [slots_length]; exact h), slots_nil_getD]

theorem Port.pageWord_report {i : Nat} (h : i < 25) : x.pageWords.getD (72 + i) 0 = x.report.words.getD i 0 := by
  rw [Port.pageWords_eq, show 72 + i = 2 + (40 + (3 + (20 + (7 + i)))) by omega, getD_append_at (n := 2) rfl,
    getD_append_at x.statusWords_length, getD_append_at (n := 3) rfl, getD_append_at (slots_length _ _),
    getD_append_at (slots_length _ _), List.getD_append _ _ _ _ (by rw [Report.words_length]; exact h)]

theorem Port.pageWord_tail (i : Nat) : x.pageWords.getD (97 + i) 0 = 0 := by
  rw [Port.pageWords_eq, show 97 + i = 2 + (40 + (3 + (20 + (7 + (25 + i))))) by omega, getD_append_at (n := 2) rfl,
    getD_append_at x.statusWords_length, getD_append_at (n := 3) rfl, getD_append_at (slots_length _ _),
    getD_append_at (slots_length _ _), getD_append_at x.report.words_length, slots_nil_getD]

/-- The words that hold no field read 0. -/
theorem Port.pageWord_unused {i : Nat} (h : i = 42 ∨ i = 43 ∨ 65 ≤ i ∧ i ≤ 71 ∨ 97 ≤ i ∧ i ≤ 127) :
    x.pageWords.getD i 0 = 0 := by
  rcases h with rfl | rfl | ⟨low, high⟩ | ⟨low, high⟩
  · exact x.pageWord_middle (i := 0) (by decide)
  · exact x.pageWord_middle (i := 1) (by decide)
  · obtain ⟨n, rfl⟩ := Nat.exists_eq_add_of_le low
    exact x.pageWord_gap (by omega)
  · obtain ⟨n, rfl⟩ := Nat.exists_eq_add_of_le low
    exact x.pageWord_tail n

end Page

end Sys2Proof.Machine


/-! ## What a port page shows -/

namespace Sys2Proof.Machine

section Shown
variable {x : Port} {word : Nat → Word} (shown : ∀ i, i < 128 → word i = x.pageWords.getD i 0)
include shown

theorem Port.shown_head {i : Nat} (h : i < 13) : word (2 + i) = x.statusHead.getD i 0 := by
  rw [shown _ (by omega), x.pageWord_status (by omega), x.statusWord_head h]

/-- The resolved link in word 3. -/
theorem Port.shown_resolved :
    fieldOf (word 3) 0 4 = x.status.offerSet.toNat ∧ fieldOf (word 3) 4 4 = x.status.qualSet.toNat ∧
      (x.status.resolved = none → fieldOf (word 3) 8 8 = 0) ∧
      ∀ l, x.status.resolved = some l → (word 3).getLsbD 8 = true ∧
        [Rate.r100M, .r1G, .r2G5, .r5G][fieldOf (word 3) 9 2]? = some l.rate ∧
        [Role.lead, .follow][fieldOf (word 3) 11 1]? = some l.role ∧ fieldOf (word 3) 12 4 = 0 := by
  have offer := x.status.offerSet.isLt
  have qual := x.status.qualSet.isLt
  have packed : word 3 = packWord _ := Port.shown_head shown (i := 1) (by decide)
  cases link : x.status.resolved with
  | none =>
    have value : (word 3).toNat = x.status.offerSet.toNat + 16 * x.status.qualSet.toNat := by
      have sum : fieldSum ([(0, x.status.offerSet.toNat), (4, x.status.qualSet.toNat)] ++ []) =
          x.status.offerSet.toNat + 16 * x.status.qualSet.toNat := by
        rw [List.append_nil, fieldSum_cons, fieldSum_cons, fieldSum_nil]
        omega
      rw [packed, link, packWord_toNat (by rw [sum]; omega), sum]
    exact ⟨fieldOf_of_toNat value (by omega), fieldOf_of_toNat value (by omega),
      fun _ => fieldOf_of_toNat value (by omega), nofun⟩
  | some l =>
    have rate := l.rate.code.isLt
    have role := l.role.code_lt
    have value : (word 3).toNat = x.status.offerSet.toNat + 16 * x.status.qualSet.toNat + 256 +
        512 * l.rate.code.val + 2048 * l.role.code := by
      have sum : fieldSum ([(0, x.status.offerSet.toNat), (4, x.status.qualSet.toNat)] ++
          [(8, 1), (9, l.rate.code.val), (11, l.role.code)]) =
            x.status.offerSet.toNat + 16 * x.status.qualSet.toNat + 256 + 512 * l.rate.code.val +
              2048 * l.role.code := by
        rw [fieldSum_append, fieldSum_cons, fieldSum_cons, fieldSum_cons, fieldSum_cons, fieldSum_cons, fieldSum_nil]
        omega
      rw [packed, link, packWord_toNat (by rw [sum]; omega), sum]
    have rateField : fieldOf (word 3) 9 2 = l.rate.code.val := fieldOf_of_toNat value (by omega)
    have roleField : fieldOf (word 3) 11 1 = l.role.code := fieldOf_of_toNat value (by omega)
    refine ⟨fieldOf_of_toNat value (by omega), fieldOf_of_toNat value (by omega), nofun, fun l' same => ?_⟩
    obtain rfl := Option.some.inj same
    rw [rateField, roleField]
    exact ⟨getLsbD_of_one value (by omega), l.rate.ofCode, l.role.ofCode, fieldOf_of_toNat value (by omega)⟩

/-- The state, the sub-phase and the profile bit in word 2. -/
theorem Port.shown_state :
    fieldOf (word 2) 0 4 = x.status.state.code ∧ fieldOf (word 2) 4 2 = x.status.sub.code ∧
      (word 2).getLsbD 6 = false ∧ (word 2).getLsbD 7 = x.profile.isSome ∧ fieldOf (word 2) 8 8 = 0 := by
  have state := x.status.state.code_lt
  have sub := x.status.sub.code_lt
  have present := flagBit_le x.profile.isSome
  have packed : word 2 = packWord _ := Port.shown_head shown (i := 0) (by decide)
  have value : (word 2).toNat = x.status.state.code + 16 * x.status.sub.code + 128 * flagBit x.profile.isSome := by
    have sum : fieldSum [(0, x.status.state.code), (4, x.status.sub.code), (7, flagBit x.profile.isSome)] =
        x.status.state.code + 16 * x.status.sub.code + 128 * flagBit x.profile.isSome := by
      rw [fieldSum_cons, fieldSum_cons, fieldSum_cons, fieldSum_nil]
      omega
    rw [packed, packWord_toNat (by rw [sum]; omega), sum]
  exact ⟨fieldOf_of_toNat value (by omega), fieldOf_of_toNat value (by omega), getLsbD_of_zero value (by omega),
    getLsbD_of_flagBit value (by omega), fieldOf_of_toNat value (by omega)⟩

/-- The page and the presence mask in word 13. -/
theorem Port.shown_presence :
    fieldOf (word 13) 0 2 = x.status.page.val ∧ fieldOf (word 13) 2 2 = 0 ∧ fieldOf (word 13) 8 8 = 0 ∧
      ∀ k : PageNo, (word 13).getLsbD (4 + k.val) = x.status.partner[k].isSome := by
  have page := x.status.page.isLt
  have first := flagBit_le x.status.partner[0].isSome
  have second := flagBit_le x.status.partner[1].isSome
  have third := flagBit_le x.status.partner[2].isSome
  have fourth := flagBit_le x.status.partner[3].isSome
  have packed : word 13 = packWord _ := Port.shown_head shown (i := 11) (by decide)
  have value : (word 13).toNat = x.status.page.val + 16 * flagBit x.status.partner[0].isSome +
      32 * flagBit x.status.partner[1].isSome + 64 * flagBit x.status.partner[2].isSome +
        128 * flagBit x.status.partner[3].isSome := by
    have sum : fieldSum [(0, x.status.page.val), (4, x.status.presence)] = x.status.page.val +
        16 * flagBit x.status.partner[0].isSome + 32 * flagBit x.status.partner[1].isSome +
          64 * flagBit x.status.partner[2].isSome + 128 * flagBit x.status.partner[3].isSome := by
      rw [fieldSum_cons, fieldSum_cons, fieldSum_nil, Status.presence]
      omega
    rw [packed, packWord_toNat (by rw [sum]; omega), sum]
  refine ⟨fieldOf_of_toNat value (by omega), fieldOf_of_toNat value (by omega), fieldOf_of_toNat value (by omega),
    fun k => ?_⟩
  fin_cases k
  · exact getLsbD_of_flagBit (i := 4) (b := x.status.partner[0].isSome) value (by omega)
  · exact getLsbD_of_flagBit (i := 5) (b := x.status.partner[1].isSome) value (by omega)
  · exact getLsbD_of_flagBit (i := 6) (b := x.status.partner[2].isSome) value (by omega)
  · exact getLsbD_of_flagBit (i := 7) (b := x.status.partner[3].isSome) value (by omega)

/-- The running job's cell in word 4. -/
theorem Port.shown_running : (x.status.running = none → word 4 = 0) ∧
    ∀ c, x.status.running = some c → word 4 = 0x8000 ||| BitVec.ofNat 16 c.val := by
  have packed : word 4 = packWord (optField (x.status.running.map Fin.val) 15 0) :=
    Port.shown_head shown (i := 2) (by decide)
  refine ⟨fun none => ?_, fun c some => ?_⟩
  · rw [packed, none]
    rfl
  · have small : c.val < 2 ^ 15 := by have := c.isLt; omega
    have order : packWord [(15, 1), (0, c.val)] = packWord [(0, c.val), (15, 1)] := by
      rw [packWord_eq, packWord_eq, fieldSum_cons, fieldSum_cons, fieldSum_cons, fieldSum_cons, fieldSum_nil, Nat.add_left_comm]
    rw [packed, some, Option.map_some, optField, order, packWord_two small, BitVec.or_comm]
    rfl

/-- The split and the two calibration flags in word 24. -/
theorem Port.shown_split : word 24 = BitVec.ofNat 16 (x.status.split % 32) |||
    (if x.status.lastFailed = true then 0x0100 else 0) ||| (if x.status.failedSince = true then 0x0200 else 0) := by
  have packed : word 24 = packWord [(0, x.status.split % 32), (8, flagBit x.status.lastFailed),
      (9, flagBit x.status.failedSince)] := by
    rw [shown _ (by decide)]
    exact (x.pageWord_status (i := 22) (by decide)).trans (x.statusWord_flags (i := 1) (by decide))
  have small : x.status.split % 32 < 2 ^ 8 := by omega
  have both : ∀ low a b : Nat, packWord [(0, low), (8, a), (9, b)] = packWord [(0, low), (8, a + 2 * b)] :=
    fun low a b => by
      have sum : fieldSum [(0, low), (8, a), (9, b)] = fieldSum [(0, low), (8, a + 2 * b)] := by
        simp only [fieldSum_cons, fieldSum_nil, Nat.reducePow]
        omega
      rw [packWord_eq, packWord_eq, sum]
  rw [packed, both, packWord_two small, BitVec.or_assoc]
  congr 1
  cases x.status.lastFailed <;> cases x.status.failedSince <;> rfl

/-- The attempts, the downshifts and the seed in word 12. -/
theorem Port.shown_attempts : word 12 =
    BitVec.ofNat 16 (x.status.attempts % 16 + 16 * (x.status.downshifts % 16)) ||| (x.status.seed.setWidth 16 <<< 8) := by
  have packed : word 12 = packWord _ := Port.shown_head shown (i := 10) (by decide)
  have two : packWord [(0, x.status.attempts % 16), (4, x.status.downshifts % 16), (8, x.status.seed.toNat)] =
      packWord [(0, x.status.attempts % 16 + 16 * (x.status.downshifts % 16)), (8, x.status.seed.toNat)] := by
    rw [packWord_eq, packWord_eq, fieldSum_cons, fieldSum_cons, fieldSum_cons, fieldSum_cons, fieldSum_cons,
      fieldSum_nil]
    congr 1
    omega
  rw [packed, two, packWord_two (by omega), BitVec.ofNat_toNat]

theorem Port.shown_result : (word 14).toNat = x.status.lastResult.code := by
  have packed : word 14 = packWord _ := Port.shown_head shown (i := 12) (by decide)
  have small := x.status.lastResult.code_lt
  rw [packed, packWord_low, BitVec.toNat_ofNat, Nat.mod_eq_of_lt (by omega)]

theorem Port.status_shownBy : x.status.shownBy word := by
  obtain ⟨state, sub, -, -, -⟩ := Port.shown_state shown
  obtain ⟨offer, qual, unresolved, resolved⟩ := Port.shown_resolved shown
  obtain ⟨page, gap, high, presence⟩ := Port.shown_presence shown
  have total : ∀ i, i < 4 → word (38 + i) = x.statusTotals.getD i 0 := fun i low => by
    rw [shown _ (by omega), show 38 + i = 2 + (36 + i) by omega, x.pageWord_status (by omega), x.statusWord_totals]
  refine ⟨?_, ?_, offer, qual, unresolved, resolved, (Port.shown_running shown).1, (Port.shown_running shown).2, ?_, ?_,
    Port.shown_attempts shown, page, gap, high, presence, ?_, fun k => ⟨?_, ?_⟩, ?_, Port.shown_split shown,
    fun i => ?_, total 0 (by decide), total 1 (by decide), total 2 (by decide), total 3 (by decide)⟩
  · rw [state]
    exact x.status.state.ofCode
  · rw [sub]
    exact x.status.sub.ofCode
  · exact (Port.shown_head shown (i := 8) (by decide)).trans (packWord_bytes _ _)
  · exact (Port.shown_head shown (i := 9) (by decide)).trans (packWord_bytes _ _)
  · rw [Port.shown_result shown]
    exact x.status.lastResult.ofCode
  · have low := k.isLt
    rw [shown _ (by omega), show 15 + k.val = 2 + (13 + k.val) by omega, x.pageWord_status (by omega),
      x.statusWord_ours]
  · have low := k.isLt
    rw [shown _ (by omega), show 19 + k.val = 2 + (17 + k.val) by omega, x.pageWord_status (by omega),
      x.statusWord_partner]
  · rw [shown _ (by decide)]
    exact (x.pageWord_status (i := 21) (by decide)).trans (x.statusWord_flags (i := 0) (by decide))
  · have low := i.isLt
    rw [shown _ (by omega), show 25 + i.val = 2 + (23 + i.val) by omega, x.pageWord_status (by omega),
      x.statusWord_counters]

/-- Slot i of the job list. -/
theorem Port.shown_slot {i : Nat} (h : i < 4) :
    word (6 + i) = (x.jobs.map fun j => BitVec.ofNat 16 j.cell.val).getD i 0 := by
  rw [show 6 + i = 2 + (4 + i) by omega, Port.shown_head shown (by omega), Port.statusHead]
  rw [List.append_assoc, getD_append_at (n := 4) rfl, List.getD_append _ _ _ _ (by rw [slots_length]; exact h), slots_getD h]

theorem Port.listsShownBy_page : x.listsShownBy word := by
  obtain ⟨-, -, clear, profile, high⟩ := Port.shown_state shown
  have history : ∀ i : Fin 4, ∀ n, n < 5 →
      word (45 + 5 * i.val + n) = (x.history.flatMap HistoryRecord.words)[5 * i.val + n]?.getD 0 := fun i n low => by
    have := i.isLt
    rw [shown _ (by omega), Nat.add_assoc, x.pageWord_history (by omega), List.getD_eq_getElem?_getD]
  refine ⟨clear, profile, high, ?_, ?_, fun i => ⟨fun none => ?_, fun j some => ?_⟩,
    fun i => ⟨fun none n => ?_, fun r some => HistoryRecord.shownBy_words fun n low => ?_⟩⟩
  · exact (Port.shown_head shown (i := 3) (by decide)).trans (packWord_low _)
  · exact ((shown 44 (by decide)).trans (x.pageWord_middle (i := 2) (by decide))).trans (packWord_low _)
  · rw [Port.shown_slot shown i.isLt, List.getD_eq_getElem?_getD, List.getElem?_map, none]
    rfl
  · rw [Port.shown_slot shown i.isLt, List.getD_eq_getElem?_getD, List.getElem?_map, some]
    rfl
  · have beyond : x.history.length ≤ i.val := List.getElem?_eq_none_iff.mp none
    rw [history i n.val n.isLt, List.getElem?_eq_none, Option.getD_none]
    rw [flatMap_length_of_blocks HistoryRecord.words_length]
    omega
  · rw [history i n low, flatMap_getElem?_of_blocks HistoryRecord.words_length some low, List.getD_eq_getElem?_getD]

theorem Port.report_shownBy : x.report.shownBy fun i => word (72 + i) :=
  Report.shownBy_words fun n low => by rw [shown _ (by omega), x.pageWord_report low]

end Shown

end Sys2Proof.Machine


/-! ## Host reads (R151, R155) -/

namespace Sys2Proof.Machine

/-- Addresses of the global page that show a register (11.1, 11.2). -/
def registerAddr (a : Nat) : Prop :=
  a ≤ 5 ∨ 8 ≤ a ∧ a ≤ 10 ∨ 0x10 ≤ a ∧ a ≤ 0x12 ∨ 0x20 ≤ a ∧ a ≤ 0x23 ∨ 0x60 ≤ a ∧ a ≤ 0x67

theorem State.globalWord_of_not_register {a : Nat} (s : State) (h : ¬ registerAddr a) :
    s.globalWord a = if globalStored a then s.readMem a else 0 := by
  unfold registerAddr at h
  unfold State.globalWord
  split
  case h_25 => rfl
  all_goals omega

theorem globalStored_iff (a : Nat) : globalStored a = true ↔
    a = 0x0030 ∨ a = 0x0031 ∨ (0x0040 ≤ a ∧ a ≤ 0x004A) ∨ (0x0080 ≤ a ∧ a ≤ 0x00A7) ∨ (0x0100 ≤ a ∧ a ≤ 0x019F) := by
  simp only [globalStored, inRange, Bool.or_eq_true, Bool.and_eq_true, decide_eq_true_eq, or_assoc]
  rfl

section Read
variable {s : State} {a : Addr}

theorem State.hostRead_filling (h : s.runState = .filling) (a : Addr) : s.hostRead a = 0 := by
  rw [State.hostRead, h, if_pos (by simp)]

theorem State.hostRead_global (writable : s.writable) (h : a.toNat < 0x0400) : s.hostRead a = s.globalWord a.toNat := by
  obtain ⟨released, filled⟩ := writable
  rw [State.hostRead, if_neg (by simp [released, filled]), if_pos h]

theorem State.hostRead_memory (writable : s.writable)
    (h : 0x0400 ≤ a.toNat ∧ a.toNat ≤ 0x13FF ∨ 0x2C00 ≤ a.toNat) : s.hostRead a = s.readMem a.toNat := by
  obtain ⟨released, filled⟩ := writable
  have none : (if 0x1400 ≤ a.toNat then portOf ((a.toNat - 0x1400) / 128) else none) = none := by
    split
    · exact dif_neg (by omega)
    · rfl
  rw [State.hostRead, if_neg (by simp [released, filled]), if_neg (by omega), none]

/-- Word i of a port page. -/
theorem State.hostRead_page (writable : s.writable) (p : PortNo) {i : Nat} (h : i < 128) :
    s.hostRead (BitVec.ofNat 15 (0x1400 + 128 * p.val + i)) = (s.port p).pageWords.getD i 0 := by
  obtain ⟨released, filled⟩ := writable
  have hp := p.isLt
  have address : (BitVec.ofNat 15 (0x1400 + 128 * p.val + i)).toNat = 0x1400 + 128 * p.val + i := by
    rw [BitVec.toNat_ofNat]
    omega
  have index : (0x1400 + 128 * p.val + i - 0x1400) / 128 = p.val := by omega
  have place : (0x1400 + 128 * p.val + i - 0x1400) % 128 = i := by omega
  have page : portOf p.val = some p := dif_pos hp
  rw [State.hostRead, if_neg (by simp [released, filled]), address, if_neg (by omega), if_pos (by omega), index, page,
    place]

theorem State.hostRead_stored (writable : s.writable) (h : globalStored a.toNat = true) :
    s.hostRead a = s.readMem a.toNat := by
  have region := (globalStored_iff _).mp h
  rw [State.hostRead_global writable (by omega), State.globalWord_of_not_register s (by unfold registerAddr; omega),
    if_pos h]

theorem State.hostRead_unused (writable : s.writable) (low : a.toNat < 0x0400) (free : ¬ registerAddr a.toNat)
    (unstored : ¬ globalStored a.toNat = true) : s.hostRead a = 0 := by
  rw [State.hostRead_global writable low, State.globalWord_of_not_register s free, if_neg unstored]

/-- The two words of an engine status record. -/
theorem State.hostRead_engine (writable : s.writable) (e : EngineNo) :
    s.hostRead (BitVec.ofNat 15 (0x60 + 2 * e.val)) = (s.engine e).statusWord ∧
      s.hostRead (BitVec.ofNat 15 (0x61 + 2 * e.val)) = (s.engine e).unused := by
  have he := e.isLt
  have first : (BitVec.ofNat 15 (0x60 + 2 * e.val)).toNat = 0x60 + 2 * e.val := by
    rw [BitVec.toNat_ofNat]
    omega
  have second : (BitVec.ofNat 15 (0x61 + 2 * e.val)).toNat = 0x61 + 2 * e.val := by
    rw [BitVec.toNat_ofNat]
    omega
  rw [State.hostRead_global writable (by omega), State.hostRead_global writable (by omega), first, second]
  fin_cases e <;> exact ⟨rfl, rfl⟩

theorem State.newsMapWord_bit (s : State) (p : PortNo) :
    (s.newsMapWord (p.val / 16)).getLsbD (p.val % 16) = decide ((s.port p).news ≠ 0) := by
  have port : portOf (16 * (p.val / 16) + p.val % 16) = some p := by
    rw [Nat.div_add_mod]
    exact dif_pos p.isLt
  refine (packWord_flags (fun b => match portOf (16 * (p.val / 16) + b) with
    | some p => s.newsMapBit p
    | none => false) (Nat.mod_lt _ (by decide))).trans ?_
  rw [port]
  rfl

theorem State.hostRead_newsMap (writable : s.writable) (p : PortNo) :
    (s.hostRead (BitVec.ofNat 15 (0x21 + p.val / 16))).getLsbD (p.val % 16) = decide ((s.port p).news ≠ 0) := by
  have hp := p.isLt
  have address : (BitVec.ofNat 15 (0x21 + p.val / 16)).toNat = 0x21 + p.val / 16 := by
    rw [BitVec.toNat_ofNat]
    omega
  have word : s.globalWord (0x21 + p.val / 16) = s.newsMapWord (p.val / 16) := by
    generalize block : p.val / 16 = i
    have third : i < 3 := by omega
    interval_cases i <;> rfl
  rw [State.hostRead_global writable (by omega), address, word, State.newsMapWord_bit]

theorem State.runControlWord_eq (s : State) : s.runControlWord =
    (match s.runState with | .filling => 0 | .stopped => 1 | .running => 2 | .stopping => 3) |||
      (if s.lock = true then 0x0100 else 0) := by
  unfold State.runControlWord
  cases s.runState <;> cases s.lock <;> rfl

theorem State.intakeStatusWord_eq (h : s.intakeQueue.length ≤ 16) : s.intakeStatusWord =
    BitVec.ofNat 16 s.intakeQueue.length ||| (s.intakeFlags.setWidth 16 <<< 8) := by
  rw [State.intakeStatusWord, packWord_two (by omega), Nat.mod_eq_of_lt (by omega), BitVec.ofNat_toNat]

/-- The registers of the global page. -/
theorem State.hostRead_registers (writable : s.writable) :
    s.hostRead 0 = 0x57A1 ∧ s.hostRead 1 = s.divisor ∧
      (s.hostRead 2 = (match s.runState with | .filling => 0 | .stopped => 1 | .running => 2 | .stopping => 3) |||
        (if s.lock = true then 0x0100 else 0)) ∧
      s.hostRead 3 = BitVec.ofNat 16 s.intakeQueue.length ∧
      (s.intakeQueue.length ≤ 16 →
        s.hostRead 4 = BitVec.ofNat 16 s.intakeQueue.length ||| (s.intakeFlags.setWidth 16 <<< 8)) ∧
      s.hostRead 5 = s.newsEnable.setWidth 16 ∧ s.hostRead 8 = 1 ∧ s.hostRead 9 = 48 ∧
      s.hostRead 10 = 4 ∧ s.hostRead 0x10 = s.tick.extractLsb' 16 16 ∧ s.hostRead 0x11 = s.tick.extractLsb' 0 16 ∧
      s.hostRead 0x12 = s.intakeErrors ∧ s.hostRead 0x20 = s.globalNews.setWidth 16 := by
  have read : ∀ a : Addr, a.toNat < 0x0400 → s.hostRead a = s.globalWord a.toNat :=
    fun a => State.hostRead_global writable
  exact ⟨read 0 (by decide), read 1 (by decide), (read 2 (by decide)).trans s.runControlWord_eq, read 3 (by decide),
    fun few => (read 4 (by decide)).trans (State.intakeStatusWord_eq few), read 5 (by decide), read 8 (by decide),
    read 9 (by decide), read 10 (by decide), read 0x10 (by decide), read 0x11 (by decide), read 0x12 (by decide),
    read 0x20 (by decide)⟩

/-- The words of a port page. -/
theorem State.hostRead_port (writable : s.writable) (p : PortNo) :
    s.hostRead (BitVec.ofNat 15 (0x1400 + 128 * p.val)) = (s.port p).editCount ∧
      s.hostRead (BitVec.ofNat 15 (0x1401 + 128 * p.val)) = (s.port p).news.setWidth 16 ∧
      (s.hostRead (BitVec.ofNat 15 (0x21 + p.val / 16))).getLsbD (p.val % 16) = decide ((s.port p).news ≠ 0) ∧
      let word : Nat → Word := fun i => s.hostRead (BitVec.ofNat 15 (0x1400 + 128 * p.val + i))
      (s.port p).status.shownBy word ∧ (s.port p).listsShownBy word ∧
      (s.port p).report.shownBy (fun i => word (72 + i)) ∧
      ∀ i, i = 42 ∨ i = 43 ∨ 65 ≤ i ∧ i ≤ 71 ∨ 97 ≤ i ∧ i ≤ 127 → word i = 0 := by
  have shown : ∀ i, i < 128 → s.hostRead (BitVec.ofNat 15 (0x1400 + 128 * p.val + i)) = (s.port p).pageWords.getD i 0 :=
    fun i => State.hostRead_page writable p
  refine ⟨shown 0 (by decide), ?_, State.hostRead_newsMap writable p, Port.status_shownBy shown,
    Port.listsShownBy_page shown, Port.report_shownBy shown, fun i unused => ?_⟩
  · rw [show 0x1401 + 128 * p.val = 0x1400 + 128 * p.val + 1 by omega]
    exact shown 1 (by decide)
  · exact (shown i (by omega)).trans (Port.pageWord_unused _ unused)

/-- Cells and the trace slabs read as work memory. -/
theorem State.hostRead_cell (writable : s.writable) (c : CellNo) {i : Nat} (h : i < 32) :
    s.hostRead (BitVec.ofNat 15 (0x0400 + 32 * c.val + i)) = s.cellWord c i := by
  have hc := c.isLt
  have address : (BitVec.ofNat 15 (0x0400 + 32 * c.val + i)).toNat = 0x0400 + 32 * c.val + i := by
    rw [BitVec.toNat_ofNat]
    omega
  rw [State.hostRead_memory writable (by omega), address]
  rfl

theorem State.hostRead_slab (writable : s.writable) (k : SlabNo) :
    s.hostRead (BitVec.ofNat 15 (0x0080 + k.val)) = s.readMem (ownerAddr k) ∧
      (∀ i, i < 4 → s.hostRead (BitVec.ofNat 15 (0x0100 + 4 * k.val + i)) = s.readMem (slabEntryBase k + i)) ∧
      ∀ i, i < 512 → s.hostRead (BitVec.ofNat 15 (0x2C00 + 512 * k.val + i)) = s.readMem (slabBase k + i) := by
  have hk := k.isLt
  have address : ∀ n, n < 2 ^ 15 → (BitVec.ofNat 15 n).toNat = n := fun n small => by
    rw [BitVec.toNat_ofNat, Nat.mod_eq_of_lt small]
  refine ⟨?_, fun i low => ?_, fun i low => ?_⟩
  · have owner := address (0x0080 + k.val) (by omega)
    rw [State.hostRead_stored writable (by rw [globalStored_iff]; omega), owner]
    rfl
  · have entry := address (0x0100 + 4 * k.val + i) (by omega)
    rw [State.hostRead_stored writable (by rw [globalStored_iff]; omega), entry]
    rfl
  · have sample := address (0x2C00 + 512 * k.val + i) (by omega)
    rw [State.hostRead_memory writable (by omega), sample]
    rfl

end Read

/-- Settles O15, by the region read. -/
theorem hostReadsRegisters : Obligations.HostReadsRegisters := by
  unfold Obligations.HostReadsRegisters
  refine fun s => ⟨State.hostRead_filling, fun writable => ?_, fun writable => ⟨fun a region => ?_, fun a region => ?_,
    fun c i low => State.hostRead_cell writable c low, fun k => State.hostRead_slab writable k⟩⟩
  · obtain ⟨r0, r1, r2, r3, r4, r5, r8, r9, r10, high, low, errors, news⟩ := State.hostRead_registers writable
    refine ⟨r0, r1, r2, r3, r4, r5, r8, r9, r10, high, low, errors, news, fun e => ?_, State.hostRead_port writable⟩
    obtain ⟨status, unused⟩ := State.hostRead_engine writable e
    rw [status]
    exact ⟨(s.engine e).shownBy_statusWord, unused⟩
  · have watch : a = 0x0030 → a.toNat = 0x0030 := fun h => by rw [h]; rfl
    have velocity : a = 0x0031 → a.toNat = 0x0031 := fun h => by rw [h]; rfl
    by_cases stored : globalStored a.toNat = true
    · exact State.hostRead_stored writable stored
    · have place := region.imp watch (Or.imp_left velocity)
      rw [globalStored_iff] at stored
      exact State.hostRead_memory writable (by omega)
  · exact State.hostRead_unused writable (by omega) (by unfold registerAddr; omega) (by rw [globalStored_iff]; omega)

end Sys2Proof.Machine


/-! ## A readiness fall (R4): the ports it leaves alone -/

namespace Sys2Proof.Machine

/-- A readiness fall leaves port p alone: no attempt, link or measurement, and no job that waits to start. -/
def State.calmAt (s : State) (p : PortNo) : Prop :=
  (s.port p).settled ∧
    ((s.port p).status.state = .disabled ∨ (s.port p).status.state = .backoff ∨ (s.port p).status.state = .roleHold ∨
      s.engineOf p = none ∧ ((s.port p).status.state = .check ∨ (s.port p).status.state = .probe ∨
        (s.port p).status.state = .idle ∨ (s.port p).status.state = .cableHold))

theorem State.calmAt.of_same {s t : State} {p : PortNo} (h : s.calmAt p) (jobs : (t.port p).jobs = (s.port p).jobs)
    (running : (t.port p).status.running = (s.port p).status.running)
    (state : (t.port p).status.state = (s.port p).status.state)
    (free : s.engineOf p = none → t.engineOf p = none) : t.calmAt p := by
  unfold State.calmAt Port.settled at *
  rw [jobs, running, state]
  exact ⟨h.1, h.2.imp_right (Or.imp_right (Or.imp_right (And.imp_left free)))⟩

theorem State.calmAt.of_port {s t : State} {p : PortNo} (h : s.calmAt p) (port : t.port p = s.port p)
    (free : s.engineOf p = none → t.engineOf p = none) : t.calmAt p :=
  h.of_same (by rw [port]) (by rw [port]) (by rw [port]) free

/-- A release loads no engine. -/
theorem State.release_free {s : State} {p : PortNo} (e : EngineNo) (free : s.engineOf p = none) :
    (s.release e).engineOf p = none := by
  refine State.engineOf_eq_none_of fun f m held => ?_
  have ended : ∀ a : State, (a.endGrant e).engines = a.engines := fun a => by
    unfold State.endGrant
    split <;> rfl
  have engines : (s.release e).engines = (s.setEngine e { s.engine e with meas := none }).engines :=
    (State.applyGrantRule_engines _).trans (ended _)
  have found : ((s.setEngine e { s.engine e with meas := none }).engine f).meas = some m :=
    (congrArg (fun v => v[f].meas) engines).symm.trans held
  rw [State.engine_setEngine] at found
  split_ifs at found
  exact State.engineOf_eq_none free found

section
variable {q : PortNo}

theorem calmAt_plain (q : PortNo) : KeepsPlain fun s => s.calmAt q where
  port := fun {s} p y same state h => by
    by_cases own : q = p
    · subst own
      refine h.of_same ?_ ?_ ?_ id
      · rw [State.port_setPort_self, same.places.1]
      · rw [State.port_setPort_self, same.places.2]
      · rw [State.port_setPort_self, state]
    · exact h.of_port (State.port_setPort_ne _ _ _ _ own) id

/-- What another port does leaves port q as calm as it is. -/
theorem calmAt_keptBase {p : PortNo} (other : q ≠ p) : KeptBase False False (fun s => s.calmAt q) p where
  plain := calmAt_plain q
  enter := fun _ _ _ _ h => h.of_port (State.port_setPort_ne _ _ _ _ other) id
  record := fun _ _ h => h.of_port (State.port_setPort_ne _ _ _ _ other) id
  charge := fun _ h => h.of_port (State.port_setPort_ne _ _ _ _ other) id
  ask := fun _ _ h => h.of_port (State.port_setPort_ne _ _ _ _ other) id
  transition := fun _ _ h => h.of_port (State.port_setPort_ne _ _ _ _ other) id
  endJob := fun {s} out h => h.of_port ((s.endJob_places p out).2 q other) fun free =>
    State.engineOf_eq_none_of fun e _ held => State.engineOf_eq_none free ((s.endJob_engine p out e) ▸ held)
  begin := fun _ _ _ _ h => h.of_port (State.port_updPort_ne _ other _) id
  free := fun _ h => h.of_port rfl id
  release := fun {s} e _ _ _ h => h.of_port (s.release_port e q) (State.release_free e)
  hasProfile := fun b => b.elim

theorem calmAt_kept {p : PortNo} (other : q ≠ p) : Kept False False (fun s => s.calmAt q) p :=
  { calmAt_keptBase other with
    retire := fun _ _ h => h.of_port (State.port_setPort_ne _ _ _ _ other) id
    train := fun f _ h => (calmAt_keptBase other).startTrain f
      (fun h => h.of_port (State.port_updPort_ne _ other _) id) h
    trainOk := fun _ _ b => b.elim
    recipeOk := fun _ _ _ r => r.elim }

end

/-- At a port left alone a readiness fall does nothing. -/
theorem State.calmAt.fallAt {s : State} {p : PortNo} (h : s.calmAt p) : s.fallAt p = s := by
  obtain ⟨settled, state⟩ := h
  have starts : s.startJobs p = s := State.startJobsUpTo_of_settled settled _
  unfold State.fallAt
  rcases state with st | st | st | ⟨free, st | st | st | st⟩ <;> simp only [st, starts]
  all_goals rw [free]; exact starts

theorem mem_quadPorts {p : PortNo} {q : QuadNo} : p ∈ quadPorts q ↔ quadOf p = q := by
  have hp := p.isLt
  have hq := q.isLt
  simp only [quadPorts, quadOf, List.mem_cons, List.not_mem_nil, or_false, Fin.ext_iff]
  omega

theorem quadPorts_nodup (q : QuadNo) : (quadPorts q).Nodup := by
  simp [quadPorts, Fin.ext_iff]

/-- The fall of a quad whose ports are all left alone. -/
theorem State.forEach_fallAt_calm {s : State} {q : QuadNo} (calm : ∀ p, quadOf p = q → s.calmAt p) :
    s.forEach (quadPorts q) State.fallAt = s :=
  State.forEach_keepsOn (P := fun t => t = s) (fun t p mem same => by
    rw [same]
    exact (calm p (mem_quadPorts.mp mem)).fallAt) rfl

/-- The fall of a quad with one port that is not left alone. -/
theorem State.forEach_fallAt {s : State} {p : PortNo} (calm : ∀ p', quadOf p' = quadOf p → p' ≠ p → s.calmAt p') :
    s.forEach (quadPorts (quadOf p)) State.fallAt = s.fallAt p :=
  State.forEach_at (Before := fun t => t = s) (After := fun t => t = s.fallAt p) (quadPorts_nodup _)
    (mem_quadPorts.mpr rfl)
    (fun t p' mem other same => by
      rw [same]
      exact (calm p' (mem_quadPorts.mp mem) other).fallAt)
    (fun t same => by rw [same])
    (fun t p' mem other same => by
      have stays : (s.fallAt p).calmAt p' :=
        (calmAt_kept other).lifts.fallAt (calm p' (mem_quadPorts.mp mem) other)
      rw [same, stays.fallAt])
    rfl

/-! ### The rows of the table -/

theorem exec_readinessFall (q : QuadNo) (s : State) :
    exec (.readinessFall q) s = s.take fun s => s.readinessFall q := rfl

theorem exec_readinessRise (q : QuadNo) (s : State) :
    exec (.readinessRise q) s = s.take fun s => s.readinessRise q := rfl

section Rows
variable {s : State} {q : QuadNo}

theorem exec_readinessFall_down (closed : s.editsClosed) (down : s.isReady q = false) :
    exec (.readinessFall q) s = .next s :=
  (exec_readinessFall q s).trans (State.take_unchanged closed (if_neg (by simp [down])))

theorem exec_readinessRise_up (closed : s.editsClosed) (up : s.isReady q = true) : exec (.readinessRise q) s = .next s :=
  (exec_readinessRise q s).trans (State.take_unchanged closed (if_pos up))

theorem exec_readinessFall_idle (released : s.resetPin = false) (closed : s.editsClosed) (up : s.isReady q = true)
    (idle : s.runState ≠ .running) : exec (.readinessFall q) s = .next (s.setReady q false) := by
  have falls : s.readinessFall q = s.setReady q false := (if_pos up).trans (if_neg idle)
  exact (exec_readinessFall q s).trans (State.take_plain_eq released closed falls rfl)

theorem exec_readinessRise_idle (released : s.resetPin = false) (closed : s.editsClosed) (down : s.isReady q = false)
    (idle : s.runState ≠ .running) : exec (.readinessRise q) s = .next (s.setReady q true) := by
  have rises : s.readinessRise q = s.setReady q true := (if_neg (by simp [down])).trans (if_neg idle)
  exact (exec_readinessRise q s).trans (State.take_plain_eq released closed rises rfl)

theorem State.readinessFall_running (up : s.isReady q = true) (running : s.runState = .running) :
    s.readinessFall q = (s.setReady q false).forEach (quadPorts q) State.fallAt :=
  (if_pos up).trans (if_pos running)

theorem exec_readinessFall_calm (released : s.resetPin = false) (closed : s.editsClosed) (up : s.isReady q = true)
    (running : s.runState = .running) (calm : ∀ p, quadOf p = q → s.calmAt p) :
    exec (.readinessFall q) s = .next (s.setReady q false) := by
  have falls : s.readinessFall q = s.setReady q false :=
    (State.readinessFall_running up running).trans (State.forEach_fallAt_calm calm)
  exact (exec_readinessFall q s).trans (State.take_plain_eq released closed falls rfl)

/-- Only port p is acted on. -/
theorem exec_readinessFall_at {p : PortNo} (released : s.resetPin = false) (up : s.isReady (quadOf p) = true)
    (running : s.runState = .running) (calm : ∀ p', quadOf p' = quadOf p → p' ≠ p → s.calmAt p') :
    exec (.readinessFall (quadOf p)) s = .next (((s.setReady (quadOf p) false).fallAt p).closeEdits) := by
  have falls : s.readinessFall (quadOf p) = (s.setReady (quadOf p) false).fallAt p :=
    (State.readinessFall_running up running).trans
      (State.forEach_fallAt (s := s.setReady (quadOf p) false) calm)
  rw [exec_readinessFall, State.take_released released, falls]

theorem exec_readinessRise_running (released : s.resetPin = false) (closed : s.editsClosed)
    (down : s.isReady q = false) (running : s.runState = .running) :
    exec (.readinessRise q) s = .next (s.setReady q true).applyGrantRule := by
  have rises : s.readinessRise q = (s.setReady q true).applyGrantRule :=
    (if_neg (by simp [down])).trans (if_pos running)
  exact (exec_readinessRise q s).trans (State.take_plain_eq released closed rises (State.applyGrantRule_ports _))

end Rows

end Sys2Proof.Machine


/-! ## A readiness fall: the port it acts on -/

namespace Sys2Proof.Machine

theorem State.fallAt_linked {s : State} {p : PortNo} (st : (s.port p).status.state = .linked) :
    s.fallAt p = ((s.dropLink p .frontEnd).retrainOrIdle p).startJobs p := by
  unfold State.fallAt
  rw [st]

theorem State.fallAt_attempt {s : State} {p : PortNo} (st : (s.port p).status.state = .offer ∨
    (s.port p).status.state = .exchange ∨ (s.port p).status.state = .verify) :
    s.fallAt p = (s.failAttempt p .frontEnd).startJobs p := by
  unfold State.fallAt
  rcases st with st | st | st <;> rw [st]

theorem State.fallAt_check {s : State} {p : PortNo} {e : EngineNo} (st : (s.port p).status.state = .check)
    (held : s.engineOf p = some e) :
    s.fallAt p = ((s.abortEngine e (some flagFrontEnd)).post p .precheck).startJobs p := by
  unfold State.fallAt
  rw [st, held]

theorem State.fallAt_probe {s : State} {p : PortNo} {e : EngineNo} (st : (s.port p).status.state = .probe)
    (held : s.engineOf p = some e) :
    s.fallAt p = (((s.abortEngine e (some flagFrontEnd)).endJob p .reported).resume p).startJobs p := by
  unfold State.fallAt
  rw [st, held]

theorem State.fallAt_watched {s : State} {p : PortNo} {e : EngineNo} (st : (s.port p).status.state = .idle ∨
    (s.port p).status.state = .cableHold) (held : s.engineOf p = some e) :
    s.fallAt p = (s.abortEngine e none).startJobs p := by
  unfold State.fallAt
  rcases st with st | st <;> rw [st, held]

section
variable {b : State} {p : PortNo} {e : EngineNo} {m : Measurement}

theorem State.abortEngine_silent (meas : (b.engine e).meas = some m) :
    b.abortEngine e none = (b.freeSlab m.filling).release e := by
  rw [State.abortEngine, meas]

theorem Moves.abortEngine (b : State) (meas : (b.engine e).meas = some m) (f : BitVec 5) :
    Moves true ((b.freeSlab m.filling).release e) (b.abortEngine e (some f)) m.holder
      ((b.port m.holder).reported (m.reportWith (m.flags ||| f) b.tick)) := by
  have freed := (Moves.start b m.holder).freeSlab m.filling
  have tick : (b.freeSlab m.filling).tick = b.tick := by cases m.filling <;> rfl
  rw [State.abortEngine, meas]
  dsimp only
  rw [tick]
  exact (freed.writeReport _).release e

/-- Between b and w engine e has been freed of measurement m, its holder alone has changed, and these cells. -/
def State.Fallen (b w : State) (e : EngineNo) (m : Measurement) (cells : List CellNo) : Prop :=
  w = { b with
    mem := w.mem, custody := w.custody, engines := w.engines, grants := w.grants, claims := w.claims
    requests := w.requests, ports := b.ports.set m.holder (w.port m.holder) } ∧
  b.releasedIn w e m.holder ∧ b.memKeptFreeing w cells m.filling ∧ ∀ d, d ∉ cells → w.custodyOf d = b.custodyOf d

theorem State.Released.fallen {u w : State} {cells : List CellNo} (r : b.Released b u e m) (only : u.OnlyCells w cells)
    (z : Port) : b.Fallen (w.setPort m.holder z) e m cells := by
  refine ⟨?_, ?_, ⟨fun a far free => (only.kept a far).trans (r.kept a free), fun k hk => ?_⟩,
    fun d hd => (only.custody d hd).trans (r.custodyOf d)⟩
  · have frame := r.frame
    obtain ⟨mem, custody, cellsFrame⟩ := only.frame
    rw [State.port_setPort_self]
    subst cellsFrame
    generalize u = v at *
    rw [frame]
    rfl
  · obtain ⟨mem, custody, cellsFrame⟩ := only.frame
    rw [cellsFrame]
    exact r.released
  · exact (only.kept _ fun d _ => ownerAddr_not_inCellHead k d).trans (r.freed k hk)

section Acted
variable (ok : b.grantsOk) (hm : b.memOk) (closed : b.editsClosed) (meas : (b.engine e).meas = some m)
include ok hm closed meas

/-- The state an abort of the engine leaves. -/
theorem State.abort_released : b.Released b ((b.freeSlab m.filling).release e) e m ∧
    ((b.freeSlab m.filling).release e).editsClosed := by
  have released := State.SameArbiter.released (t := b) ⟨rfl, rfl, rfl, rfl, rfl⟩ ok hm meas
  refine ⟨released, fun q => ?_⟩
  rw [released.port]
  exact closed q

/-- In CHECK the measurement ends with a report, and the port asks anew (R4, R106). -/
theorem State.fallAt_check_seen (st : (b.port m.holder).status.state = .check) (settled : (b.port m.holder).settled) :
    b.Fallen (b.fallAt m.holder).closeEdits e m [] ∧ (b.fallAt m.holder).closeEdits.port m.holder =
      { ((b.port m.holder).reported (m.reportWith (m.flags ||| 16) b.tick)).edited with
        request := some .precheck, outbox := (b.port m.holder).outbox ++ [.request .precheck] } := by
  obtain ⟨released, closedOut⟩ := State.abort_released ok hm closed meas
  have asked := ((Moves.abortEngine b meas 16).post .precheck).startJobs_settled settled
  have count : ((b.port m.holder).reported (m.reportWith (m.flags ||| 16) b.tick)).edited.editCount =
      (((b.freeSlab m.filling).release e).port m.holder).editCount + 2 := by
    rw [released.port]
    rfl
  have moved := asked.close_counted closedOut (Port.alike_edited _).symm count
  rw [State.fallAt_check st (ok.engineOf meas)]
  refine ⟨(congrArg (b.Fallen · e m []) moved).mpr (released.fallen (.start released.canonical) _), ?_⟩
  exact (congrArg (·.port m.holder) moved).trans (State.port_setPort_self ..)

/-- In IDLE and CABLE_HOLD the measurement ends without a report (R4, R105). -/
theorem State.fallAt_watched_seen (st : (b.port m.holder).status.state = .idle ∨
    (b.port m.holder).status.state = .cableHold) (settled : (b.port m.holder).settled) :
    b.Fallen (b.fallAt m.holder).closeEdits e m [] ∧
      (b.fallAt m.holder).closeEdits.port m.holder = b.port m.holder := by
  obtain ⟨released, closedOut⟩ := State.abort_released ok hm closed meas
  rw [State.fallAt_watched st (ok.engineOf meas), State.abortEngine_silent meas]
  rw [← released.port] at settled ⊢
  generalize (b.freeSlab m.filling).release e = u at *
  rw [State.startJobs_settled settled, State.closeEdits_eq closedOut]
  have fallen := released.fallen (cells := []) (.start released.canonical) (u.port m.holder)
  rw [State.setPort_port] at fallen
  exact ⟨fallen, rfl⟩

/-- In PROBE the DIAGNOSE ends with the report, and the jobs behind it start (R4, R106, R144). -/
theorem State.fallAt_probe_seen (st : (b.port m.holder).status.state = .probe) {j : Job} {later : List Job}
    (jobs : (b.port m.holder).jobs = j :: later) {v : Port}
    (hv : v = ((b.port m.holder).reported (m.reportWith (m.flags ||| 16) b.tick)).jobEnded.resumed
      (b.isReady (quadOf m.holder))) (once : ((j :: later).map Job.cell).Nodup)
    (may : later = [] ∨ v.history.length ≤ 4 ∧ ∀ j ∈ later, ∀ f, j.work = .train f → f.allowed ≠ 0) :
    let w := (b.fallAt m.holder).closeEdits
    b.Fallen w e m (j.cell :: startedCells v later) ∧ w.cellEnded j.cell 4 7 0 j.start b.tick ∧
      b.runsOn w m.holder later v := by
  obtain ⟨released, closedOut⟩ := State.abort_released ok hm closed meas
  have reported := Moves.abortEngine b meas 16
  have free := released.free ok meas
  have ended := reported.endJob (j := j) jobs .reported
  rw [← released.isReady] at hv
  obtain ⟨u, moved, ends⟩ := ended.resumesBehind jobs released.canonical once (by
    rw [← hv]
    exact may.imp_right (.intro free))
  rw [← hv] at moved ends
  have shut := moved.close_jobEnds ends.cells.frame closedOut
  rw [released.port, released.tick, released.isReady] at shut
  intro w
  have seen : w = _ := (congrArg State.closeEdits (State.fallAt_probe st (ok.engineOf meas))).trans shut
  have stop := ends.ended
  have starts := ends.starts
  rw [released.tick] at stop starts
  rw [seen]
  exact ⟨released.fallen ends.cells _, stop, starts, State.port_setPort_self ..⟩

end Acted

end

end Sys2Proof.Machine


/-! ## A readiness change (R3, R4, R116): O45 -/

namespace Sys2Proof.Machine

section
variable {b : State} {p : PortNo}

/-- A link falls into a new sequence or IDLE (R4, R22). -/
theorem State.fallAt_linked_close (closed : b.editsClosed) (st : (b.port p).status.state = .linked)
    (jobless : (b.port p).jobless) (short : (b.port p).history.length ≤ 4) :
    (b.fallAt p).closeEdits = b.setPort p (if (b.port p).prof.autoRetrain = true then
      ((b.port p).dropped b.tick .frontEnd (b.port p).link).sequenceStarted (b.isReady (quadOf p)) false
    else (((b.port p).dropped b.tick .frontEnd (b.port p).link).leftFor .idle).edited) := by
  have dropped := (Moves.start b p).dropLink .frontEnd
  rw [Port.linkDropped_silenced short] at dropped
  have answer := dropped.close_dropped closed jobless st rfl
  rw [Port.dropped_prof] at answer
  rw [State.fallAt_linked st, answer]

/-- An attempt fails (R4, R10). -/
theorem State.fallAt_attempt_close (closed : b.editsClosed) (st : (b.port p).status.state = .offer ∨
    (b.port p).status.state = .exchange ∨ (b.port p).status.state = .verify) :
    ((b.port p).settled → (b.port p).status.attempts < (b.port p).prof.attemptLimit →
      (b.fallAt p).closeEdits = b.setPort p ((b.port p).backedOff .frontEnd)) ∧
    ((b.port p).prof.attemptLimit ≤ (b.port p).status.attempts →
      b.sequenceEnds (.next (b.fallAt p).closeEdits) p ((b.port p).failedInto .frontEnd .idle) 3) := by
  have uncharged : (b.port p).chargedFor .frontEnd = b.port p := rfl
  have other : ∀ other : PortState, other ≠ .offer → other ≠ .exchange → other ≠ .verify →
      (b.port p).status.state ≠ other := fun other h1 h2 h3 same => by
    rw [same] at st
    exact st.elim h1 (Or.rec h2 h3)
  rw [State.fallAt_attempt st]
  refine ⟨fun settled left => ?_, fun limit => ?_⟩
  · have ends : ¬ (b.port p).endsSequence .frontEnd := by
      rintro (why | ⟨why, -⟩ | limit)
      · cases why
      · cases why
      · exact absurd limit (Nat.not_le.mpr left)
    rw [(Moves.start b p).failAttempt_backsOff closed (.refl _) settled (other _ nofun nofun nofun) ends, uncharged]
  · have ended := (Moves.start b p).failAttempt_final closed (.refl _) (other _ nofun nofun nofun)
      (why := .frontEnd) (.inr (.inr limit))
    rw [uncharged] at ended
    exact ended

end

/-- Settles O45: a calm port is left alone, so that a fall is the fall of one port. -/
theorem readinessChangesAct : Obligations.ReadinessChangesAct := by
  unfold Obligations.ReadinessChangesAct
  intro s q released closed calm
  refine ⟨exec_readinessFall_down closed, exec_readinessRise_up closed,
    fun up idle => exec_readinessFall_idle released closed up idle,
    fun down idle => exec_readinessRise_idle released closed down idle,
    fun up running quiet => exec_readinessFall_calm released closed up running quiet,
    fun p up running ofQuad quiet => ?_,
    fun down running => exec_readinessRise_running released closed down running,
    fun down running none => ?_, fun r down running alone ofQuad unclaimed free ungranted => ?_⟩
  · subst ofQuad
    intro x
    have taken := exec_readinessFall_at released up running quiet
    have unready : (s.setReady (quadOf p) false).isReady (quadOf p) = false := State.isReady_setReady_self ..
    refine ⟨fun st settled left => ?_, fun st settled limit => ?_, fun st jobless short => ?_,
      fun e m hm measures => ?_⟩
    · rw [taken, (State.fallAt_attempt_close (b := s.setReady (quadOf p) false) closed st).1 settled left]
      rfl
    · rw [taken]
      exact (State.fallAt_attempt_close (b := s.setReady (quadOf p) false) closed st).2 limit
    · rw [taken, State.fallAt_linked_close (b := s.setReady (quadOf p) false) closed st jobless short, unready]
      rfl
    · intro y fallen
      obtain ⟨ok, meas, rfl, -⟩ := measures
      have ok' : (s.setReady (quadOf m.holder) false).grantsOk := ok.of_parts rfl rfl rfl
      refine ⟨fun st settled => ?_, fun j later st jobs => ?_, fun st settled => ?_⟩
      · obtain ⟨seen, port⟩ := State.fallAt_check_seen ok' hm closed meas st settled
        exact ⟨_, ⟨taken, seen⟩, port⟩
      · intro v can
        obtain ⟨seen, ended, runs⟩ := State.fallAt_probe_seen ok' hm closed meas st jobs (v := v)
          (by rw [unready]; rfl) (can.once jobs) (can.imp_right fun ⟨_, _, rest⟩ => rest)
        exact ⟨_, ⟨taken, seen⟩, ended, runs⟩
      · obtain ⟨seen, port⟩ := State.fallAt_watched_seen ok' hm closed meas st settled
        exact ⟨_, ⟨taken, seen⟩, port⟩
  · have done : (s.setReady q true).grantsDone := by
      rcases none with empty | busy
      · exact .inr fun r mem => absurd (empty ▸ mem) List.not_mem_nil
      · exact .inl fun e isFree => (busy e).elim (absurd isFree.1) (absurd isFree.2)
    rw [exec_readinessRise_running released closed down running, State.applyGrantRule_done done]
  · subst ofQuad
    have grantable : (s.setReady (quadOf r.port) true).grantable r := ⟨unclaimed, State.isReady_setReady_self ..⟩
    have rule := State.applyGrantRule_alone (s := s.setReady (quadOf r.port) true) (e := 0) alone grantable
      ⟨free, ungranted⟩ fun f below => absurd below (Fin.not_lt_zero f)
    rw [exec_readinessRise_running released closed down running, rule]
    rfl

end Sys2Proof.Machine
